-- ==== Sys2Proof/Config.lean ====
section
/-! DEFINITION. The free values of the model: what the manual leaves open between two outcomes and
no rule decides. None has a body, so no proof can rest on a value of it. Each is applied to the
counter `draws` of the state, which advances whenever one is used (DESIGN CHOICE, safe:
assumptions 3 to 5). -/

namespace Sys2Proof

/-- Which of several events that fall together is taken first when the part runs on by itself: the
manual says that either may be taken first (Time and events; R21, R121, R145, R155). -/
opaque Config.tieBreak : Nat → Nat

/-- Whether drive loop 2 works a DRIVE sample before drive loop 1, at a sample that trips both:
the manual says that either latch may be taken first (R31, R155). -/
opaque Config.secondLoopFirst : Nat → Bool

/-- Whether a low pulse on RSTN shorter than 10 µs is taken as a reset: the manual says that it may
or may not be (R171). -/
opaque Config.shortPulseTaken : Nat → Bool

end Sys2Proof
end

