-- ==== Sys2Proof/Word.lean ====
section
/-! DEFINITION. The two bit widths the BK7314 has on its links and in its tables: a character of a
frame is one byte, and a frame item or a table word is sixteen bits (R134, R163, R168). -/

namespace Sys2Proof

/-- One character of a frame (R168). -/
abbrev Byte := BitVec 8

/-- One frame item or one table word (R163). -/
abbrev Word := BitVec 16

/-- The item value −32768, which marks an absent item (R4). -/
def absentWord : Word := 0x8000#16

end Sys2Proof
end

