-- ==== Sys2Proof/Machine/Arith.lean ====
section
/-! DEFINITION. The arithmetic that every chapter uses: the part's one rounding rule, clamping, and
the reading of a word as a signed number (R1, R2, R3, R4, R163). -/

namespace Sys2Proof.Machine

/-- R1: the rounded quotient of `a` by `b` > 0, to nearest, halves upward: the floor of (2a + b)
over 2b. -/
def roundDiv (a b : Int) : Int := (2 * a + b) / (2 * b)

/-- R2: `x` clamped to the range `lo` to `hi`. -/
def clamp (lo hi x : Int) : Int := if x < lo then lo else if hi < x then hi else x

/-- R2: `x` clamped to ±`m`. -/
def clampMag (m x : Int) : Int := clamp (-m) m x

/-- R3: +1, −1 or 0. -/
def signOf (x : Int) : Int := if 0 < x then 1 else if x < 0 then -1 else 0

/-- R3: the magnitude of `x`. -/
def mag (x : Int) : Int := if x < 0 then -x else x

/-- A number as a word, in two's complement (R163). -/
def wordOf (x : Int) : Word := BitVec.ofInt 16 x

/-- A word read as a signed number (R163). -/
def signed (w : Word) : Int := w.toInt

/-- A word read as an unsigned number (R163). -/
def unsigned (w : Word) : Int := (w.toNat : Int)

/-- R4: an item read as a number, or absent. -/
def itemValue (w : Word) : Option Int := if w = absentWord then none else some (signed w)

/-- R4: a number that may be absent, as an item. -/
def itemWord : Option Int → Word
  | none => absentWord
  | some x => wordOf x

/-- Milliseconds, as a setting gives them, in µs. -/
def msToMicros (ms : Int) : Nat := ms.toNat * 1000

/-- Seconds, as a setting gives them, in µs. -/
def secToMicros (sec : Int) : Nat := sec.toNat * 1000000

end Sys2Proof.Machine
end

