-- ==== Sys2Proof/Syntax.lean ====
section
/-! DEFINITION. The commands of the BK7314: one constructor of `Instr` per row of
spec/opcode_table.json. A command is a frame arrival, a pickup edge, the expiry of one of the
part's own timers, the start or completion of a transmission, or a reset event.

Every command begins with `dt`, the whole µs that have passed since the command before it, so that a
queue of commands also says when each of them comes; two commands of which the second has `dt` 0
fall together, and the queue's order says which is taken first. -/

namespace Sys2Proof

/-- Gearbox 1 (−X end) or gearbox 2 (+X end), and the drive loop, pickup, valve channel, pressure
and feed-forward curve that belong to it. -/
inductive Gear where
  | g1 | g2
deriving DecidableEq, Repr

/-- The other gearbox. -/
def Gear.partner : Gear → Gear
  | .g1 => .g2
  | .g2 => .g1

/-- Track A (timing) or track B (direction) of a pickup (R6). -/
inductive Track where
  | a | b
deriving DecidableEq, Repr

/-- The four body lanes; each is also the name of the sample source that it brings (R123). -/
inductive Lane where
  | drive | steer | attitude | slurry
deriving DecidableEq, Repr

/-- The four steering plates. -/
inductive Plate where
  | p1 | p2 | p3 | p4
deriving DecidableEq, Repr

/-- The seven output channels (R125). -/
inductive Channel where
  | valve (g : Gear)
  | plate (p : Plate)
  | pump
deriving DecidableEq, Repr

/-- The five frame ports: the shaft link above and the four lanes below (R134). -/
inductive Port where
  | shaft
  | lane (l : Lane)
deriving DecidableEq, Repr

/-- A frame as a buffer holds it: header, items and check (R168). LEN is the number of items. -/
structure Frame where
  dest  : Byte
  src   : Byte
  kind  : Byte
  items : List Word
  check : Word
deriving DecidableEq, Repr

/-- What a receiver has gathered when the line falls idle: the characters, in order, and whether any
of them had its stop bit low (R134). -/
structure Reception where
  chars   : List Byte
  stopLow : Bool
deriving DecidableEq, Repr

/-- The seven strap pins, as three values (R171). -/
structure Straps where
  addr  : BitVec 3
  teeth : BitVec 2
  rate  : BitVec 2
deriving DecidableEq, Repr

/-- Why the part goes into power-on reset: a low pulse on RSTN of so many µs, or the supply below
its range (R171). -/
inductive LowCause where
  | rstn (lowMicros : Nat)
  | supply
deriving DecidableEq, Repr

/-- The commands, in the order of the opcode table. `args` of an ORDER or TABLE command are the
items of its frame after item 0; `items` are all the items of the frame. -/
inductive Instr where
  /-- PICKUP_RAW_CHANGE (R7): the raw level of one pickup input becomes `level`. -/
  | pickupRawChange (dt : Nat) (g : Gear) (track : Track) (level : Bool)
  /-- FILTER_TIMER_EXPIRY (R7) of one pickup input. -/
  | filterTimerExpiry (dt : Nat) (g : Gear) (track : Track)
  /-- ZERO_WINDOW_EXPIRY (R16) of one gearbox. -/
  | zeroWindowExpiry (dt : Nat) (g : Gear)
  /-- DRIVE_UPDATE (R22): the update timer of one drive loop expires. -/
  | driveUpdate (dt : Nat) (g : Gear)
  /-- SAMPLE_ARRIVAL (R124): a frame whose KIND character is SAMPLE ends on a lane. -/
  | sampleArrival (dt : Nat) (lane : Lane) (rx : Reception)
  /-- LANE_FRAME_ARRIVAL (R119): any other frame ends on a lane. -/
  | laneFrameArrival (dt : Nat) (lane : Lane) (rx : Reception)
  /-- SILENCE_TIMER_EXPIRY (R121) of a lane. -/
  | silenceTimerExpiry (dt : Nat) (lane : Lane)
  /-- FRESHNESS_EXPIRY (R123) of a lane's sample source. -/
  | freshnessExpiry (dt : Nat) (lane : Lane)
  /-- DEPTH (R66): a DEPTH frame addressed to the part. -/
  | depth (dt : Nat) (items : List Word)
  /-- DEPTH_FRESHNESS_EXPIRY (R67). -/
  | depthFreshnessExpiry (dt : Nat)
  /-- STEERING_UPDATE (R84). -/
  | steeringUpdate (dt : Nat)
  /-- SLURRY_UPDATE (R101). -/
  | slurryUpdate (dt : Nat)
  /-- HOLD_DELAY_EXPIRY (R109). -/
  | holdDelayExpiry (dt : Nat)
  /-- PHASE_TIMER_EXPIRY (R110). -/
  | phaseTimerExpiry (dt : Nat)
  /-- ORDER_TIMER_EXPIRY (R153). -/
  | orderTimerExpiry (dt : Nat)
  /-- REPORT_TIMER_EXPIRY (R160). -/
  | reportTimerExpiry (dt : Nat)
  /-- KEEP (R150), code 1. -/
  | keep (dt : Nat) (args : List Word)
  /-- DRIVE_START (R23), code 2. -/
  | driveStart (dt : Nat) (args : List Word)
  /-- DRIVE_STOP (R25), code 3. -/
  | driveStop (dt : Nat) (args : List Word)
  /-- SPEED (R26), code 4. -/
  | speed (dt : Nat) (args : List Word)
  /-- CLASS (R56), code 5. -/
  | setClass (dt : Nat) (args : List Word)
  /-- MODE_GEARBOX (R30), code 6 with target word 1 or 2; `args` are the items after the target. -/
  | modeGearbox (dt : Nat) (g : Gear) (args : List Word)
  /-- MODE_STEERING (R85), code 6 with target word 3; `args` are the items after the target. -/
  | modeSteering (dt : Nat) (args : List Word)
  /-- MODE_PUMP (R112), code 6 with target word 4; `args` are the items after the target. -/
  | modePump (dt : Nat) (args : List Word)
  /-- PUMP_START (R103), code 7. -/
  | pumpStart (dt : Nat) (args : List Word)
  /-- PUMP_STOP (R108), code 8. -/
  | pumpStop (dt : Nat) (args : List Word)
  /-- PANEL_BEGIN (R69), code 9. -/
  | panelBegin (dt : Nat) (args : List Word)
  /-- PANEL_END (R70), code 10. -/
  | panelEnd (dt : Nat) (args : List Word)
  /-- SPACING (R76), code 11. -/
  | setSpacing (dt : Nat) (args : List Word)
  /-- TRIP_RESET (R157), code 12. -/
  | tripReset (dt : Nat) (args : List Word)
  /-- RESTART (R162), code 13. -/
  | restart (dt : Nat) (args : List Word)
  /-- TABLE_READ (R164): item 0 is 16. -/
  | tableRead (dt : Nat) (args : List Word)
  /-- TABLE_WRITE (R165): item 0 is 17. -/
  | tableWrite (dt : Nat) (args : List Word)
  /-- OPERATOR_DEMAND (R126): a DEMAND frame from the shaft link for address `dest`. -/
  | operatorDemand (dt : Nat) (dest : Byte) (items : List Word)
  /-- DEADMAN_EXPIRY (R127) of a channel. -/
  | deadmanExpiry (dt : Nat) (ch : Channel)
  /-- REFRESH_TIMER_EXPIRY (R129) of a lane. -/
  | refreshTimerExpiry (dt : Nat) (lane : Lane)
  /-- NODE_DOWN (R140): a NODE frame from the shaft link addressed to a lane node. -/
  | nodeDown (dt : Nat) (f : Frame)
  /-- SHAFT_FRAME_DISCARD (R140): a frame from the shaft link that is bad or that no rule takes. -/
  | shaftFrameDiscard (dt : Nat) (rx : Reception)
  /-- TRANSMISSION_START (R145) on a port. -/
  | transmissionStart (dt : Nat) (port : Port)
  /-- TRANSMISSION_COMPLETE (R145) on a port. -/
  | transmissionComplete (dt : Nat) (port : Port)
  /-- POWER_ON_RESET (R171): power-on reset ends with these values on the strap pins. -/
  | powerOnReset (dt : Nat) (straps : Straps)
  /-- ORDER_BAD_CODE (R150): an ORDER frame with no items or with a code outside 1 to 13. -/
  | orderBadCode (dt : Nat) (items : List Word)
  /-- TABLE_BAD_CODE (R163): a TABLE frame with no items or with item 0 neither 16 nor 17. -/
  | tableBadCode (dt : Nat) (items : List Word)
  /-- MODE_BAD_TARGET (R150): a MODE order whose target word is none of 1 to 4, or is missing. -/
  | modeBadTarget (dt : Nat) (args : List Word)
  /-- RSTN_LOW (R171): RSTN goes low, or the supply falls below its range. -/
  | rstnLow (dt : Nat) (cause : LowCause)
deriving DecidableEq, Repr

/-- The µs that have passed since the command before. -/
def Instr.dt : Instr → Nat
  | .pickupRawChange dt .. | .filterTimerExpiry dt .. | .zeroWindowExpiry dt ..
  | .driveUpdate dt .. | .sampleArrival dt .. | .laneFrameArrival dt ..
  | .silenceTimerExpiry dt .. | .freshnessExpiry dt .. | .depth dt ..
  | .depthFreshnessExpiry dt | .steeringUpdate dt | .slurryUpdate dt | .holdDelayExpiry dt
  | .phaseTimerExpiry dt | .orderTimerExpiry dt | .reportTimerExpiry dt | .keep dt ..
  | .driveStart dt .. | .driveStop dt .. | .speed dt .. | .setClass dt ..
  | .modeGearbox dt .. | .modeSteering dt .. | .modePump dt .. | .pumpStart dt ..
  | .pumpStop dt .. | .panelBegin dt .. | .panelEnd dt .. | .setSpacing dt ..
  | .tripReset dt .. | .restart dt .. | .tableRead dt .. | .tableWrite dt ..
  | .operatorDemand dt .. | .deadmanExpiry dt .. | .refreshTimerExpiry dt ..
  | .nodeDown dt .. | .shaftFrameDiscard dt .. | .transmissionStart dt ..
  | .transmissionComplete dt .. | .powerOnReset dt .. | .orderBadCode dt ..
  | .tableBadCode dt .. | .modeBadTarget dt .. | .rstnLow dt .. => dt

end Sys2Proof
end

