-- ==== Sys2Proof/Machine/Blocks.lean ====
section
/-! DEFINITION. The blocks of the BK7314 as plain data, as the manual divides the part. Quantities are
integers in the manual's fixed units; the writable tables are words in index order; times are whole
µs on the 1 MHz time base. -/

namespace Sys2Proof.Machine

/-! ## Containers for like things -/

/-- One of something per gearbox. -/
structure PerGear (α : Type) where
  one : α
  two : α
deriving DecidableEq, Repr

/-- One of something per lane (or per sample source). -/
structure PerLane (α : Type) where
  drive    : α
  steer    : α
  attitude : α
  slurry   : α
deriving DecidableEq, Repr

/-- One of something per plate. -/
structure PerPlate (α : Type) where
  p1 : α
  p2 : α
  p3 : α
  p4 : α
deriving DecidableEq, Repr

/-- One of something per frame port. -/
structure PerPort (α : Type) where
  shaft : α
  lane  : PerLane α
deriving DecidableEq, Repr

/-! ## Timers -/

/-- A timer of the part: idle, or running with the period it was started with (µs) since a moment
of the time base. -/
inductive Timer where
  | idle
  | running (period since : Nat)
deriving DecidableEq, Repr

/-! ## Speed measurement (chapter 1) -/

/-- The health of a pickup (R18). -/
inductive Health where
  | ok | fault
deriving DecidableEq, Repr

/-- The direction of rotation (R10). -/
inductive Direction where
  | forward | reverse
deriving DecidableEq, Repr

/-- One pickup input: the pin level, the accepted level and the filter timer (R7). True is high. -/
structure TrackState where
  raw      : Bool
  accepted : Bool
  filter   : Timer
deriving DecidableEq, Repr

/-- The measurement channel of one gearbox (the state table of chapter 1). -/
structure Pickup where
  a          : TrackState
  b          : TrackState
  ref        : Option Nat
  high       : Option Nat
  bEdge      : Bool
  history    : List Nat
  direction  : Direction
  zeroWindow : Timer
  health     : Health
  badRun     : Nat
  goodRun    : Nat
deriving DecidableEq, Repr

/-! ## Drive loops (chapter 2) -/

/-- The states of a drive loop. -/
inductive LoopState where
  | stopped | armed | run | held | unjam | opened | stopping | manual | tripped
deriving DecidableEq, Repr

/-- The phase of an UNJAM sequence. -/
inductive UnjamPhase where
  | none | reverse | forward
deriving DecidableEq, Repr

/-- One drive loop (the state table of chapter 2); `overCount` is the overpressure count. -/
structure DriveLoop where
  state        : LoopState
  ramped       : Int
  integ        : Int
  sat          : Bool
  torque       : Int
  stallCount   : Nat
  overCount    : Nat
  phase        : UnjamPhase
  phaseCount   : Nat
  phaseLength  : Nat
  attempts     : Nat
  recoverCount : Nat
  timer        : Timer
deriving DecidableEq, Repr

/-- Both drive loops and the base target they share (R26). -/
structure DriveBlock where
  base : Int
  loop : PerGear DriveLoop
deriving DecidableEq, Repr

/-! ## Class selector and tables (chapter 3) -/

/-- The class selector: the three tables of chapter 3, the operator class and the class in
effect. -/
structure Selector where
  classTable    : List Word
  bandTable     : List Word
  curveTable    : List Word
  operatorClass : Nat
  classInEffect : Nat
deriving DecidableEq, Repr

/-! ## Survey (chapter 4) -/

/-- The states of the survey. -/
inductive SurveyState where
  | idle | surveying | paused | full
deriving DecidableEq, Repr

/-- The station spacings (R5). -/
inductive Spacing where
  | normal | fine | extra
deriving DecidableEq, Repr

/-- One record of the trajectory table (R78). -/
structure Station where
  index        : Nat
  spacing      : Spacing
  interpolated : Bool
  disagree     : Bool
  count        : Nat
  meanX        : Int
  meanY        : Int
  meanR        : Int
  offsetX      : Int
  offsetY      : Int
deriving DecidableEq, Repr

/-- The survey (the state table of chapter 4). The trajectory table is held by rising index. -/
structure Survey where
  state            : SurveyState
  fusedX           : Int
  fusedY           : Int
  fusedR           : Int
  usable           : Bool
  disagree         : Bool
  disagreeRun      : Nat
  agreeRun         : Nat
  depth            : Nat
  received         : Bool
  fresh            : Bool
  timer            : Timer
  frontier         : Nat
  accX             : Int
  accY             : Int
  sumX             : Int
  sumY             : Int
  sumR             : Int
  count            : Nat
  intervalDisagree : Bool
  spacing          : Spacing
  pending          : Option Spacing
  trajectory       : List Station
deriving DecidableEq, Repr

/-! ## Steering (chapter 5) -/

/-- The states of steering. -/
inductive SteerState where
  | off | auto | hold | manual
deriving DecidableEq, Repr

/-- The steering block (the state table of chapter 5). -/
structure Steering where
  state   : SteerState
  timer   : Timer
  projX   : Option Int
  projY   : Option Int
  targets : PerPlate Int
  trim    : Int
deriving DecidableEq, Repr

/-! ## Slurry and production (chapter 6) -/

/-- The states of the slurry loop. -/
inductive SlurryState where
  | stopped | priming | run | agitate | flush | manual | tripped
deriving DecidableEq, Repr

/-- The agitation phase. -/
inductive AgitationPhase where
  | none | rest | burst
deriving DecidableEq, Repr

/-- The slurry and production block (the state table of chapter 6). -/
structure Slurry where
  state       : SlurryState
  timer       : Timer
  output      : Int
  integ       : Int
  dwellCount  : Nat
  dwellLength : Nat
  detectCount : Nat
  suctionCount : Nat
  holdDelay   : Timer
  phase       : AgitationPhase
  phaseTimer  : Timer
  cut         : Int
  feed        : Int
deriving DecidableEq, Repr

/-! ## Lanes and demand images (chapter 7) -/

/-- The states of a lane. -/
inductive LaneState where
  | wait | up | fault
deriving DecidableEq, Repr

/-- One lane with its sample source (the state table of chapter 7). `items` are the latest items of
the source in the order of R124. The refresh timer and the pending composition of a lane without
channels stay idle and clear. -/
structure LaneBox where
  state      : LaneState
  silence    : Timer
  badRun     : Nat
  fresh      : Bool
  freshTimer : Timer
  items      : List (Option Int)
  refresh    : Timer
  compose    : Bool
deriving DecidableEq, Repr

/-- Whose requests set a channel's requested value (R125). -/
inductive Owner where
  | loop | operator
deriving DecidableEq, Repr

/-- A demand record (R125) with the channel's deadman timer (R127). -/
structure Demand where
  requested : Int
  lastSent  : Int
  owner     : Owner
  clamped   : Bool
  deadman   : Timer
deriving DecidableEq, Repr

/-- The lane block: the lanes, the demand records and the envelope table. -/
structure LaneBlock where
  lane     : PerLane LaneBox
  valve    : PerGear Demand
  plate    : PerPlate Demand
  pump     : Demand
  envelope : List Word
deriving DecidableEq, Repr

/-! ## Frame path (chapter 8) -/

/-- What a queued frame is: a forwarded SAMPLE or NODE frame, or one of the part's own frames. -/
inductive Tag where
  | sample | node | demand | reply | periodic | urgent
deriving DecidableEq, Repr

/-- A frame that holds a buffer of the pool, by the buffer's number 0 to 39. -/
structure Queued where
  buffer : Nat
  tag    : Tag
  frame  : Frame
deriving DecidableEq, Repr

/-- A transmission in progress: the frame, and the moment it started. -/
structure Transmission where
  entry : Queued
  since : Nat
deriving DecidableEq, Repr

/-- The receive area of a port: the characters it stores of the frame being received, how many
characters have come, and whether any of them had its stop bit low (R134). -/
structure ReceiveArea where
  stored   : List Byte
  received : Nat
  stopLow  : Bool
deriving DecidableEq, Repr

/-- A character that is coming on a line: the ticks since its start bit began, and the data bits sampled
so far (R172). -/
structure CharProgress where
  ticks : Nat
  bits  : List Bool
deriving DecidableEq, Repr

/-- The receiver of a port, tick by tick of the 16 MHz crystal (R134, R172): the character that is
coming, whether the line has stayed low since a stop bit that was sampled low, the characters of the
frame so far, and the ticks of idle line that are left until its end. -/
structure Receiver where
  char : Option CharProgress
  low  : Bool
  got  : Reception
  left : Nat
deriving DecidableEq, Repr

/-- The receive pin of a port: the levels that come on it, one a tick, its receiver, and the frames that
have ended on it and whose arrival has not been taken yet. -/
structure LineInput where
  incoming : List Bool
  receiver : Receiver
  arrived  : List Reception
deriving DecidableEq, Repr

/-- The frame path (the state table of chapter 8). The queue of the shaft link port is the upper
queue; `free` is the free list, head first. -/
structure FramePath where
  area       : PerPort ReceiveArea
  free       : List Nat
  queue      : PerPort (List Queued)
  tx         : PerPort (Option Transmission)
  route      : List Word
  decimation : List Nat
  arbiter    : Nat
deriving DecidableEq, Repr

/-! ## Orders, trips and reports (chapter 9) -/

/-- The order link. -/
inductive LinkState where
  | dormant | live | warn | lost
deriving DecidableEq, Repr

/-- The eleven trip kinds (R155). -/
inductive TripKind where
  | orderLost
  | overpressure (g : Gear)
  | jam (g : Gear)
  | primeFail
  | suction
  | laneTrip (l : Lane)
deriving DecidableEq, Repr

/-- The first-trip record (R156). -/
structure TripRecord where
  kind     : TripKind
  depth    : Option Nat
  speed1   : Int
  speed2   : Int
  p1       : Option Int
  p2       : Option Int
  feed     : Int
  frontier : Option Nat
deriving DecidableEq, Repr

/-- The orders block (the state table of chapter 9). The trip latch set is a list in priority order
without repeats, so that equal sets are equal data. -/
structure Orders where
  link        : LinkState
  timer       : Timer
  trips       : List TripKind
  record      : Option TripRecord
  reportTimer : Timer
deriving DecidableEq, Repr

end Sys2Proof.Machine
end

