-- ==== Sys2Proof/Machine/Defaults.lean ====
section
/-! DEFINITION. The values that power-on reset gives the six writable tables (R52, R54, R60, R128,
R136, R166), as words in index order. -/

namespace Sys2Proof.Machine

/-- R52: the default rows of the class table, row 0 to row 7, each of 21 fields. -/
def defaultClassRows : List (List Word) :=
  [ [3600, 1500, 60, 320, 24, 300, 2400, 3000, 384, 3400, 2900, 120, 15, 1000, 20, 40, 3, 700, 5, 3600, 400],
    [3400, 1400, 60, 320, 24, 300, 2500, 3100, 384, 3500, 3000, 120, 15, 1000, 20, 40, 3, 700, 5, 3800, 360],
    [3200, 1300, 50, 352, 28, 350, 2600, 3200, 320, 3600, 3100, 100, 12, 900, 20, 40, 3, 650, 5, 4000, 320],
    [3000, 1200, 50, 384, 32, 400, 2800, 3400, 256, 3700, 3200, 100, 10, 800, 20, 40, 3, 600, 5, 4200, 300],
    [2800, 1100, 40, 384, 32, 400, 3000, 3600, 256, 3900, 3400, 100, 10, 800, 25, 50, 4, 550, 6, 4400, 240],
    [2500, 1000, 40, 416, 36, 450, 3100, 3700, 256, 4000, 3500, 80, 8, 700, 25, 50, 4, 500, 6, 4600, 180],
    [2200, 900, 30, 448, 40, 500, 3200, 3800, 192, 4100, 3600, 80, 8, 600, 30, 60, 5, 450, 8, 4800, 120],
    [2000, 800, 30, 480, 40, 500, 3300, 3900, 192, 4200, 3700, 80, 6, 600, 30, 60, 5, 400, 8, 5000, 80] ]

def defaultClassTable : List Word := defaultClassRows.flatten

/-- R54: every entry from 0, to 0, empty. -/
def defaultBandTable : List Word := (List.replicate 16 [0#16, 0#16, 65535#16]).flatten

/-- R60: curve 1 and curve 2 by default. -/
def defaultFeedForward : List Word :=
  [0, 0, 500, 120, 1000, 230, 1500, 335, 2000, 440, 2500, 545, 3000, 650, 3500, 760, 4000, 870]

/-- R60: the default curves 1 to 5, point by point, x before y. -/
def defaultCurveTable : List Word :=
  defaultFeedForward ++ defaultFeedForward ++
  [0, 0, 20, 0, 50, 100, 100, 250, 200, 450, 400, 650, 800, 800, 1500, 900, 3000, 1000] ++
  [0, 0, 50, 0, 100, 80, 200, 200, 400, 380, 800, 600, 1500, 800, 3000, 950, 6000, 1000] ++
  [0, 0, 20, 0, 50, 10, 100, 40, 200, 100, 400, 160, 800, 200, 1600, 240, 3200, 260]

/-- R128: min, max and slew of valve 1, valve 2, plates P1 to P4 and the pump. -/
def defaultEnvelope : List Word :=
  (List.replicate 6 [wordOf (-1000), wordOf 1000, 0#16]).flatten ++ [0, 1000, 0]

/-- R136: addresses 16 to 19 are mapped to the four lanes; every other entry is 0, 0, 0. -/
def defaultRoute : List Word :=
  List.replicate 48 0#16 ++ [1, 5, 1, 2, 2, 1, 3, 2, 1, 4, 1, 1] ++ List.replicate 132 0#16

/-- One row of the settings list of R166: its range, both ends included, and its default. -/
structure SettingRow where
  lo      : Int
  hi      : Int
  default : Int
deriving DecidableEq, Repr

/-- R166: the 43 settings in index order. -/
def settingRows : List SettingRow :=
  [ ⟨0, 250, 40⟩, ⟨1, 8, 4⟩, ⟨50, 2000, 500⟩, ⟨10, 100, 20⟩, ⟨10, 5000, 300⟩, ⟨100, 5000, 500⟩,
    ⟨50, 1000, 100⟩, ⟨0, 5000, 1500⟩, ⟨-32767, 32767, 0⟩, ⟨-32767, 32767, 0⟩, ⟨-20000, 20000, 0⟩,
    ⟨0, 200, 20⟩, ⟨0, 4096, 512⟩, ⟨0, 1000, 200⟩, ⟨50, 1000, 100⟩, ⟨0, 1000, 300⟩, ⟨1, 200, 25⟩,
    ⟨0, 1000, 900⟩, ⟨1, 255, 20⟩, ⟨0, 6000, 400⟩, ⟨0, 4096, 64⟩, ⟨0, 1024, 8⟩, ⟨0, 2000, 150⟩,
    ⟨1, 1000, 20⟩, ⟨1, 255, 50⟩, ⟨10, 3600, 120⟩, ⟨0, 1000, 150⟩, ⟨10, 3600, 100⟩, ⟨0, 1000, 600⟩,
    ⟨1, 600, 20⟩, ⟨1, 600, 30⟩, ⟨128, 1024, 256⟩, ⟨1000, 2000, 1150⟩, ⟨1000, 2000, 1300⟩,
    ⟨20, 2000, 200⟩, ⟨20, 2000, 100⟩, ⟨20, 2000, 300⟩, ⟨20, 2000, 300⟩, ⟨20, 2000, 300⟩,
    ⟨100, 5000, 500⟩, ⟨20, 1000, 100⟩, ⟨200, 5000, 1000⟩, ⟨50, 5000, 250⟩ ]

def defaultSettings : List Word := settingRows.map fun r => wordOf r.default

end Sys2Proof.Machine
end

