-- ==== Sys2Proof/Machine/PowerOn.lean ====
section
/-! DEFINITION. The values that power-on reset gives each block (R20, R49, R58, R82, R100, R118, R133,
R149, R162). -/

namespace Sys2Proof.Machine

def TrackState.powerOn (level : Bool) : TrackState :=
  { raw := level, accepted := level, filter := .idle }

/-- R20, with the raw levels of the two pins at the end of the reset. -/
def Pickup.powerOn (levelA levelB : Bool) : Pickup :=
  { a := .powerOn levelA, b := .powerOn levelB, ref := none, high := none, bEdge := false
    history := [], direction := .forward, zeroWindow := .idle, health := .ok
    badRun := 0, goodRun := 0 }

/-- R49; the update timer starts at the end of the reset. The phase length before the first phase is a
DESIGN CHOICE (assumption 7). -/
def DriveLoop.powerOn (timer : Timer) : DriveLoop :=
  { state := .stopped, ramped := 0, integ := 0, sat := false, torque := 1024, stallCount := 0
    overCount := 0, phase := .none, phaseCount := 0, phaseLength := 0, attempts := 0
    recoverCount := 0, timer := timer }

/-- R52, R54, R56, R58, R60. -/
def Selector.powerOn : Selector :=
  { classTable := defaultClassTable, bandTable := defaultBandTable
    curveTable := defaultCurveTable, operatorClass := 0, classInEffect := 0 }

/-- R82. -/
def Survey.powerOn : Survey :=
  { state := .idle, fusedX := 0, fusedY := 0, fusedR := 0, usable := false, disagree := false
    disagreeRun := 0, agreeRun := 0, depth := 0, received := false, fresh := false, timer := .idle
    frontier := 0, accX := 0, accY := 0, sumX := 0, sumY := 0, sumR := 0, count := 0
    intervalDisagree := false, spacing := .normal, pending := none, trajectory := [] }

/-- R100. -/
def Steering.powerOn (timer : Timer) : Steering :=
  { state := .off, timer := timer, projX := none, projY := none, targets := ⟨0, 0, 0, 0⟩, trim := 0 }

/-- R118. The dwell length before the first dwell is a DESIGN CHOICE (assumption 7). -/
def Slurry.powerOn (timer : Timer) : Slurry :=
  { state := .stopped, timer := timer, output := 0, integ := 0, dwellCount := 0, dwellLength := 0
    detectCount := 0, suctionCount := 0, holdDelay := .idle, phase := .none, phaseTimer := .idle
    cut := 1024, feed := 0 }

/-- R133, with so many items in the lane's role (R124). -/
def LaneBox.powerOn (roleCount : Nat) : LaneBox :=
  { state := .wait, silence := .idle, badRun := 0, fresh := false, freshTimer := .idle
    items := List.replicate roleCount none, refresh := .idle, compose := false }

/-- R133. -/
def Demand.powerOn : Demand :=
  { requested := 0, lastSent := 0, owner := .loop, clamped := false, deadman := .idle }

/-- R128, R133. -/
def LaneBlock.powerOn : LaneBlock :=
  { lane := ⟨.powerOn 2, .powerOn 4, .powerOn 5, .powerOn 3⟩
    valve := ⟨.powerOn, .powerOn⟩, plate := ⟨.powerOn, .powerOn, .powerOn, .powerOn⟩
    pump := .powerOn, envelope := defaultEnvelope }

/-- R141: the 40 buffers; their order on the free list is a DESIGN CHOICE (assumption 8). -/
def allBuffers : List Nat := List.range 40

def PerPort.all {α : Type} (x : α) : PerPort α := ⟨x, ⟨x, x, x, x⟩⟩

/-- A receive area in which no character has come. -/
def ReceiveArea.empty : ReceiveArea := { stored := [], received := 0, stopLow := false }

/-- R171, R172: a receiver in which no character is coming and none has come. -/
def Receiver.idle : Receiver := { char := none, low := false, got := ⟨[], false⟩, left := 0 }

/-- R171, R172: an idle line, on which no level is known to come. -/
def LineInput.idle : LineInput := { incoming := [], receiver := .idle, arrived := [] }

/-- R136, R149. -/
def FramePath.powerOn : FramePath :=
  { area := .all .empty, free := allBuffers, queue := .all [], tx := .all none, route := defaultRoute
    decimation := List.replicate 64 0, arbiter := 0 }

/-- R162: DORMANT, no trip, no record; the report timer is started. -/
def Orders.powerOn (reportTimer : Timer) : Orders :=
  { link := .dormant, timer := .idle, trips := [], record := none, reportTimer := reportTimer }

/-- The default drive update period, in µs (R21). -/
def driveStartPeriod : Nat := 20000

/-- The default steering update period, in µs (R83). -/
def steerStartPeriod : Nat := 100000

/-- The default slurry update period, in µs (R101). -/
def slurryStartPeriod : Nat := 100000

/-- The default report interval, in µs (R160). -/
def reportStartInterval : Nat := 250000

end Sys2Proof.Machine
end

