-- ==== Sys2Proof/Machine/Frames.lean ====
section
/-! DEFINITION. Frames as characters and characters as bits: the KIND codes, the check, the layout, the
levels on a line, what a receive area stores, and the test that makes a received frame bad (R134,
R168, R172). -/

namespace Sys2Proof.Machine

/-- The KIND codes of R168. -/
def kindSample : Byte := 1
def kindDemand : Byte := 2
def kindDepth : Byte := 3
def kindOrder : Byte := 4
def kindTable : Byte := 5
def kindReply : Byte := 6
def kindReport : Byte := 7
def kindNode : Byte := 8

/-- One bit into the CRC register, polynomial x^16 + x^12 + x^5 + 1 (R168). -/
def crcBit (crc : Word) (bit : Bool) : Word :=
  if crc.msb = bit then crc <<< 1 else (crc <<< 1) ^^^ 0x1021#16

/-- One character into the CRC register, most significant bit first (R168). -/
def crcByte (crc : Word) (c : Byte) : Word :=
  [7, 6, 5, 4, 3, 2, 1, 0].foldl (fun r i => crcBit r (c.getLsbD i)) crc

/-- The check over a list of characters: the register starts at all ones, with no reflection and no
final inversion (R168). -/
def crc (cs : List Byte) : Word := cs.foldl crcByte 0xFFFF#16

/-- A word as two characters, high byte first (R168). -/
def wordBytes (w : Word) : List Byte := [w.extractLsb' 8 8, w.extractLsb' 0 8]

/-- Characters two by two as words, high byte first; an odd last character is left out. -/
def bytesWords : List Byte → List Word
  | hi :: lo :: rest => (hi ++ lo) :: bytesWords rest
  | _ => []

/-- The header and the items of a frame, which the check covers (R168). -/
def headerAndItems (dest src kind : Byte) (items : List Word) : List Byte :=
  [dest, src, kind, BitVec.ofNat 8 items.length] ++ items.flatMap wordBytes

/-- A frame with the check that belongs to its contents (R168). -/
def mkFrame (dest src kind : Byte) (items : List Word) : Frame :=
  { dest := dest, src := src, kind := kind, items := items
    check := crc (headerAndItems dest src kind items) }

/-- The characters of a frame, in the order in which they are sent (R168). -/
def frameChars (f : Frame) : List Byte :=
  headerAndItems f.dest f.src f.kind f.items ++ wordBytes f.check

/-- The levels of a character on a line, bit time by bit time: a low start bit, the eight data bits
least significant first, and a high stop bit (R172). -/
def charBits (c : Byte) : List Bool :=
  [false, c.getLsbD 0, c.getLsbD 1, c.getLsbD 2, c.getLsbD 3, c.getLsbD 4, c.getLsbD 5, c.getLsbD 6,
    c.getLsbD 7, true]

/-- The levels of a frame on a line, bit time by bit time (R168, R172). -/
def frameBits (f : Frame) : List Bool := (frameChars f).flatMap charBits

/-- Levels that last a bit time each, tick by tick, with so many ticks a bit (R172). -/
def ticksOf (bit : Nat) (levels : List Bool) : List Bool := levels.flatMap (List.replicate bit)

/-- A character of eight data bits, least significant first (R172). -/
def bitsByte (bits : List Bool) : Byte :=
  bits.foldr (fun bit c => (c <<< 1) ||| (BitVec.ofBool bit).setWidth 8) 0#8

/-- How many characters a receive area stores of one frame (R134). -/
def receiveLimit : Nat := 54

/-- R134: a character comes; it is stored if the area has room, and counted in either case. -/
def ReceiveArea.take (area : ReceiveArea) (c : Byte) : ReceiveArea :=
  { area with
    stored := if area.stored.length < receiveLimit then area.stored ++ [c] else area.stored
    received := area.received + 1 }

/-- A receive area once the characters of `rx` have come. -/
def ReceiveArea.gather (area : ReceiveArea) (rx : Reception) : ReceiveArea :=
  { rx.chars.foldl ReceiveArea.take area with stopLow := area.stopLow || rx.stopLow }

/-- What an empty receive area holds once the characters of a frame have come. -/
def received (rx : Reception) : ReceiveArea := ReceiveArea.empty.gather rx

/-- KIND is one of SAMPLE to NODE (R134). -/
def kindKnown (kind : Byte) : Bool := decide (1 ≤ kind.toNat ∧ kind.toNat ≤ 8)

/-- R134: the frame that a receive area holds, or none if the frame is bad: its check fails, DEST or
SRC exceeds 63, its KIND is unknown, or LEN exceeds 24. -/
def goodFrame (area : ReceiveArea) : Option Frame :=
  match area.stored with
  | dest :: src :: kind :: len :: body =>
    let payload := body.take (2 * len.toNat)
    let check := bytesWords (body.drop (2 * len.toNat))
    if area.stopLow = false ∧ area.received = 6 + 2 * len.toNat ∧
        check = [crc ([dest, src, kind, len] ++ payload)] ∧
        dest.toNat ≤ 63 ∧ src.toNat ≤ 63 ∧ kindKnown kind = true ∧ len.toNat ≤ 24 then
      some { dest := dest, src := src, kind := kind, items := bytesWords payload
             check := crc ([dest, src, kind, len] ++ payload) }
    else none
  | _ => none

/-- The KIND character of a reception, if it came. -/
def kindChar (rx : Reception) : Option Byte := rx.chars[2]?

/-- How many character times a frame occupies a transmitter: its characters and the idle gap
(R145). -/
def frameCharTimes (f : Frame) : Nat := 9 + 2 * f.items.length

end Sys2Proof.Machine
end

