-- ==== Sys2Proof/Machine/Receiver.lean ====
section
/-! DEFINITION. A receiver at the ticks of the 16 MHz crystal: where it samples, when a start bit counts,
and how it finds the end of a frame on a line (R134, R172). -/

namespace Sys2Proof.Machine

/-- The ticks of the idle line that end a frame: 3 character times (R134, R172). -/
def idleTicks (bit : Nat) : Nat := 30 * bit

/-- The ticks of a bit time that are left once its middle has been sampled (R172). -/
def afterMiddle (bit : Nat) : Nat := bit - bit / 2 - 1

/-- The line is idle for one tick, with no character coming: the end of the frame comes nearer. -/
def Receiver.idleTick (r : Receiver) : Receiver × Option Reception :=
  if r.got.chars = [] then ({ r with low := false }, none)
  else if 1 < r.left then ({ r with low := false, left := r.left - 1 }, none)
  else (.idle, some r.got)

/-- R172: tick `since` of a character whose first `bits` data bits have been sampled, on a line at this
level. A start bit that ends before its middle is not taken as a character; each data bit and the
stop bit is sampled at its middle. That the idle time begins anew after a start bit that is not taken is
a DESIGN CHOICE (assumption 25). -/
def Receiver.charTick (bit : Nat) (level : Bool) (since : Nat) (bits : List Bool) (r : Receiver) :
    Receiver :=
  if since < bit / 2 ∧ level = true then { r with char := none, low := false, left := idleTicks bit }
  else if since ≠ (bits.length + 1) * bit + bit / 2 then { r with char := some ⟨since + 1, bits⟩ }
  else if bits.length < 8 then { r with char := some ⟨since + 1, bits ++ [level]⟩ }
  else
    { char := none, low := !level, left := afterMiddle bit + idleTicks bit
      got := ⟨r.got.chars ++ [bitsByte bits], r.got.stopLow || !level⟩ }

/-- One tick of a receiver on a line at this level, with so many ticks a bit; and the frame that ends at
it, if one does. Where the line stays low after a stop bit that was sampled low, the receiver waits
for it to rise before a start bit can begin (DESIGN CHOICE, assumption 25). -/
def Receiver.tick (bit : Nat) (level : Bool) (r : Receiver) : Receiver × Option Reception :=
  match r.char, level, r.low with
  | some c, _, _ => (r.charTick bit level c.ticks c.bits, none)
  | none, false, false => ({ r with char := some ⟨1, []⟩ }, none)
  | none, false, true => ({ r with left := idleTicks bit }, none)
  | none, true, _ => r.idleTick

/-- A receiver over the levels of a line, tick by tick. -/
def LineInput.hear (bit : Nat) : List Bool → LineInput → LineInput
  | [], x => x
  | level :: rest, x =>
    let next := x.receiver.tick bit level
    LineInput.hear bit rest
      { x with receiver := next.1, arrived := x.arrived ++ next.2.toList }

/-- The ticks of an idle line that a receiver can still work on: at most those of a character and of the
idle time that ends a frame. -/
def Receiver.restTicks (bit : Nat) (r : Receiver) : Nat := if r = .idle then 0 else 41 * bit

/-- R171: so many ticks pass on a line in power-on reset; no character is received. -/
def LineInput.ignore (ticks : Nat) (x : LineInput) : LineInput :=
  { x with incoming := x.incoming.drop ticks }

/-- So many ticks pass on a line. After the levels that are known to come, the line is idle high. -/
def LineInput.pass (bit ticks : Nat) (x : LineInput) : LineInput :=
  let known := LineInput.hear bit (x.incoming.take ticks) (x.ignore ticks)
  known.hear bit
    (List.replicate (min (ticks - x.incoming.length) (known.receiver.restTicks bit)) true)

/-- R171: the receiver of a port whose part goes into power-on reset, or comes out of it. -/
def LineInput.cleared (x : LineInput) : LineInput :=
  { incoming := x.incoming, receiver := .idle, arrived := [] }

end Sys2Proof.Machine
end

