-- ==== Sys2Proof/Machine/State.lean ====
section
/-! DEFINITION. The state of the BK7314 as plain data, the reasons to stop, and the machine right after
power-on reset. -/

namespace Sys2Proof.Machine

/-- The state of the part. `pending`, `now`, `draws`, `line` and the levels that come in `inputs` are the
model's own: the commands that wait, the time base, the counter that the free values are applied to,
what the last transmission that ended on each port has put on its line, and what the lines into the
part will bring. -/
structure State where
  pending  : List Instr
  now      : Nat
  draws    : Nat
  line     : PerPort (List Byte)
  inputs   : PerPort LineInput
  inReset  : Bool
  straps   : Straps
  pickup   : PerGear Pickup
  drive    : DriveBlock
  selector : Selector
  survey   : Survey
  steering : Steering
  slurry   : Slurry
  lanes    : LaneBlock
  path     : FramePath
  orders   : Orders
  settings : List Word
deriving DecidableEq, Repr

/-! ## Reasons to stop -/

/-- No command of this part stops with a fault: every row of the opcode table has an effect in every
state, and the part has no addresses outside its tables that a command could reach. -/
inductive Fault where
deriving DecidableEq, Repr

/-- The one refusal: a command that has no meaning yet. Every command has its meaning, so no arm
raises it. Safe: it would stop where the part goes on. -/
inductive Refusal where
  | notModelled (mnemonic : String)
deriving DecidableEq, Repr

/-- The part at the end of power-on reset (R171), with the given pin levels, at moment `now`: every
block at its power-on values, and the four kinds of timer that run in every state started with the
default periods (R21, R83, R101, R160). -/
def State.powerOn (pending : List Instr) (now draws : Nat) (line : PerPort (List Byte))
    (inputs : PerPort LineInput) (straps : Straps) (a1 b1 a2 b2 : Bool) : State :=
  { pending := pending, now := now, draws := draws, line := line, inputs := inputs
    inReset := false, straps := straps
    pickup := ⟨.powerOn a1 b1, .powerOn a2 b2⟩
    drive :=
      { base := 0
        loop := ⟨.powerOn (.running driveStartPeriod now), .powerOn (.running driveStartPeriod now)⟩ }
    selector := .powerOn
    survey := .powerOn
    steering := .powerOn (.running steerStartPeriod now)
    slurry := .powerOn (.running slurryStartPeriod now)
    lanes := .powerOn
    path := .powerOn
    orders := .powerOn (.running reportStartInterval now)
    settings := defaultSettings }

/-- The machine right after power-on reset with the strap pins and the pickup inputs low (the pin
levels are a DESIGN CHOICE, unsafe: assumption 2); no command waits, and no level is known to come. -/
def State.reset : State :=
  State.powerOn [] 0 0 (.all []) (.all .idle) ⟨0, 0, 0⟩ false false false false

end Sys2Proof.Machine
end

