-- ==== Sys2Proof/Machine/Ops.lean ====
section
/-! DEFINITION. The operations that the blocks share: access to the parts of the state, timers,
settings, class fields, the curve lookup, the buffer pool, the demand records and the composition of
DEMAND frames. -/

namespace Sys2Proof.Machine

/-! ## Containers -/

def PerGear.get {α : Type} (x : PerGear α) : Gear → α
  | .g1 => x.one
  | .g2 => x.two

def PerGear.set {α : Type} (x : PerGear α) (g : Gear) (v : α) : PerGear α :=
  match g with
  | .g1 => { x with one := v }
  | .g2 => { x with two := v }

def PerLane.get {α : Type} (x : PerLane α) : Lane → α
  | .drive => x.drive
  | .steer => x.steer
  | .attitude => x.attitude
  | .slurry => x.slurry

def PerLane.set {α : Type} (x : PerLane α) (l : Lane) (v : α) : PerLane α :=
  match l with
  | .drive => { x with drive := v }
  | .steer => { x with steer := v }
  | .attitude => { x with attitude := v }
  | .slurry => { x with slurry := v }

def PerPlate.get {α : Type} (x : PerPlate α) : Plate → α
  | .p1 => x.p1
  | .p2 => x.p2
  | .p3 => x.p3
  | .p4 => x.p4

def PerPlate.set {α : Type} (x : PerPlate α) (p : Plate) (v : α) : PerPlate α :=
  match p with
  | .p1 => { x with p1 := v }
  | .p2 => { x with p2 := v }
  | .p3 => { x with p3 := v }
  | .p4 => { x with p4 := v }

def PerPort.get {α : Type} (x : PerPort α) : Port → α
  | .shaft => x.shaft
  | .lane l => x.lane.get l

def PerPort.set {α : Type} (x : PerPort α) (p : Port) (v : α) : PerPort α :=
  match p with
  | .shaft => { x with shaft := v }
  | .lane l => { x with lane := x.lane.set l v }

/-! ## Access to the parts of the state -/

def State.loopOf (s : State) (g : Gear) : DriveLoop := s.drive.loop.get g

def State.pickupOf (s : State) (g : Gear) : Pickup := s.pickup.get g

def State.laneOf (s : State) (l : Lane) : LaneBox := s.lanes.lane.get l

/-- The demand record of a channel (R125). -/
def State.demand (s : State) : Channel → Demand
  | .valve g => s.lanes.valve.get g
  | .plate p => s.lanes.plate.get p
  | .pump => s.lanes.pump

/-- The frames that wait for a port, oldest first. -/
def State.queueOf (s : State) (p : Port) : List Queued := s.path.queue.get p

/-- What a port is transmitting. -/
def State.txOf (s : State) (p : Port) : Option Transmission := s.path.tx.get p

def State.onLoop (g : Gear) (f : DriveLoop → DriveLoop) (s : State) : State :=
  { s with drive := { s.drive with loop := s.drive.loop.set g (f (s.loopOf g)) } }

def State.onPickup (g : Gear) (f : Pickup → Pickup) (s : State) : State :=
  { s with pickup := s.pickup.set g (f (s.pickupOf g)) }

def State.onSelector (f : Selector → Selector) (s : State) : State :=
  { s with selector := f s.selector }

def State.onSurvey (f : Survey → Survey) (s : State) : State := { s with survey := f s.survey }

def State.onSteering (f : Steering → Steering) (s : State) : State :=
  { s with steering := f s.steering }

def State.onSlurry (f : Slurry → Slurry) (s : State) : State := { s with slurry := f s.slurry }

def State.onLanes (f : LaneBlock → LaneBlock) (s : State) : State := { s with lanes := f s.lanes }

def State.onPath (f : FramePath → FramePath) (s : State) : State := { s with path := f s.path }

def State.onOrders (f : Orders → Orders) (s : State) : State := { s with orders := f s.orders }

def State.onLane (l : Lane) (f : LaneBox → LaneBox) (s : State) : State :=
  s.onLanes fun b => { b with lane := b.lane.set l (f (b.lane.get l)) }

def State.onDemand (ch : Channel) (f : Demand → Demand) (s : State) : State :=
  s.onLanes fun b =>
    match ch with
    | .valve g => { b with valve := b.valve.set g (f (b.valve.get g)) }
    | .plate p => { b with plate := b.plate.set p (f (b.plate.get p)) }
    | .pump => { b with pump := f b.pump }

/-! ## Time -/

/-- A character time of a port in µs, by the RATE strap on the shaft link (R172). -/
def State.charMicros (s : State) : Port → Nat
  | .shaft =>
    match s.straps.rate.toNat with
    | 0 => 80
    | 1 => 40
    | 2 => 20
    | _ => 10
  | .lane _ => 5

/-- The ticks of a µs, of the 16 MHz crystal (R172). -/
def microTicks : Nat := 16

/-- A bit time of a port in ticks of the crystal, a tenth of its character time (R172). -/
def State.bitTicks (s : State) (p : Port) : Nat := s.charMicros p * microTicks / 10

/-- One of something per port. -/
def PerPort.of {α : Type} (f : Port → α) : PerPort α :=
  ⟨f .shaft, ⟨f (.lane .drive), f (.lane .steer), f (.lane .attitude), f (.lane .slurry)⟩⟩

/-- So many µs pass on the lines into the part (R171, R172). -/
def State.passInputs (s : State) (dt : Nat) : PerPort LineInput :=
  .of fun p =>
    if s.inReset then (s.inputs.get p).ignore (dt * microTicks)
    else (s.inputs.get p).pass (s.bitTicks p) (dt * microTicks)

/-- So many µs pass on the 1 MHz time base (R6), and on the lines into the part. -/
def State.elapse (dt : Nat) (s : State) : State :=
  { s with now := s.now + dt, inputs := s.passInputs dt }

/-- A timer started now with a period in µs. -/
def State.startTimer (s : State) (period : Nat) : Timer := .running period s.now

def Timer.isRunning : Timer → Bool
  | .idle => false
  | .running _ _ => true

/-- A running timer whose period has passed. -/
def Timer.due (now : Nat) : Timer → Bool
  | .idle => false
  | .running period since => decide (since + period ≤ now)

/-- The event of a command at its moment: `dt` µs pass, and then, unless the part is held in power-on
reset (R171), `f` acts. -/
def live (dt : Nat) (s : State) (f : State → State) : Host.Outcome State Fault Refusal :=
  .next (if s.inReset then s.elapse dt else f (s.elapse dt))

/-- The characters of a reception come to the receive area of a port (R134). -/
def storeChars (p : Port) (rx : Reception) (s : State) : State :=
  s.onPath fun x => { x with area := x.area.set p ((x.area.get p).gather rx) }

/-- The receive area of a port is empty once its frame has arrived (R134; DEDUCED, assumption 15). -/
def emptyArea (p : Port) (s : State) : State :=
  s.onPath fun x => { x with area := x.area.set p .empty }

/-- The arrival of a frame on the shaft link, as an event. -/
def arrival (dt : Nat) (s : State) (f : State → State) : Host.Outcome State Fault Refusal :=
  live dt s fun t => f (emptyArea .shaft t)

/-- The expiry of a timer, as an event: it happens only to a timer that runs and whose period has
passed. A timer that has been stopped or restarted in the meantime does not expire (R7, R16; DEDUCED
for the others, assumption 12). -/
def expiry (t : Timer) (f : State → State) (s : State) : State := if t.due s.now then f s else s

/-! ## Settings (R166) -/

/-- The 43 settings. -/
inductive Setting where
  | filterWidth | averaging | zeroWindow | drivePeriod | disagreeLimit | depthWindow
  | steerPeriod | lookAhead | targetX | targetY | targetR | plateDeadband | plateKp | trimLimit
  | slurryPeriod | primeStart | primeStep | primeMax | primeDwell | primeFlow | flowKp | flowKi
  | suctionMin | backOffStep | suctionLimit | holdDelay | idleDemand | restTime | circDemand
  | burstTime | flushTime | cutMin | densityLow | densityHigh | laneSilence | driveWindow
  | strokeWindow | attitudeWindow | slurryWindow | deadmanTime | refreshInterval | orderPeriod
  | reportInterval
deriving DecidableEq, Repr

/-- The index of a setting in table 5 (R166). -/
def Setting.index : Setting → Nat
  | .filterWidth => 0 | .averaging => 1 | .zeroWindow => 2 | .drivePeriod => 3
  | .disagreeLimit => 4 | .depthWindow => 5 | .steerPeriod => 6 | .lookAhead => 7
  | .targetX => 8 | .targetY => 9 | .targetR => 10 | .plateDeadband => 11 | .plateKp => 12
  | .trimLimit => 13 | .slurryPeriod => 14 | .primeStart => 15 | .primeStep => 16
  | .primeMax => 17 | .primeDwell => 18 | .primeFlow => 19 | .flowKp => 20 | .flowKi => 21
  | .suctionMin => 22 | .backOffStep => 23 | .suctionLimit => 24 | .holdDelay => 25
  | .idleDemand => 26 | .restTime => 27 | .circDemand => 28 | .burstTime => 29 | .flushTime => 30
  | .cutMin => 31 | .densityLow => 32 | .densityHigh => 33 | .laneSilence => 34
  | .driveWindow => 35 | .strokeWindow => 36 | .attitudeWindow => 37 | .slurryWindow => 38
  | .deadmanTime => 39 | .refreshInterval => 40 | .orderPeriod => 41 | .reportInterval => 42

/-- R163: the three signed settings are the X, Y and torsion targets. -/
def settingSigned (index : Nat) : Bool := index == 8 || index == 9 || index == 10

/-- A settings word read as its number (R163). -/
def settingNumber (index : Nat) (w : Word) : Int :=
  if settingSigned index then signed w else unsigned w

/-- The value of a setting as it stands. -/
def State.setting (s : State) (x : Setting) : Int :=
  settingNumber x.index (s.settings.getD x.index 0)

/-- A timer started now with a setting in ms. -/
def State.startMs (s : State) (x : Setting) : Timer := s.startTimer (msToMicros (s.setting x))

/-- A timer started now with a setting in s. -/
def State.startSec (s : State) (x : Setting) : Timer := s.startTimer (secToMicros (s.setting x))

/-! ## Class fields (R50) -/

/-- The 21 fields of a class row, in order. -/
inductive ClassField where
  | sMax | holdSpeed | rampStep | kp | ki | iMax | pLim | pMax | fMin | pTrip | pStall
  | stallSpeed | stallCount | unjamSpeed | tRev | tFwd | unjamAttempts | recoverSpeed
  | recoverUpdates | qSet | feedMax
deriving DecidableEq, Repr

/-- The field number (R50). -/
def ClassField.number : ClassField → Nat
  | .sMax => 0 | .holdSpeed => 1 | .rampStep => 2 | .kp => 3 | .ki => 4 | .iMax => 5 | .pLim => 6
  | .pMax => 7 | .fMin => 8 | .pTrip => 9 | .pStall => 10 | .stallSpeed => 11
  | .stallCount => 12 | .unjamSpeed => 13 | .tRev => 14 | .tFwd => 15 | .unjamAttempts => 16
  | .recoverSpeed => 17 | .recoverUpdates => 18 | .qSet => 19 | .feedMax => 20

/-- A word of the class table as a number (R50). -/
def classWord (table : List Word) (row field : Nat) : Int := unsigned (table.getD (row * 21 + field) 0)

/-- A field of the class in effect, as it stands (R58). -/
def State.classField (s : State) (f : ClassField) : Int :=
  classWord s.selector.classTable s.selector.classInEffect f.number

/-! ## Curves (R59, R61) -/

/-- The x of a point of a curve. -/
def curveX (table : List Word) (curve point : Nat) : Int :=
  unsigned (table.getD ((curve - 1) * 18 + point * 2) 0)

/-- The y of a point of a curve. -/
def curveY (table : List Word) (curve point : Nat) : Int :=
  unsigned (table.getD ((curve - 1) * 18 + point * 2 + 1) 0)

/-- R61: the highest point number from 0 to 7 whose x is at most the input. -/
def curveSegment (table : List Word) (curve : Nat) (x : Int) : Nat :=
  ((List.range 8).filter fun i => decide (curveX table curve i ≤ x)).getLastD 0

/-- R61: the lookup on a curve at a non-negative input. -/
def curveLookup (table : List Word) (curve : Nat) (x : Int) : Int :=
  if x < curveX table curve 0 then curveY table curve 0
  else if curveX table curve 8 ≤ x then curveY table curve 8
  else
    let i := curveSegment table curve x
    curveY table curve i +
      roundDiv ((x - curveX table curve i) * (curveY table curve (i + 1) - curveY table curve i))
        (curveX table curve (i + 1) - curveX table curve i)

/-! ## Addresses and lanes (R135, R136) -/

/-- The part's own address. -/
def State.ownAddress (s : State) : Nat := 2 + s.straps.addr.toNat

def State.ownByte (s : State) : Byte := BitVec.ofNat 8 s.ownAddress

/-- The lane word that names a lane: 1 DRIVE to 4 SLURRY. -/
def laneNumber : Lane → Nat
  | .drive => 1
  | .steer => 2
  | .attitude => 3
  | .slurry => 4

/-- The lane that a lane word names. -/
def laneOfNumber : Nat → Option Lane
  | 1 => some .drive
  | 2 => some .steer
  | 3 => some .attitude
  | 4 => some .slurry
  | _ => none

/-- A word of a route entry: 0 the lane, 1 the decimation n, 2 the node-pass flag. -/
def routeWord (table : List Word) (address word : Nat) : Nat :=
  (table.getD (address * 3 + word) 0).toNat

/-- The address that the route table maps to a lane. -/
def State.mappedAddress (s : State) (l : Lane) : Option Nat :=
  (List.range 64).find? fun a => routeWord s.path.route a 0 == laneNumber l

/-- The channels of a lane, in the order of its DEMAND items (R125). -/
def laneChannels : Lane → List Channel
  | .drive => [.valve .g1, .valve .g2]
  | .steer => [.plate .p1, .plate .p2, .plate .p3, .plate .p4]
  | .attitude => []
  | .slurry => [.pump]

/-- The lane of a channel (R125). -/
def channelLane : Channel → Lane
  | .valve _ => .drive
  | .plate _ => .steer
  | .pump => .slurry

/-- The number of a channel's entry in the envelope table (R128). -/
def channelNumber : Channel → Nat
  | .valve .g1 => 0
  | .valve .g2 => 1
  | .plate .p1 => 2
  | .plate .p2 => 3
  | .plate .p3 => 4
  | .plate .p4 => 5
  | .pump => 6

/-- The lower end of a channel's range (R125); the upper end is 1000 for each. -/
def channelLow : Channel → Int
  | .pump => 0
  | _ => -1000

def channelHigh : Int := 1000

/-! ## The buffer pool and the queues (R141, R144) -/

def State.setQueue (p : Port) (q : List Queued) (s : State) : State :=
  s.onPath fun x => { x with queue := x.queue.set p q }

/-- A frame takes the buffer at the head of the free list and goes to the tail of a queue. With no
buffer free nothing is placed; R144 rules that out for an own frame (assumption 6). -/
def enqueue (p : Port) (tag : Tag) (f : Frame) (s : State) : State :=
  match s.path.free with
  | [] => s
  | b :: rest =>
    s.onPath fun x =>
      { x with free := rest, queue := x.queue.set p (x.queue.get p ++ [⟨b, tag, f⟩]) }

/-- A frame of the given tag waits for a port. -/
def State.waiting (s : State) (p : Port) (tag : Tag) : Bool :=
  (s.queueOf p).any fun e => decide (e.tag = tag)

/-- The waiting frame of the given tag is replaced in place; it keeps its place and its buffer. -/
def refreshWaiting (p : Port) (tag : Tag) (f : Frame) (s : State) : State :=
  s.setQueue p ((s.queueOf p).map fun e => if e.tag = tag then { e with frame := f } else e)

/-- A SAMPLE or NODE frame that the part passes on. -/
def Tag.forwarded : Tag → Bool
  | .sample => true
  | .node => true
  | _ => false

/-! ## Lines (R145, R172) -/

/-- The time that a transmission takes, as a timer: its characters and its idle gap (R145). -/
def State.sendTimer (s : State) (p : Port) (t : Transmission) : Timer :=
  .running (frameCharTimes t.entry.frame * s.charMicros p) t.since

/-- The whole characters that a transmission has put on the line by this moment (DEDUCED, assumption
23). -/
def State.wholeChars (s : State) (p : Port) (t : Transmission) : List Byte :=
  (frameChars t.entry.frame).take ((s.now - t.since) / s.charMicros p)

/-- The level of a port's transmit pin so many ticks of the crystal from now, high being true: the bit
of the frame in transmission, and otherwise the idle line; in power-on reset it is idle (R171, R172). -/
def State.txPin (s : State) (p : Port) (tick : Nat) : Bool :=
  match s.inReset, s.txOf p with
  | false, some t =>
    (frameBits t.entry.frame).getD (((s.now - t.since) * microTicks + tick) / s.bitTicks p) true
  | _, _ => true

/-- R149, R171: every transmission is aborted: what it has put on the line is the whole characters
sent so far. -/
def State.abortedLine (s : State) : PerPort (List Byte) :=
  .of fun p =>
    match s.txOf p with
    | some t => s.wholeChars p t
    | none => s.line.get p

/-! ## Demand records and the composition of DEMAND frames (R125, R129, R130) -/

def State.envelopeMin (s : State) (ch : Channel) : Int :=
  signed (s.lanes.envelope.getD (channelNumber ch * 3) 0)

def State.envelopeMax (s : State) (ch : Channel) : Int :=
  signed (s.lanes.envelope.getD (channelNumber ch * 3 + 1) 0)

def State.envelopeSlew (s : State) (ch : Channel) : Int :=
  unsigned (s.lanes.envelope.getD (channelNumber ch * 3 + 2) 0)

/-- R130 step 1: from the last sent value toward the requested value by at most the slew. -/
def slewed (slew lastSent requested : Int) : Int :=
  if slew = 0 ∨ mag (requested - lastSent) ≤ slew then requested
  else lastSent + slew * signOf (requested - lastSent)

/-- R130 steps 1 and 2: the value that a composition gives a channel. -/
def State.composedValue (s : State) (ch : Channel) : Int :=
  clamp (s.envelopeMin ch) (s.envelopeMax ch)
    (slewed (s.envelopeSlew ch) (s.demand ch).lastSent (s.demand ch).requested)

/-- R130 step 3: the requested value lies outside the envelope. -/
def State.outsideEnvelope (s : State) (ch : Channel) : Bool :=
  decide ((s.demand ch).requested < s.envelopeMin ch ∨ s.envelopeMax ch < (s.demand ch).requested)

/-- A DEMAND frame for the address mapped to a lane (R130). -/
def State.demandFrame (s : State) (l : Lane) (address : Nat) (value : Channel → Int) : Frame :=
  mkFrame (BitVec.ofNat 8 address) s.ownByte kindDemand
    ((laneChannels l).map fun ch => wordOf (value ch))

/-- R130 step 3, for each channel of a lane. -/
def markClamped (l : Lane) (s : State) : State :=
  (laneChannels l).foldl
    (fun t ch => t.onDemand ch fun d => { d with clamped := s.outsideEnvelope ch }) s

/-- The lane's DEMAND is in transmission. -/
def State.demandInTransmission (s : State) (l : Lane) : Bool :=
  match s.txOf (.lane l) with
  | some t => decide (t.entry.tag = .demand)
  | none => false

/-- R129: a waiting DEMAND is recomposed in place, otherwise a new one is placed in the lane queue;
the refresh timer is restarted. -/
def sendDemand (l : Lane) (address : Nat) (s : State) : State :=
  let f := s.demandFrame l address s.composedValue
  let marked := markClamped l s
  let sent := if s.waiting (.lane l) .demand then refreshWaiting (.lane l) .demand f marked
    else enqueue (.lane l) .demand f marked
  sent.onLane l fun b => { b with refresh := s.startMs .refreshInterval }

/-- R129, R137: a composition is due for a lane. Nothing is made for a lane without channels, not in
UP or without a mapped address. Without a mapped address the pending composition is not set either,
whether or not the lane's DEMAND is in transmission (DESIGN CHOICE, assumption 24). -/
def composeDue (l : Lane) (s : State) : State :=
  if laneChannels l = [] ∨ (s.laneOf l).state ≠ .up then s
  else
    match s.mappedAddress l with
    | none => s
    | some address =>
      if s.demandInTransmission l then s.onLane l fun b => { b with compose := true }
      else sendDemand l address s

/-- R125: a write of a requested value; a value different from the one held makes a composition
due. -/
def setRequested (ch : Channel) (v : Int) (s : State) : State :=
  if (s.demand ch).requested = v then s
  else composeDue (channelLane ch) (s.onDemand ch fun d => { d with requested := v })

/-- R125: the owner of a channel; a change of owner sets the deadman timer idle. -/
def setOwner (ch : Channel) (o : Owner) (s : State) : State :=
  if (s.demand ch).owner = o then s
  else s.onDemand ch fun d => { d with owner := o, deadman := .idle }

/-! ## Readings that several blocks make -/

/-- The latest item of a source at a place of its role, or absent. -/
def State.item (s : State) (l : Lane) (place : Nat) : Option Int :=
  ((s.laneOf l).items.getD place none)

/-- The latest pressure P_g. -/
def State.pressure (s : State) : Gear → Option Int
  | .g1 => s.item .drive 0
  | .g2 => s.item .drive 1

/-- The latest stroke of a plate. -/
def State.stroke (s : State) : Plate → Option Int
  | .p1 => s.item .steer 0
  | .p2 => s.item .steer 1
  | .p3 => s.item .steer 2
  | .p4 => s.item .steer 3

def State.flow (s : State) : Option Int := s.item .slurry 0
def State.density (s : State) : Option Int := s.item .slurry 1
def State.suction (s : State) : Option Int := s.item .slurry 2

/-- R65: the attitude valid indication. -/
def State.attitudeValid (s : State) : Bool := (s.laneOf .attitude).fresh && s.survey.usable

/-- A trip kind is latched (R155). -/
def State.latched (s : State) (k : TripKind) : Bool := decide (k ∈ s.orders.trips)

/-- Both drive loops stand in a state. -/
def State.bothLoops (s : State) (st : LoopState) : Bool :=
  decide ((s.loopOf .g1).state = st ∧ (s.loopOf .g2).state = st)

/-- ARMED, RUN, HELD, UNJAM or OPEN: the states of a loop that is cutting or about to cut (R53,
R108). -/
def LoopState.cutting : LoopState → Bool
  | .armed => true
  | .run => true
  | .held => true
  | .unjam => true
  | .opened => true
  | _ => false

/-- Either drive loop is cutting or about to cut. -/
def State.anyCutting (s : State) : Bool :=
  (s.loopOf .g1).state.cutting || (s.loopOf .g2).state.cutting

end Sys2Proof.Machine
end

