-- ==== Sys2Proof/Machine/Measurement.lean ====
section
/-! DEFINITION. Chapter 1: the pickup filters, the capture of periods and high times, the measured
speed, the zero window and the pickup health, with the meanings of PICKUP_RAW_CHANGE,
FILTER_TIMER_EXPIRY and ZERO_WINDOW_EXPIRY. -/

namespace Sys2Proof.Machine

/-- R6: where the 24-bit counters stop. -/
def counterStop : Nat := 16777215

/-- R6: the tooth count of the TEETH strap. -/
def State.toothCount (s : State) : Nat :=
  match s.straps.teeth.toNat with
  | 0 => 30
  | 1 => 36
  | 2 => 48
  | _ => 60

/-- R6: the µs elapsed since a moment, in a counter that stops at 16 777 215. -/
def State.elapsedSince (s : State) (moment : Nat) : Nat := min (s.now - moment) counterStop

/-- R13, R14: the average magnitude over the newest `k` periods of a history, newest first. -/
def averageMagnitude (teeth k : Nat) (history : List Nat) : Int :=
  let used := history.take k
  if used = [] then 0
  else min 4000 (roundDiv (6000000000 * used.length) (teeth * used.sum))

/-- The sign that a direction gives a magnitude. -/
def Direction.apply (d : Direction) (x : Int) : Int :=
  match d with
  | .forward => x
  | .reverse => -x

/-- The average magnitude of a pickup as it stands (R13, R14). -/
def State.averageOf (s : State) (p : Pickup) : Int :=
  averageMagnitude s.toothCount (s.setting .averaging).toNat p.history

/-- R15: the measured speed, formed at this moment. -/
def State.measuredSpeed (s : State) (g : Gear) : Int :=
  let p := s.pickupOf g
  match p.history, p.ref with
  | newest :: _, some ref =>
    let e := s.elapsedSince ref
    let average := s.averageOf p
    p.direction.apply
      (if e ≤ newest then average else min average (roundDiv 6000000000 (s.toothCount * e)))
  | _, _ => 0

/-- R17: a captured period of `period` µs is bad, given the high time captured in it, the track B
edge flag and the average magnitude with the period entered. Every capture has a high time (R11);
one without, which cannot be, is taken as a high time of 0 (DESIGN CHOICE, assumption 14). -/
def periodBad (high : Option Nat) (period : Nat) (bEdge : Bool) (average : Int) : Bool :=
  let duty := roundDiv (1000 * (high.getD 0 : Nat)) period
  decide (duty < 200 ∨ 800 < duty ∨ (bEdge = false ∧ 50 < average))

/-- R18: the health and the runs after a classed period. -/
def healthAfter (bad : Bool) (p : Pickup) : Pickup :=
  match p.health, bad with
  | .ok, true =>
    if 4 ≤ p.badRun + 1 then { p with health := .fault, badRun := 0, goodRun := 0 }
    else { p with badRun := p.badRun + 1 }
  | .ok, false => { p with badRun := 0 }
  | .fault, false =>
    if 16 ≤ p.goodRun + 1 then { p with health := .ok, badRun := 0, goodRun := 0 }
    else { p with goodRun := p.goodRun + 1 }
  | .fault, true => { p with goodRun := 0 }

/-- R9, R10 step 6, R16: this edge becomes the timing reference and the zero window starts. -/
def State.timeFrom (s : State) (p : Pickup) : Pickup :=
  { p with ref := some s.now, high := none, bEdge := false, zeroWindow := s.startMs .zeroWindow }

/-- R10: an accepted rising edge of track A captures the period since `ref`. -/
def State.capture (s : State) (ref : Nat) (p : Pickup) : Pickup :=
  let period := max 1 (s.elapsedSince ref)
  let direction : Direction := if p.b.accepted then .reverse else .forward
  let kept := if direction = p.direction then p.history else []
  let entered := { p with history := (period :: kept).take 8, direction := direction }
  s.timeFrom (healthAfter (periodBad p.high period p.bEdge (s.averageOf entered)) entered)

/-- R9 to R12: what an accepted edge of one input does. -/
def State.acceptedEdge (s : State) (track : Track) (level : Bool) (p : Pickup) : Pickup :=
  match track, level, p.ref with
  | .a, true, none => s.timeFrom p
  | .a, true, some ref => s.capture ref p
  | .a, false, none => p
  | .a, false, some ref => { p with high := some (s.elapsedSince ref) }
  | .b, _, _ => { p with bEdge := true }

def Pickup.track (p : Pickup) : Track → TrackState
  | .a => p.a
  | .b => p.b

def Pickup.onTrack (t : Track) (f : TrackState → TrackState) (p : Pickup) : Pickup :=
  match t with
  | .a => { p with a := f p.a }
  | .b => { p with b := f p.b }

/-- The accepted level takes the raw level, which is an accepted edge (R7). -/
def State.acceptLevel (s : State) (track : Track) (level : Bool) (p : Pickup) : Pickup :=
  s.acceptedEdge track level
    (p.onTrack track fun t => { t with raw := level, accepted := level, filter := .idle })

/-- R7, R8: a raw change. A return to the accepted level stops the timer; a departure starts it with
the width in force, or, with a width of 0, is itself an accepted edge. -/
def State.rawChange (s : State) (track : Track) (level : Bool) (p : Pickup) : Pickup :=
  if level = (p.track track).raw then p
  else if level = (p.track track).accepted then
    p.onTrack track fun t => { t with raw := level, filter := .idle }
  else if s.setting .filterWidth = 0 then s.acceptLevel track level p
  else
    p.onTrack track fun t =>
      { t with raw := level, filter := s.startTimer (s.setting .filterWidth).toNat }

/-- R7: the filter timer expires; with the raw level still differing, it is accepted. -/
def State.filterExpired (s : State) (track : Track) (p : Pickup) : Pickup :=
  if (p.track track).raw = (p.track track).accepted then
    p.onTrack track fun t => { t with filter := .idle }
  else s.acceptLevel track (p.track track).raw p

/-- R16: the zero window expires. -/
def Pickup.zeroExpired (p : Pickup) : Pickup :=
  { p with history := [], ref := none, high := none, zeroWindow := .idle }

/-- PICKUP_RAW_CHANGE. In power-on reset the pin changes and nothing else does (R171). -/
def execPickupRawChange (dt : Nat) (g : Gear) (track : Track) (level : Bool) (s : State) :
    Host.Outcome State Fault Refusal :=
  let t := s.elapse dt
  .next (if t.inReset then t.onPickup g fun p => p.onTrack track fun x => { x with raw := level }
    else t.onPickup g (t.rawChange track level))

/-- FILTER_TIMER_EXPIRY. -/
def execFilterTimerExpiry (dt : Nat) (g : Gear) (track : Track) (s : State) :
    Host.Outcome State Fault Refusal :=
  live dt s fun t =>
    expiry ((t.pickupOf g).track track).filter (fun u => u.onPickup g (u.filterExpired track)) t

/-- ZERO_WINDOW_EXPIRY. -/
def execZeroWindowExpiry (dt : Nat) (g : Gear) (s : State) : Host.Outcome State Fault Refusal :=
  live dt s fun t => expiry (t.pickupOf g).zeroWindow (fun u => u.onPickup g Pickup.zeroExpired) t

end Sys2Proof.Machine
end

