-- ==== Sys2Proof/Machine/Interlocks.lean ====
section
/-! DEFINITION. The changes of state of the drive loops, the slurry loop, the order link and steering,
with what each change does in the other blocks at the same event (R24 to R35, R48, R85 to R89, R102,
R109 to R113, R116, R153). -/

namespace Sys2Proof.Machine

/-! ## The feed limit and the hold-delay timer -/

/-- R116: the feed limit that the states as they stand give. -/
def State.feedLimit (s : State) : Int :=
  if s.bothLoops .run ∧ s.orders.link = .live then
    roundDiv (s.classField .feedMax * s.slurry.cut *
      min (s.loopOf .g1).torque (s.loopOf .g2).torque) 1048576
  else 0

/-- R116: the feed limit is formed. -/
def formFeed (s : State) : State := s.onSlurry fun x => { x with feed := s.feedLimit }

/-- R109: the hold-delay timer is started or restarted. -/
def startHoldDelay (s : State) : State :=
  s.onSlurry fun x => { x with holdDelay := s.startSec .holdDelay }

/-! ## Slurry loop entries that the drive loops cause -/

/-- The loop's demand `v` becomes the pump output and the requested value of the pump channel. -/
def writePump (v : Int) (s : State) : State :=
  setRequested .pump v (s.onSlurry fun x => { x with output := v })

/-- R102: the seeded entry into RUN at demand `v`; it also tests the hold-delay timer (R109). -/
def enterSlurryRun (v : Int) (s : State) : State :=
  let entered := s.onSlurry fun x =>
    { x with state := .run, integ := v, suctionCount := 0, detectCount := 0, dwellCount := 0
             phase := .none, phaseTimer := .idle }
  let driven := writePump v (setOwner .pump .loop entered)
  if driven.bothLoops .stopped then startHoldDelay driven else driven

/-- R111: from REST, the loop enters FLUSH. -/
def enterFlush (s : State) : State :=
  writePump (s.setting .circDemand) (s.onSlurry fun x =>
    { x with state := .flush, phase := .none, phaseTimer := s.startSec .flushTime })

/-- R111: a drive loop's departure from STOPPED ends the agitation. A phase of none, which cannot be,
is taken as REST (DESIGN CHOICE, assumption 14). -/
def agitationExit (s : State) : State :=
  if s.slurry.state ≠ .agitate then s
  else if s.slurry.phase = .burst then enterSlurryRun (s.setting .circDemand) s
  else enterFlush s

/-! ## Drive loops -/

/-- The unjam state dropped: phase none, and phase, attempt and recover counts 0 (R25). -/
def DriveLoop.dropUnjam (l : DriveLoop) : DriveLoop :=
  { l with phase := .none, phaseCount := 0, attempts := 0, recoverCount := 0 }

/-- R44: the start of an UNJAM phase of the given length; the attempt count is kept. -/
def DriveLoop.startPhase (phase : UnjamPhase) (length : Int) (l : DriveLoop) : DriveLoop :=
  { l with phase := phase, phaseCount := 0, phaseLength := length.toNat, recoverCount := 0
           integ := 0, ramped := 0 }

/-- What the entry into a state sets in the loop itself: R24, R25, R27, R28, R35, R43, R44, R46. -/
def loopEntry (s : State) (new : LoopState) (l : DriveLoop) : DriveLoop :=
  match new with
  | .stopped | .tripped =>
    { l.dropUnjam with state := new, ramped := 0, integ := 0, sat := false, stallCount := 0
                       overCount := 0 }
  | .armed | .manual => { l with state := new }
  | .run | .held =>
    match l.state with
    | .armed => { l with state := new, ramped := 0, integ := 0, stallCount := 0 }
    | .opened => { l with state := new, integ := 0, stallCount := 0 }
    | .unjam => { l.dropUnjam with state := new, integ := 0, stallCount := 0 }
    | _ => { l with state := new }
  | .unjam =>
    { l.startPhase .reverse (s.classField .tRev) with state := .unjam, attempts := 0
                                                      stallCount := 0 }
  | .opened => { l with state := .opened, integ := 0, stallCount := 0, sat := false }
  | .stopping => { l.dropUnjam with state := .stopping, stallCount := 0 }

/-- What the entry into a state sets in the loop's valve channel (R30, R35, R125). The 0 at the entry
into MANUAL is the value that STOPPED leaves (DEDUCED, assumption 19). -/
def valveEntry (g : Gear) (new : LoopState) (s : State) : State :=
  match new with
  | .stopped | .tripped => setRequested (.valve g) 0 (setOwner (.valve g) .loop s)
  | .manual => setRequested (.valve g) 0 (setOwner (.valve g) .operator s)
  | _ => s

/-- R48, R109, R111, R116: what a change of a loop's state from `old` does in the slurry and
production block. -/
def loopMoved (g : Gear) (old : LoopState) (s : State) : State :=
  if (s.loopOf g).state = old then s
  else if old = .stopped then formFeed (agitationExit (startHoldDelay s))
  else if s.bothLoops .stopped then formFeed (startHoldDelay s)
  else formFeed s

/-- A drive loop enters a state. -/
def enterLoop (g : Gear) (new : LoopState) (s : State) : State :=
  loopMoved g (s.loopOf g).state (valveEntry g new (s.onLoop g (loopEntry s new)))

/-- R25, R29: a loop enters STOPPING, and goes on at once to STOPPED if its pickup is in FAULT. -/
def enterStopping (g : Gear) (s : State) : State :=
  let entered := enterLoop g .stopping s
  if (entered.pickupOf g).health = .fault then enterLoop g .stopped entered else entered

/-- The table that R25, R32 and R34 share: ARMED to STOPPED, RUN, HELD, UNJAM and OPEN to STOPPING,
every other state unchanged. -/
def stopLoop (g : Gear) (s : State) : State :=
  match (s.loopOf g).state with
  | .armed => enterLoop g .stopped s
  | .run | .held | .unjam | .opened => enterStopping g s
  | .stopped | .stopping | .manual | .tripped => s

/-- R25, R34: both loops are stopped by one event. -/
def stopBoth (s : State) : State := stopLoop .g2 (stopLoop .g1 s)

/-- R27: a HELD cause stands for a loop. -/
def State.heldCause (s : State) (g : Gear) : Bool :=
  decide ((s.loopOf g.partner).state = .unjam ∨ s.orders.link = .warn)

/-- R27, R28, R46: the loop goes to RUN, or to HELD if a HELD cause stands. -/
def enterWork (g : Gear) (s : State) : State :=
  enterLoop g (if s.heldCause g then .held else .run) s

/-- R27: a HELD cause comes to stand for a loop. -/
def holdLoop (g : Gear) (s : State) : State :=
  if (s.loopOf g).state = .run then enterLoop g .held s else s

/-- R27: a HELD cause of a loop ends; the loop goes back to RUN if it was the last. -/
def unholdLoop (g : Gear) (s : State) : State :=
  if (s.loopOf g).state = .held ∧ s.heldCause g = false then enterLoop g .run s else s

/-! ## The order link -/

/-- R27, R116, R153: the order link moves; a move into WARN holds the loops in RUN, a move from WARN
to LIVE releases them, and the feed limit is formed (a move from LOST to LIVE releases none: DEDUCED,
assumption 20). -/
def setLink (new : LinkState) (s : State) : State :=
  if s.orders.link = new then s
  else
    let moved := s.onOrders fun x => { x with link := new }
    formFeed
      (match new with
        | .warn => holdLoop .g2 (holdLoop .g1 moved)
        | .live =>
          if s.orders.link = .warn then unholdLoop .g2 (unholdLoop .g1 moved) else moved
        | .dormant | .lost => moved)

/-! ## Slurry loop entries -/

/-- What the entries into STOPPED (R102) and TRIPPED (R113) share. -/
def zeroSlurry (new : SlurryState) (s : State) : State :=
  writePump 0 (setOwner .pump .loop (s.onSlurry fun x =>
    { x with state := new, integ := 0, detectCount := 0, dwellCount := 0, suctionCount := 0
             phase := .none, phaseTimer := .idle }))

/-- R113, R34: the slurry loop enters TRIPPED and the running drive loops are stopped. -/
def tripSlurry (s : State) : State := stopBoth (zeroSlurry .tripped s)

/-- R110: a phase of AGITATE starts at a demand, for a time in seconds. -/
def startAgitation (phase : AgitationPhase) (demand time : Setting) (s : State) : State :=
  writePump (s.setting demand) (s.onSlurry fun x =>
    { x with state := .agitate, phase := phase, phaseTimer := s.startSec time })

/-! ## Steering entries (R89) -/

def allPlates : List Plate := [.p1, .p2, .p3, .p4]

/-- The four plate channels get an owner and the requested value 0. -/
def zeroPlates (o : Owner) (s : State) : State :=
  allPlates.foldl (fun t p => setRequested (.plate p) 0 (setOwner (.plate p) o t)) s

/-- Entry into OFF or MANUAL, or into HOLD or AUTO from one of these: targets 0, projections absent,
trim 0. -/
def enterSteeringClear (new : SteerState) (o : Owner) (s : State) : State :=
  zeroPlates o (s.onSteering fun x =>
    { x with state := new, projX := none, projY := none, targets := ⟨0, 0, 0, 0⟩, trim := 0 })

/-- Entry into HOLD from AUTO: the channels and the targets are kept. -/
def enterSteeringHold (s : State) : State :=
  s.onSteering fun x => { x with state := .hold, projX := none, projY := none, trim := 0 }

/-- R86: a HOLD cause stands. -/
def State.holdCause (s : State) : Bool :=
  !s.survey.fresh || !s.survey.received || !s.attitudeValid ||
    decide (s.survey.state = .idle ∨ s.survey.state = .paused) ||
    decide (s.survey.depth < s.survey.frontier * 250) || s.latched .orderLost

end Sys2Proof.Machine
end

