-- ==== Sys2Proof/Machine/Operands.lean ====
section
/-! DEFINITION. The arguments of ORDER frames and the result codes (R150, R155, R169, R170). -/

namespace Sys2Proof.Machine

/-- The results of R170. -/
inductive Result where
  | ok | badCode | badArg | busy | tripped | noLane | noInput | causePresent | badTable | badIndex
  | badValue | badOrder | inUse | readOnly
deriving DecidableEq, Repr

/-- The result codes of R170. -/
def Result.code : Result → Nat
  | .ok => 0 | .badCode => 1 | .badArg => 2 | .busy => 3 | .tripped => 4 | .noLane => 5
  | .noInput => 6 | .causePresent => 7 | .badTable => 8 | .badIndex => 9 | .badValue => 10
  | .badOrder => 11 | .inUse => 12 | .readOnly => 13

/-- The modes that a MODE order names (R169). -/
inductive Mode where
  | off | auto | manual
deriving DecidableEq, Repr

/-- The mode word of R169. -/
def modeOf (w : Word) : Option Mode :=
  if signed w = 0 then some .off
  else if signed w = 1 then some .auto
  else if signed w = 2 then some .manual
  else none

/-- The spacing word of R169. -/
def spacingOf (w : Word) : Option Spacing :=
  if signed w = 0 then some .normal
  else if signed w = 1 then some .fine
  else if signed w = 2 then some .extra
  else none

/-- The spacing's number in R167 and R169. -/
def Spacing.number : Spacing → Nat
  | .normal => 0
  | .fine => 1
  | .extra => 2

/-- The index step of a spacing (R5). -/
def Spacing.step : Spacing → Nat
  | .normal => 4
  | .fine => 2
  | .extra => 1

/-- R155: the number of a trip kind, which is also its priority. -/
def TripKind.number : TripKind → Nat
  | .orderLost => 1
  | .overpressure .g1 => 2
  | .overpressure .g2 => 3
  | .jam .g1 => 4
  | .jam .g2 => 5
  | .primeFail => 6
  | .suction => 7
  | .laneTrip .drive => 8
  | .laneTrip .steer => 9
  | .laneTrip .attitude => 10
  | .laneTrip .slurry => 11

/-- R155: the kinds in priority order. -/
def allKinds : List TripKind :=
  [.orderLost, .overpressure .g1, .overpressure .g2, .jam .g1, .jam .g2, .primeFail, .suction,
    .laneTrip .drive, .laneTrip .steer, .laneTrip .attitude, .laneTrip .slurry]

/-- What a TRIP_RESET names: HIGHEST or a kind (R157, R169). -/
inductive ResetTarget where
  | highest
  | kind (k : TripKind)
deriving DecidableEq, Repr

/-- The argument of TRIP_RESET (R169). -/
def resetTargetOf (w : Word) : Option ResetTarget :=
  if signed w = 0 then some .highest
  else (allKinds.find? fun k => decide ((k.number : Int) = signed w)).map .kind

/-- R155: a kind entered in the latch set, once, in priority order (DESIGN CHOICE, assumption 17). -/
def insertKind (k : TripKind) (set : List TripKind) : List TripKind :=
  allKinds.filter fun x => decide (x = k ∨ x ∈ set)

/-- R157: a kind removed from the latch set. -/
def removeKind (k : TripKind) (set : List TripKind) : List TripKind :=
  allKinds.filter fun x => decide (x ≠ k ∧ x ∈ set)

/-- The number of items that the ORDER frame of each code carries; KEEP may carry more (R150). -/
def orderItems (code : Nat) : Nat :=
  match code with
  | 4 | 5 | 11 | 12 => 2
  | 6 => 3
  | _ => 1

end Sys2Proof.Machine
end

