-- ==== Sys2Proof/Machine/Flags.lean ====
section
/-! DEFINITION. The 24 items of a REPORT frame and the packing of its states words, flag word and trip
set (R80, R99, R159, R170). -/

namespace Sys2Proof.Machine

def LoopState.code : LoopState → Nat
  | .stopped => 0 | .armed => 1 | .run => 2 | .held => 3 | .unjam => 4 | .opened => 5
  | .stopping => 6 | .manual => 7 | .tripped => 8

def SlurryState.code : SlurryState → Nat
  | .stopped => 0 | .priming => 1 | .run => 2 | .agitate => 3 | .flush => 4 | .manual => 5
  | .tripped => 6

def SteerState.code : SteerState → Nat
  | .off => 0 | .auto => 1 | .hold => 2 | .manual => 3

def SurveyState.code : SurveyState → Nat
  | .idle => 0 | .surveying => 1 | .paused => 2 | .full => 3

def LinkState.code : LinkState → Nat
  | .dormant => 0 | .live => 1 | .warn => 2 | .lost => 3

def LaneState.code : LaneState → Nat
  | .wait => 0 | .up => 1 | .fault => 2

/-- Bit `n` of a packed word. -/
def flagBit (n : Nat) (b : Bool) : Nat := if b then 2 ^ n else 0

/-- Item 0: drive loop 1, drive loop 2, the slurry loop and steering (R170). -/
def State.statesWord (s : State) : Nat :=
  (s.loopOf .g1).state.code + (s.loopOf .g2).state.code * 2 ^ 4 + s.slurry.state.code * 2 ^ 8 +
    s.steering.state.code * 2 ^ 12

/-- Item 1: survey, order link, the four lanes and the class in effect (R170). -/
def State.lanesWord (s : State) : Nat :=
  s.survey.state.code + s.orders.link.code * 2 ^ 2 + (s.laneOf .drive).state.code * 2 ^ 4 +
    (s.laneOf .steer).state.code * 2 ^ 6 + (s.laneOf .attitude).state.code * 2 ^ 8 +
    (s.laneOf .slurry).state.code * 2 ^ 10 + s.selector.classInEffect * 2 ^ 12

/-- Any channel of a lane has its clamped flag set (R132). -/
def State.laneClamped (s : State) (l : Lane) : Bool :=
  (laneChannels l).any fun ch => (s.demand ch).clamped

/-- Item 21, the flag word (R159, R170). -/
def State.flagWord (s : State) (urgent : Bool) : Nat :=
  flagBit 0 (decide ((s.pickupOf .g1).health = .fault)) +
    flagBit 1 (decide ((s.pickupOf .g2).health = .fault)) +
    flagBit 2 (s.loopOf .g1).sat + flagBit 3 (s.loopOf .g2).sat +
    flagBit 4 s.survey.disagree + flagBit 5 s.survey.fresh + flagBit 6 s.attitudeValid +
    flagBit 7 s.survey.pending.isSome + flagBit 8 (s.laneOf .drive).fresh +
    flagBit 9 (s.laneOf .steer).fresh + flagBit 10 (s.laneOf .slurry).fresh +
    flagBit 11 (s.laneClamped .drive) + flagBit 12 (s.laneClamped .steer) +
    flagBit 13 (s.laneClamped .slurry) + flagBit 14 urgent

/-- Item 22: bit n − 1 is set while the kind numbered n is latched (R170). -/
def State.tripWord (s : State) : Nat :=
  (allKinds.map fun k => flagBit (k.number - 1) (s.latched k)).sum

/-- Item 23: the number of the latched kind of highest priority, or 0 (R159). -/
def State.highestTrip (s : State) : Nat :=
  match s.orders.trips with
  | [] => 0
  | k :: _ => k.number

/-- The record of a station, if the trajectory table holds one (R78). -/
def stationAt (trajectory : List Station) (index : Nat) : Option Station :=
  trajectory.find? fun x => x.index == index

/-- The frontier station's record. -/
def State.frontierStation (s : State) : Option Station :=
  stationAt s.survey.trajectory s.survey.frontier

/-- The frontier as the REPORT and the first-trip record carry it: absent in IDLE (R80). -/
def State.frontierItem (s : State) : Option Int :=
  if s.survey.state = .idle then none else some s.survey.frontier

/-- An offset of the frontier station as the REPORT carries it: absent in IDLE (R80). -/
def State.offsetItem (s : State) (offset : Station → Int) : Option Int :=
  if s.survey.state = .idle then none else s.frontierStation.map offset

/-- The torsion as the REPORT carries it: absent while the attitude is invalid (R80). -/
def State.torsionItem (s : State) : Option Int :=
  if s.attitudeValid then some s.survey.fusedR else none

/-- The 24 items of a REPORT, formed at this moment (R159). -/
def State.reportItems (s : State) (urgent : Bool) : List Word :=
  [ wordOf s.statesWord, wordOf s.lanesWord,
    wordOf (s.measuredSpeed .g1), wordOf (s.measuredSpeed .g2),
    wordOf (s.loopOf .g1).ramped, wordOf (s.loopOf .g2).ramped,
    wordOf (s.demand (.valve .g1)).lastSent, wordOf (s.demand (.valve .g2)).lastSent,
    itemWord (s.pressure .g1), itemWord (s.pressure .g2),
    wordOf s.slurry.cut, wordOf s.slurry.feed, wordOf (s.demand .pump).lastSent,
    itemWord s.flow, itemWord s.density,
    itemWord s.frontierItem, itemWord (s.offsetItem Station.offsetX),
    itemWord (s.offsetItem Station.offsetY),
    itemWord s.steering.projX, itemWord s.steering.projY, itemWord s.torsionItem,
    wordOf (s.flagWord urgent), wordOf s.tripWord, wordOf s.highestTrip ]

end Sys2Proof.Machine
end

