-- ==== Sys2Proof/Machine/Trips.lean ====
section
/-! DEFINITION. Own frames up the shaft link, the trip latch set and the first-trip record (R144, R152,
R155, R156, R160, R161). -/

namespace Sys2Proof.Machine

/-- An own frame for the cab controller: DEST 1, SRC the part's own address (R135). -/
def State.upFrame (s : State) (kind : Byte) (items : List Word) : Frame :=
  mkFrame 1 s.ownByte kind items

/-- A REPORT is refreshed in place if one of its sort waits, and otherwise made (R160, R161). -/
def sendReport (tag : Tag) (s : State) : State :=
  let f := s.upFrame kindReport (s.reportItems (decide (tag = .urgent)))
  if s.waiting .shaft tag then refreshWaiting .shaft tag f s else enqueue .shaft tag f s

/-- R152: a REPLY with the given items. -/
def reply (items : List Word) (s : State) : State :=
  enqueue .shaft .reply (s.upFrame kindReply items) s

/-- R156: the first-trip record that a latch of `k` makes at this moment. -/
def State.tripRecord (s : State) (k : TripKind) : TripRecord :=
  { kind := k
    depth := if s.survey.received then some s.survey.depth else none
    speed1 := s.measuredSpeed .g1, speed2 := s.measuredSpeed .g2
    p1 := s.pressure .g1, p2 := s.pressure .g2, feed := s.slurry.feed
    frontier := if s.survey.state = .idle then none else some s.survey.frontier }

/-- R33: LANE_DRIVE moves a loop that is not in STOPPED to TRIPPED. -/
def tripUnlessStopped (g : Gear) (s : State) : State :=
  if (s.loopOf g).state = .stopped then s else enterLoop g .tripped s

/-- R155 step 3: the blocks act on a latch. -/
def actOnLatch (k : TripKind) (s : State) : State :=
  match k with
  | .orderLost =>
    let stopped := stopBoth s
    if stopped.steering.state = .auto then enterSteeringHold stopped else stopped
  | .overpressure g | .jam g => stopLoop g.partner (enterLoop g .tripped s)
  | .primeFail | .suction => tripSlurry s
  | .laneTrip .drive => tripUnlessStopped .g2 (tripUnlessStopped .g1 s)
  | .laneTrip .steer =>
    if s.steering.state = .off then s else enterSteeringClear .off .loop s
  | .laneTrip .attitude => s
  | .laneTrip .slurry =>
    if s.slurry.state = .stopped ∨ s.slurry.state = .tripped then s else tripSlurry s

/-- R155: a request to latch a trip kind. -/
def latch (k : TripKind) (s : State) : State :=
  let recorded := if s.orders.trips = [] then
      s.onOrders fun x => { x with record := some (s.tripRecord k) } else s
  let entered := recorded.onOrders fun x => { x with trips := insertKind k x.trips }
  sendReport .urgent (actOnLatch k entered)

end Sys2Proof.Machine
end

