-- ==== Sys2Proof/Machine/Orders.lean ====
section
/-! DEFINITION. Taking an order: the order link step, the reply cap, the item count and the REPLY, with
the meanings of KEEP, ORDER_BAD_CODE, MODE_BAD_TARGET, ORDER_TIMER_EXPIRY, REPORT_TIMER_EXPIRY and
TRIP_RESET (R150 to R162). -/

namespace Sys2Proof.Machine

/-- R150 step 1, R153: what an ORDER frame does to the order link and the order timer. -/
def orderLinkStep (s : State) : State :=
  if s.orders.link = .lost then s
  else (setLink .live s).onOrders fun x => { x with timer := s.startMs .orderPeriod }

/-- How many REPLY frames wait in the upper queue (R150 step 3). -/
def State.repliesWaiting (s : State) : Nat :=
  (s.queueOf .shaft).countP fun e => decide (e.tag = .reply)

/-- R150 step 3: four REPLY frames wait. -/
def State.replyCap (s : State) : Bool := decide (4 ≤ s.repliesWaiting)

/-- R152, R170: the REPLY to an ORDER, with the code echoed and the result. -/
def replyOrder (code : Nat) (r : Result) (s : State) : State :=
  reply [wordOf code, wordOf r.code] s

/-- R150: an ORDER frame of a known code with these items after the code; `act` executes it. -/
def takeOrder (code : Nat) (args : List Word) (act : State → Result × State) (s : State) : State :=
  let linked := orderLinkStep s
  if linked.replyCap then linked
  else if args.length + 1 ≠ orderItems code then replyOrder code .badArg linked
  else replyOrder code (act linked).1 (act linked).2

/-- The first argument of an order. -/
def firstArg (args : List Word) : Word := args.headD 0

/-- R153, R154: the expiry of the order timer. In DORMANT and LOST it does not run; one that did would
go idle (DESIGN CHOICE, assumption 14). -/
def orderTimerExpired (s : State) : State :=
  match s.orders.link with
  | .live => (setLink .warn s).onOrders fun x => { x with timer := s.startMs .orderPeriod }
  | .warn => latch .orderLost ((setLink .lost s).onOrders fun x => { x with timer := .idle })
  | .dormant | .lost => s.onOrders fun x => { x with timer := .idle }

/-- R160: the report timer is restarted and the periodic REPORT is sent. -/
def reportTimerExpired (s : State) : State :=
  sendReport .periodic (s.onOrders fun x => { x with reportTimer := s.startMs .reportInterval })

/-- R157: a kind has a standing cause. -/
def State.causeStands (s : State) : TripKind → Bool
  | .overpressure g =>
    match (s.laneOf .drive).fresh, s.pressure g with
    | true, some p => decide (s.classField .pTrip ≤ p)
    | _, _ => false
  | .laneTrip l => decide ((s.laneOf l).state ≠ .up)
  | _ => false

/-- R35: the loop's own trips. -/
def State.loopTripped (s : State) (g : Gear) : Bool :=
  s.latched (.jam g) || s.latched (.overpressure g) || s.latched (.laneTrip .drive)

/-- R113: the slurry loop's own trips. -/
def State.slurryTripped (s : State) : Bool :=
  s.latched .primeFail || s.latched .suction || s.latched (.laneTrip .slurry)

/-- R35: a loop in TRIPPED goes to STOPPED once none of its own trips is latched. -/
def releaseLoop (g : Gear) (s : State) : State :=
  if (s.loopOf g).state = .tripped ∧ s.loopTripped g = false then enterLoop g .stopped s else s

/-- R113: the slurry loop in TRIPPED goes to STOPPED once none of its own trips is latched. -/
def releaseSlurry (s : State) : State :=
  if s.slurry.state = .tripped ∧ s.slurryTripped = false then zeroSlurry .stopped s else s

/-- R157 step 4: a kind is removed, with the record if the set is now empty, and the removal is
handed to the blocks. -/
def removeTrip (k : TripKind) (s : State) : State :=
  let removed := s.onOrders fun x =>
    { x with trips := removeKind k x.trips
             record := if removeKind k x.trips = [] then none else x.record }
  let relinked := if k = .orderLost then
      (setLink .live removed).onOrders fun x => { x with timer := s.startMs .orderPeriod }
    else removed
  releaseSlurry (releaseLoop .g2 (releaseLoop .g1 relinked))

/-- R157 steps 2 to 4, for a named kind. -/
def resetKind (k : TripKind) (s : State) : Result × State :=
  if s.latched k = false then (.ok, s)
  else if s.causeStands k then (.causePresent, s)
  else (.ok, removeTrip k s)

/-- R157: TRIP_RESET with its argument. -/
def resetTrip (w : Word) (s : State) : Result × State :=
  match resetTargetOf w with
  | none => (.badArg, s)
  | some (.kind k) => resetKind k s
  | some .highest =>
    match s.orders.trips with
    | [] => (.ok, s)
    | k :: _ => resetKind k s

/-- KEEP: step 1 of R150, and no REPLY, whatever items follow. -/
def execKeep (dt : Nat) (_args : List Word) (s : State) : Host.Outcome State Fault Refusal :=
  arrival dt s orderLinkStep

/-- ORDER_BAD_CODE: the code echoed is item 0, or 0 for a frame with no items (R150 step 4). -/
def execOrderBadCode (dt : Nat) (items : List Word) (s : State) :
    Host.Outcome State Fault Refusal :=
  arrival dt s fun t =>
    let linked := orderLinkStep t
    if linked.replyCap then linked
    else reply [firstArg items, wordOf Result.badCode.code] linked

/-- MODE_BAD_TARGET: refused with BAD_ARG, by its item count or by its target (R150). -/
def execModeBadTarget (dt : Nat) (args : List Word) (s : State) :
    Host.Outcome State Fault Refusal :=
  arrival dt s (takeOrder 6 args fun t => (.badArg, t))

/-- ORDER_TIMER_EXPIRY. -/
def execOrderTimerExpiry (dt : Nat) (s : State) : Host.Outcome State Fault Refusal :=
  live dt s fun t => expiry t.orders.timer orderTimerExpired t

/-- REPORT_TIMER_EXPIRY. -/
def execReportTimerExpiry (dt : Nat) (s : State) : Host.Outcome State Fault Refusal :=
  live dt s fun t => expiry t.orders.reportTimer reportTimerExpired t

/-- TRIP_RESET. -/
def execTripReset (dt : Nat) (args : List Word) (s : State) : Host.Outcome State Fault Refusal :=
  arrival dt s (takeOrder 12 args (resetTrip (firstArg args)))

end Sys2Proof.Machine
end

