-- ==== Sys2Proof/Machine/Drive.lean ====
section
/-! DEFINITION. Chapters 2 and 3: the class selector, the drive update with its eight stages, the stall
test, the UNJAM sequence and the overpressure count, with the meanings of DRIVE_UPDATE, DRIVE_START,
DRIVE_STOP, SPEED, CLASS and MODE_GEARBOX. -/

namespace Sys2Proof.Machine

/-! ## The class in effect (R54 to R58) -/

/-- A word of a band entry: 0 from, 1 to, 2 class (R54). -/
def bandWord (table : List Word) (entry word : Nat) : Nat := (table.getD (entry * 3 + word) 0).toNat

/-- R54: an entry is valid if its class word names a class. -/
def bandValid (table : List Word) (entry : Nat) : Bool := decide (bandWord table entry 2 ≤ 7)

/-- R57 step 2: a valid band contains the depth. -/
def bandContains (table : List Word) (depth entry : Nat) : Bool :=
  bandValid table entry && decide (bandWord table entry 0 * 100 ≤ depth) &&
    decide (depth < bandWord table entry 1 * 100)

/-- R57: the class that the evaluation gives. -/
def State.evaluatedClass (s : State) : Nat :=
  if s.survey.fresh = false ∨ s.survey.received = false then s.selector.operatorClass
  else
    match (List.range 16).find? (bandContains s.selector.bandTable s.survey.depth) with
    | some entry => bandWord s.selector.bandTable entry 2
    | none => s.selector.operatorClass

/-- R57: both integrators are clamped into ± the I_max of the class in effect. -/
def clampIntegrators (s : State) : State :=
  let clampLoop := fun l : DriveLoop => { l with integ := clampMag (s.classField .iMax) l.integ }
  (s.onLoop .g1 clampLoop).onLoop .g2 clampLoop

/-- R57: the class in effect is evaluated; a change clamps both integrators into the new ±I_max. -/
def evaluateClass (s : State) : State :=
  if s.evaluatedClass = s.selector.classInEffect then s
  else clampIntegrators (s.onSelector fun x => { x with classInEffect := s.evaluatedClass })

/-! ## The inputs of an update (R22, R98) -/

/-- What a drive update reads once at its start. `load` is the pressure P_g of a fresh source. -/
structure DriveInputs where
  health : Health
  speed  : Int
  load   : Option Int
  trim   : Int
  cut    : Int
  base   : Int
deriving DecidableEq, Repr

/-- R98: the trim read at this moment. -/
def State.trimRead (s : State) : Int :=
  if s.steering.state = .auto ∧ s.bothLoops .run then s.steering.trim else 0

/-- R22 step 1. -/
def State.driveInputs (s : State) (g : Gear) : DriveInputs :=
  { health := (s.pickupOf g).health
    speed := s.measuredSpeed g
    load := if (s.laneOf .drive).fresh then s.pressure g else none
    trim := s.trimRead
    cut := s.slurry.cut
    base := s.drive.base }

/-! ## Stages 1 to 8 (R36 to R42) -/

/-- R36 item 6: the target of an UNJAM phase, before the clamp to ±S_max. -/
def phaseTarget (phase : UnjamPhase) (base unjamSpeed : Int) : Int :=
  match phase with
  | .reverse => -(signOf base * unjamSpeed)
  | .forward => signOf base * unjamSpeed
  | .none => 0

/-- R36: the trim as a loop adds it: gearbox 1 takes |S_base| + T, gearbox 2 takes |S_base| − T. -/
def trimFor (g : Gear) (base trim : Int) : Int :=
  if base = 0 then 0
  else
    match g with
    | .g1 => trim
    | .g2 => -trim

/-- R36: stage 1, the loop's target S1. -/
def State.stage1 (s : State) (g : Gear) (inp : DriveInputs) : Int :=
  match (s.loopOf g).state with
  | .run =>
    clampMag (s.classField .sMax)
      (signOf inp.base * max 0 (mag inp.base + trimFor g inp.base inp.trim))
  | .held | .opened =>
    clampMag (s.classField .holdSpeed) (clampMag (s.classField .sMax) inp.base)
  | .unjam =>
    clampMag (s.classField .sMax)
      (phaseTarget (s.loopOf g).phase inp.base (s.classField .unjamSpeed))
  | _ => 0

/-- R38: the torque factor that a pressure gives. -/
def torqueFactor (pLim pMax fMin p : Int) : Int :=
  if p ≤ pLim then 1024 else clamp fMin 1024 (1024 - roundDiv (1024 * (p - pLim)) (pMax - pLim))

/-- R38: the torque factor after stage 3; without a fresh, present pressure it is kept. -/
def State.stageTorque (s : State) (g : Gear) (inp : DriveInputs) : Int :=
  match inp.load with
  | some p => torqueFactor (s.classField .pLim) (s.classField .pMax) (s.classField .fMin) p
  | none => (s.loopOf g).torque

/-- R39: a value moved toward a target by at most a step. -/
def rampToward (step current target : Int) : Int :=
  if mag (target - current) ≤ step then target else current + step * signOf (target - current)

/-- R37 to R39: stages 2 to 4, the ramped target. -/
def State.stageRamped (s : State) (g : Gear) (inp : DriveInputs) : Int :=
  rampToward (s.classField .rampStep) (s.loopOf g).ramped
    (roundDiv (roundDiv (s.stage1 g inp * inp.cut) 1024 * s.stageTorque g inp) 1024)

/-- The number of the feed-forward curve of a gearbox (R59). -/
def feedCurve : Gear → Nat
  | .g1 => 1
  | .g2 => 2

/-- R40: stage 6, the feed-forward of a ramped target. -/
def State.feedForward (s : State) (g : Gear) (ramped : Int) : Int :=
  signOf ramped * curveLookup s.selector.curveTable (feedCurve g) (mag ramped)

/-- What stage 7 gives: the valve opening, the integrator and the SAT flag. -/
structure PiResult where
  opening : Int
  integ   : Int
  sat     : Bool
deriving DecidableEq, Repr

/-- R41: stage 7 with the PI terms. -/
def piStage (kp ki iMax integ ff e : Int) : PiResult :=
  let next := clampMag iMax (integ + roundDiv (ki * e) 256)
  let raw := ff + roundDiv (kp * e) 256 + next
  let sat := decide (raw < -1000 ∨ 1000 < raw)
  { opening := clampMag 1000 raw
    integ := if sat = true ∧ e ≠ 0 ∧ signOf e = signOf raw then integ else next
    sat := sat }

/-- R40, R41: stages 5 to 7 at a ramped target. In OPEN the PI is skipped. -/
def State.stagePi (s : State) (g : Gear) (inp : DriveInputs) (ramped : Int) : PiResult :=
  if (s.loopOf g).state = .opened then ⟨s.feedForward g ramped, 0, false⟩
  else piStage (s.classField .kp) (s.classField .ki) (s.classField .iMax) (s.loopOf g).integ
    (s.feedForward g ramped) (ramped - inp.speed)

/-- R36 to R42: stages 1 to 8. -/
def computeStages (g : Gear) (inp : DriveInputs) (s : State) : State :=
  let ramped := s.stageRamped g inp
  let out := s.stagePi g inp ramped
  setRequested (.valve g) out.opening (s.onLoop g fun l =>
    { l with torque := s.stageTorque g inp, ramped := ramped, integ := out.integ, sat := out.sat })

/-! ## The tests of an update -/

/-- R28, R29: the health test, step 2 of an update. -/
def healthTest (g : Gear) (inp : DriveInputs) (s : State) : State :=
  match (s.loopOf g).state, inp.health with
  | .run, .fault | .held, .fault => enterLoop g .opened s
  | .opened, .ok => enterWork g s
  | .stopping, .fault => enterLoop g .stopped s
  | _, _ => s

/-- R43: the stall test; the entry into UNJAM is a HELD cause for the partner. -/
def stallTest (g : Gear) (inp : DriveInputs) (s : State) : State :=
  match inp.load with
  | none => s
  | some p =>
    if 200 ≤ mag (s.loopOf g).ramped ∧ mag inp.speed < s.classField .stallSpeed ∧
        s.classField .pStall ≤ p then
      if s.classField .stallCount ≤ (s.loopOf g).stallCount + 1 then
        holdLoop g.partner (enterLoop g .unjam s)
      else s.onLoop g fun l => { l with stallCount := l.stallCount + 1 }
    else s.onLoop g fun l => { l with stallCount := 0 }

/-- R45: the phase count advances and the phase may end. -/
def advancePhase (g : Gear) (s : State) : State :=
  let l := s.loopOf g
  if l.phaseCount + 1 < l.phaseLength then s.onLoop g fun x => { x with phaseCount := x.phaseCount + 1 }
  else
    match l.phase with
    | .none => s
    | .reverse => s.onLoop g (DriveLoop.startPhase .forward (s.classField .tFwd))
    | .forward =>
      if (l.attempts : Int) + 1 < s.classField .unjamAttempts then
        s.onLoop g fun x =>
          { x.startPhase .reverse (s.classField .tRev) with attempts := x.attempts + 1 }
      else latch (.jam g) s

/-- R46: the recovery test is met. A target or a speed of 0 has the sign 0 of R3 (DEDUCED,
assumption 11). -/
def State.recoveryMet (s : State) (inp : DriveInputs) : Bool :=
  decide (inp.health = .ok ∧
    signOf inp.speed = signOf (phaseTarget .forward inp.base (s.classField .unjamSpeed)) ∧
    s.classField .recoverSpeed ≤ mag inp.speed)

/-- R45, R46: the end of an UNJAM update. -/
def unjamEnd (g : Gear) (inp : DriveInputs) (s : State) : State :=
  let l := s.loopOf g
  if l.phase ≠ .forward then advancePhase g s
  else if s.recoveryMet inp = false then
    advancePhase g (s.onLoop g fun x => { x with recoverCount := 0 })
  else if s.classField .recoverUpdates ≤ l.recoverCount + 1 then
    unholdLoop g.partner (enterWork g s)
  else advancePhase g (s.onLoop g fun x => { x with recoverCount := x.recoverCount + 1 })

/-- R22 step 4: the end-of-update tests. -/
def endTests (g : Gear) (inp : DriveInputs) (s : State) : State :=
  match (s.loopOf g).state with
  | .run | .held => stallTest g inp s
  | .unjam => unjamEnd g inp s
  | .stopping =>
    if (s.loopOf g).ramped = 0 ∧ mag inp.speed < 50 then enterLoop g .stopped s else s
  | _ => s

/-- RUN, HELD, UNJAM, OPEN and STOPPING compute (R22). -/
def LoopState.computing : LoopState → Bool
  | .run => true
  | .held => true
  | .unjam => true
  | .opened => true
  | .stopping => true
  | _ => false

/-- R22 steps 1 to 4. -/
def computingUpdate (g : Gear) (s : State) : State :=
  let inp := s.driveInputs g
  let tested := healthTest g inp s
  if (tested.loopOf g).state.computing then endTests g inp (computeStages g inp tested) else tested

/-- R24: the release test of ARMED. In LOST, which cannot be met there, the loop stays (DESIGN CHOICE,
assumption 14). -/
def releaseTest (g : Gear) (s : State) : State :=
  if s.slurry.state ≠ .run ∧ s.slurry.state ≠ .manual then s
  else if s.heldCause g then enterLoop g .held s
  else if s.orders.link = .lost then s
  else enterLoop g .run s

/-- R21, R22: one drive update of one loop. -/
def driveUpdate (g : Gear) (s : State) : State :=
  let evaluated := evaluateClass (s.onLoop g fun l => { l with timer := s.startMs .drivePeriod })
  match (evaluated.loopOf g).state with
  | .stopped | .manual | .tripped => evaluated
  | .armed => releaseTest g evaluated
  | .run | .held | .unjam | .opened | .stopping => computingUpdate g evaluated

/-! ## The overpressure count (R31) -/

/-- The loop counts overpressure: its state is neither STOPPED nor TRIPPED. -/
def State.countsPressure (s : State) (g : Gear) : Bool :=
  decide ((s.loopOf g).state ≠ .stopped ∧ (s.loopOf g).state ≠ .tripped)

/-- The latest pressure of a loop is at or above P_trip. -/
def State.overPressure (s : State) (g : Gear) : Bool :=
  match s.pressure g with
  | some p => decide (s.classField .pTrip ≤ p)
  | none => false

/-- R31: the overpressure count of a loop after a DRIVE sample. -/
def State.pressureCount (s : State) (g : Gear) : Nat :=
  if s.countsPressure g = false then (s.loopOf g).overCount
  else if s.overPressure g then (s.loopOf g).overCount + 1
  else if (s.pressure g).isSome then 0
  else (s.loopOf g).overCount

/-- R31: both loops count a DRIVE sample. -/
def countPressures (s : State) : State :=
  (s.onLoop .g1 fun l => { l with overCount := s.pressureCount .g1 }).onLoop .g2 fun l =>
    { l with overCount := s.pressureCount .g2 }

/-- This sample takes the loop's count to 5, so the loop requests its latch. -/
def State.willTrip (s : State) (g : Gear) : Bool :=
  s.countsPressure g && s.overPressure g && decide (5 ≤ (s.loopOf g).overCount + 1)

/-- R31, R155: the overpressure test of both loops at a DRIVE sample. Both loops count the sample as
it finds them, and each whose count reaches 5 requests its latch. Where both do, either request may be
taken first, a free value says which, and both kinds end latched (assumption 4). -/
def overpressureTest (s : State) : State :=
  let counted := countPressures s
  match s.willTrip .g1, s.willTrip .g2 with
  | false, false => counted
  | true, false => latch (.overpressure .g1) counted
  | false, true => latch (.overpressure .g2) counted
  | true, true =>
    let drawn := { counted with draws := counted.draws + 1 }
    if Config.secondLoopFirst s.draws then
      latch (.overpressure .g1) (latch (.overpressure .g2) drawn)
    else latch (.overpressure .g2) (latch (.overpressure .g1) drawn)

/-! ## The orders of the drive block and the class selector -/

/-- The trips that refuse DRIVE_START (R23). -/
def driveStartTrips : List TripKind :=
  [.jam .g1, .jam .g2, .overpressure .g1, .overpressure .g2, .orderLost, .laneTrip .drive]

/-- R23: DRIVE_START. -/
def startDrives (s : State) : Result × State :=
  if driveStartTrips.any s.latched then (.tripped, s)
  else if (s.laneOf .drive).state ≠ .up then (.noLane, s)
  else if s.bothLoops .stopped = false then (.busy, s)
  else (.ok, enterLoop .g2 .armed (enterLoop .g1 .armed s))

/-- R30: MODE naming a gearbox. -/
def modeGearbox (g : Gear) (w : Word) (s : State) : Result × State :=
  match modeOf w with
  | some .manual =>
    if (s.loopOf g).state = .stopped then (.ok, enterLoop g .manual s)
    else if (s.loopOf g).state = .manual then (.ok, s)
    else (.busy, s)
  | some .auto =>
    if (s.loopOf g).state = .manual then (.ok, enterLoop g .stopped s) else (.ok, s)
  | some .off | none => (.badArg, s)

/-- The target word of a gearbox (R169). -/
def gearTarget : Gear → Word
  | .g1 => 1
  | .g2 => 2

/-- DRIVE_UPDATE. -/
def execDriveUpdate (dt : Nat) (g : Gear) (s : State) : Host.Outcome State Fault Refusal :=
  live dt s fun t => expiry (t.loopOf g).timer (driveUpdate g) t

/-- DRIVE_START. -/
def execDriveStart (dt : Nat) (args : List Word) (s : State) : Host.Outcome State Fault Refusal :=
  arrival dt s (takeOrder 2 args startDrives)

/-- DRIVE_STOP. -/
def execDriveStop (dt : Nat) (args : List Word) (s : State) : Host.Outcome State Fault Refusal :=
  arrival dt s (takeOrder 3 args fun t => (.ok, stopBoth t))

/-- SPEED: the argument is clamped to ±4000 and held as S_base (R26). -/
def execSpeed (dt : Nat) (args : List Word) (s : State) : Host.Outcome State Fault Refusal :=
  arrival dt s (takeOrder 4 args fun t =>
    (.ok, { t with drive := { t.drive with base := clampMag 4000 (signed (firstArg args)) } }))

/-- CLASS: the argument is clamped to 0 to 7 and held as the operator class (R56). -/
def execSetClass (dt : Nat) (args : List Word) (s : State) : Host.Outcome State Fault Refusal :=
  arrival dt s (takeOrder 5 args fun t =>
    (.ok, t.onSelector fun x =>
      { x with operatorClass := (clamp 0 7 (signed (firstArg args))).toNat }))

/-- MODE_GEARBOX. -/
def execModeGearbox (dt : Nat) (g : Gear) (args : List Word) (s : State) :
    Host.Outcome State Fault Refusal :=
  arrival dt s (takeOrder 6 (gearTarget g :: args) (modeGearbox g (firstArg args)))

end Sys2Proof.Machine
end

