-- ==== Sys2Proof/Machine/Tables.lean ====
section
/-! DEFINITION. Chapter 10: TABLE frames, the reading of every table and the checks of every table write,
with the meanings of TABLE_READ, TABLE_WRITE and TABLE_BAD_CODE (R51 to R55, R60, R115, R128, R137,
R163 to R167, R170). -/

namespace Sys2Proof.Machine

/-! ## The tables and their words (R163, R164, R167) -/

/-- The eight tables (R163). -/
inductive Table where
  | route | envelope | classes | bands | curves | settings | trajectory | identification
deriving DecidableEq, Repr

/-- The table that an id names (R163). -/
def tableOf : Nat → Option Table
  | 0 => some .route
  | 1 => some .envelope
  | 2 => some .classes
  | 3 => some .bands
  | 4 => some .curves
  | 5 => some .settings
  | 6 => some .trajectory
  | 7 => some .identification
  | _ => none

/-- The number of words of a table (R163). -/
def Table.size : Table → Nat
  | .route => 192
  | .envelope => 21
  | .classes => 168
  | .bands => 48
  | .curves => 90
  | .settings => 43
  | .trajectory => 8192
  | .identification => 16

/-- Tables 6 and 7 are read only (R163). -/
def Table.readOnly : Table → Bool
  | .trajectory => true
  | .identification => true
  | _ => false

/-- R167: word `word` of a station's record in table 6. -/
def stationWord (st : Station) (word : Nat) : Word :=
  match word with
  | 0 => wordOf (1 + st.spacing.number * 2 + flagBit 3 st.interpolated + flagBit 4 st.disagree : Nat)
  | 1 => wordOf st.count
  | 2 => wordOf st.meanX
  | 3 => wordOf st.meanY
  | 4 => wordOf st.meanR
  | 5 => wordOf st.offsetX
  | 6 => wordOf st.offsetY
  | _ => 0

/-- R167: a word of table 6; a station without a record reads as 0. -/
def trajectoryWord (trajectory : List Station) (index : Nat) : Word :=
  match stationAt trajectory (index / 8) with
  | some st => stationWord st (index % 8)
  | none => 0

/-- R167: words 8 to 15 of table 7, from the first-trip record. -/
def recordWord (r : TripRecord) (word : Nat) : Word :=
  match word with
  | 8 =>
    wordOf (r.depth.getD 0 / 65536 % 8 + flagBit 3 r.depth.isSome + flagBit 4 r.frontier.isSome +
      flagBit 5 true + r.kind.number * 2 ^ 8 : Nat)
  | 9 => wordOf (r.depth.getD 0 % 65536 : Nat)
  | 10 => wordOf r.speed1
  | 11 => wordOf r.speed2
  | 12 => itemWord r.p1
  | 13 => itemWord r.p2
  | 14 => wordOf r.feed
  | 15 => wordOf (r.frontier.getD 0)
  | _ => 0

/-- R167: a word of table 7. -/
def State.identificationWord (s : State) (word : Nat) : Word :=
  match word with
  | 0 => 7314
  | 1 => 1
  | 2 => wordOf s.straps.addr.toNat
  | 3 => wordOf s.straps.teeth.toNat
  | 4 => wordOf s.straps.rate.toNat
  | 5 | 6 | 7 => 0
  | _ =>
    match s.orders.record with
    | some r => recordWord r word
    | none => 0

/-- R164: a word of a table as its owner holds it. -/
def State.readWord (s : State) (t : Table) (index : Nat) : Word :=
  match t with
  | .route => s.path.route.getD index 0
  | .envelope => s.lanes.envelope.getD index 0
  | .classes => s.selector.classTable.getD index 0
  | .bands => s.selector.bandTable.getD index 0
  | .curves => s.selector.curveTable.getD index 0
  | .settings => s.settings.getD index 0
  | .trajectory => trajectoryWord s.survey.trajectory index
  | .identification => s.identificationWord index

/-! ## The route table (R137) -/

/-- R137: a lane is in use. -/
def State.laneInUse (s : State) : Lane → Bool
  | .drive =>
    decide (((s.loopOf .g1).state ≠ .stopped ∧ (s.loopOf .g1).state ≠ .tripped) ∨
      ((s.loopOf .g2).state ≠ .stopped ∧ (s.loopOf .g2).state ≠ .tripped))
  | .steer => decide (s.steering.state ≠ .off)
  | .attitude => decide (s.survey.state ≠ .idle)
  | .slurry => decide (s.slurry.state ≠ .stopped ∧ s.slurry.state ≠ .tripped)

/-- A lane word names a lane that is in use. -/
def State.wordInUse (s : State) (w : Nat) : Bool :=
  match laneOfNumber w with
  | some l => s.laneInUse l
  | none => false

/-- R136, R137: whether a route word's value lies in its range. -/
def routeRange (word : Nat) (w : Word) : Bool :=
  match word with
  | 0 => decide (w.toNat ≤ 4)
  | 1 => decide (w.toNat ≤ 255)
  | _ => decide (w.toNat ≤ 1)

/-- R137: an entry other than `address` maps the lane that a lane word names. -/
def mappedElsewhere (table : List Word) (address : Nat) (w : Word) : Bool :=
  (List.range 64).any fun a => decide (a ≠ address ∧ routeWord table a 0 = w.toNat)

/-- R137: the check of a route word; none if it passes. -/
def State.checkRoute (s : State) (index : Nat) (w : Word) : Option Result :=
  let address := index / 3
  let word := index % 3
  if routeRange word w = false then some .badValue
  else if word ≠ 0 then none
  else if w ≠ 0 ∧ (address ≤ 1 ∨ address = s.ownAddress) then some .badValue
  else if w ≠ 0 ∧ mappedElsewhere s.path.route address w then some .badOrder
  else if routeWord s.path.route address 0 ≠ w.toNat ∧
      (s.wordInUse (routeWord s.path.route address 0) || s.wordInUse w.toNat) then some .inUse
  else none

/-- R137: a route word is written; a lane or n word sets the entry's decimation counter to 0. -/
def putRoute (index : Nat) (w : Word) (s : State) : State :=
  s.onPath fun x =>
    { x with route := x.route.set index w
             decimation := if index % 3 = 2 then x.decimation else x.decimation.set (index / 3) 0 }

/-! ## The envelope table (R128) -/

/-- The lower end of the range of a channel by its entry number. -/
def entryLow (entry : Nat) : Int := if entry = 6 then 0 else -1000

/-- R128: the check of an envelope word. -/
def checkEnvelope (table : List Word) (index : Nat) (w : Word) : Option Result :=
  let entry := index / 3
  let inRange := entryLow entry ≤ signed w ∧ signed w ≤ 1000
  match index % 3 with
  | 0 =>
    if ¬ inRange then some .badValue
    else if signed (table.getD (entry * 3 + 1) 0) < signed w then some .badOrder
    else none
  | 1 =>
    if ¬ inRange then some .badValue
    else if signed w < signed (table.getD (entry * 3) 0) then some .badOrder
    else none
  | _ => if 2000 < unsigned w then some .badValue else none

/-! ## The class table (R50, R51, R53) -/

/-- R50: the ranges of the 21 fields. -/
def classRanges : List SettingRow :=
  [ ⟨0, 4000, 0⟩, ⟨0, 4000, 0⟩, ⟨1, 4000, 1⟩, ⟨0, 4096, 0⟩, ⟨0, 1024, 0⟩, ⟨0, 1000, 0⟩,
    ⟨0, 5000, 0⟩, ⟨0, 5000, 0⟩, ⟨128, 1024, 128⟩, ⟨0, 5000, 0⟩, ⟨0, 5000, 0⟩, ⟨0, 4000, 0⟩,
    ⟨1, 255, 1⟩, ⟨0, 4000, 0⟩, ⟨1, 255, 1⟩, ⟨1, 255, 1⟩, ⟨1, 7, 1⟩, ⟨0, 4000, 0⟩, ⟨1, 255, 1⟩,
    ⟨100, 6000, 100⟩, ⟨0, 600, 0⟩ ]

/-- A value lies in the range of a row, both ends included. -/
def SettingRow.holds (r : SettingRow) (x : Int) : Bool := decide (r.lo ≤ x ∧ x ≤ r.hi)

/-- R50: a word lies in the range of its field. -/
def classRange (field : Nat) (w : Word) : Bool :=
  match classRanges[field]? with
  | some r => r.holds (unsigned w)
  | none => false

/-- R51 step 3: a word that would break the pressure order of its row. -/
def pressureOrder (table : List Word) (row field : Nat) (w : Word) : Bool :=
  let v := unsigned w
  let at' := fun f : ClassField => classWord table row f.number
  if field = ClassField.pLim.number then decide (at' .pMax ≤ v)
  else if field = ClassField.pMax.number then decide (v ≤ at' .pLim ∨ at' .pTrip < v)
  else if field = ClassField.pTrip.number then decide (v < at' .pMax)
  else false

/-- R51: the check of a class table word. -/
def State.checkClass (s : State) (index : Nat) (w : Word) : Option Result :=
  let row := index / 21
  let field := index % 21
  if row = s.selector.classInEffect ∧ s.anyCutting = true then some .inUse
  else if classRange field w = false then some .badValue
  else if pressureOrder s.selector.classTable row field w then some .badOrder
  else none

/-- R51: a class table word is written, and the field takes the new value at once; a reader takes it
as it stands at its next use. A write of I_max moves no integrator (DEDUCED, assumption 16). -/
def putClass (index : Nat) (w : Word) (s : State) : State :=
  s.onSelector fun x => { x with classTable := x.classTable.set index w }

/-! ## The depth band table (R55) -/

/-- A valid entry of the band table, as limits. -/
structure Band where
  lower : Nat
  upper : Nat
deriving DecidableEq, Repr

/-- The valid entries of a band table, in entry number order (R55). -/
def validBands (table : List Word) : List Band :=
  ((List.range 16).filter (bandValid table)).map fun e => ⟨bandWord table e 0, bandWord table e 1⟩

/-- R55: each band rises, the lower limits rise, and no band overlaps the next. -/
def bandsOk : List Band → Bool
  | [] => true
  | [b] => decide (b.lower < b.upper)
  | b :: c :: rest =>
    decide (b.lower < b.upper) && decide (b.lower < c.lower) && decide (b.upper ≤ c.lower) &&
      bandsOk (c :: rest)

/-- R54: a word lies in the range of its place in an entry. -/
def bandRange (word : Nat) (w : Word) : Bool :=
  if word = 2 then decide (w.toNat ≤ 7 ∨ w.toNat = 65535) else decide (w.toNat ≤ 3000)

/-- R55: the check of a band word. -/
def checkBand (table : List Word) (index : Nat) (w : Word) : Option Result :=
  if bandRange (index % 3) w = false then some .badValue
  else if bandsOk (validBands (table.set index w)) then none
  else some .badOrder

/-! ## The curve table (R60) -/

/-- R60: the check of a curve word. -/
def checkCurve (table : List Word) (index : Nat) (w : Word) : Option Result :=
  let curve := index / 18 + 1
  let point := index % 18 / 2
  if index % 2 = 1 then if 1000 < unsigned w then some .badValue else none
  else if (1 ≤ point ∧ unsigned w ≤ curveX table curve (point - 1)) ∨
      (point ≤ 7 ∧ curveX table curve (point + 1) ≤ unsigned w) then some .badOrder
  else none

/-! ## The settings table (R166, R115) -/

/-- R166: a value lies in the range of a setting; two ranges are lists. -/
def settingRange (index : Nat) (x : Int) : Bool :=
  match settingRows[index]? with
  | none => false
  | some r =>
    r.holds x && (index ≠ 0 || decide (x = 0 ∨ 10 ≤ x)) &&
      (index ≠ 1 || decide (x = 1 ∨ x = 2 ∨ x = 4 ∨ x = 8))

/-- R166 step 2: a value that would break the order of the prime settings or of the densities. -/
def State.settingOrder (s : State) (index : Nat) (x : Int) : Bool :=
  if index = Setting.primeStart.index then decide (s.setting .primeMax < x)
  else if index = Setting.primeMax.index then decide (x < s.setting .primeStart)
  else if index = Setting.densityLow.index then decide (s.setting .densityHigh ≤ x)
  else if index = Setting.densityHigh.index then decide (x ≤ s.setting .densityLow)
  else false

/-- R166: the check of a settings word. -/
def State.checkSetting (s : State) (index : Nat) (w : Word) : Option Result :=
  let x := settingNumber index w
  if settingRange index x = false then some .badValue
  else if s.settingOrder index x then some .badOrder
  else none

/-- R115, R166: a settings word is written; a C_min above the cut factor raises it. -/
def putSetting (index : Nat) (w : Word) (s : State) : State :=
  let written := { s with settings := s.settings.set index w }
  if index = Setting.cutMin.index then
    written.onSlurry fun x => { x with cut := max x.cut (settingNumber index w) }
  else written

/-! ## A TABLE frame (R163 to R165) -/

/-- The check of a word of a table; none if it passes (R163). -/
def State.checkWord (s : State) (t : Table) (index : Nat) (w : Word) : Option Result :=
  match t with
  | .route => s.checkRoute index w
  | .envelope => checkEnvelope s.lanes.envelope index w
  | .classes => s.checkClass index w
  | .bands => checkBand s.selector.bandTable index w
  | .curves => checkCurve s.selector.curveTable index w
  | .settings => s.checkSetting index w
  | .trajectory | .identification => some .readOnly

/-- A word that has passed its check is written. -/
def putWord (t : Table) (index : Nat) (w : Word) (s : State) : State :=
  match t with
  | .route => putRoute index w s
  | .envelope => s.onLanes fun b => { b with envelope := b.envelope.set index w }
  | .classes => putClass index w s
  | .bands => s.onSelector fun x => { x with bandTable := x.bandTable.set index w }
  | .curves => s.onSelector fun x => { x with curveTable := x.curveTable.set index w }
  | .settings => putSetting index w s
  | .trajectory | .identification => s

/-- What a WRITE comes to: its result, the number of words written, and the state. -/
structure WriteOutcome where
  result  : Result
  written : Nat
  state   : State
deriving DecidableEq, Repr

/-- R165: words are written in index order up to the first that is refused; `n` were written
before. -/
def writeWords (t : Table) : (index n : Nat) → List Word → State → WriteOutcome
  | _, n, [], s => ⟨.ok, n, s⟩
  | index, n, w :: ws, s =>
    match s.checkWord t index w with
    | some r => ⟨r, n, s⟩
    | none => writeWords t (index + 1) (n + 1) ws (putWord t index w s)

/-- The consecutive words of a READ (R164). -/
def State.readWords (s : State) (t : Table) (start count : Nat) : List Word :=
  (List.range count).map fun k => s.readWord t (start + k)

/-- R163: the tests of a TABLE frame, of which `args` are the items after item 0, and the table that
a passing frame names. -/
def tableTests (write : Bool) (args : List Word) : Except Result Table :=
  let count := (args.getD 2 0).toNat
  if args.length < 3 ∨ count < 1 ∨ 8 < count ∨
      args.length ≠ (if write then 3 + count else 3) then .error .badArg
  else
    match tableOf (args.getD 0 0).toNat with
    | none => .error .badTable
    | some t =>
      if t.size < (args.getD 1 0).toNat + count then .error .badIndex
      else if write = true ∧ t.readOnly = true then .error .readOnly
      else .ok t

/-- R170: the REPLY to a TABLE frame. -/
def replyTable (item0 : Word) (r : Result) (args : List Word) (count : Nat) (words : List Word)
    (s : State) : State :=
  reply ([item0, wordOf r.code, args.getD 0 0, args.getD 1 0, wordOf count] ++ words) s

/-- The item 0 of a READ and of a WRITE (R169). -/
def readCode : Word := 16
def writeCode : Word := 17

/-- R163, R164: a TABLE READ. -/
def takeRead (args : List Word) (s : State) : State :=
  if s.replyCap then s
  else
    match tableTests false args with
    | .error r => replyTable readCode r args 0 [] s
    | .ok t =>
      let count := (args.getD 2 0).toNat
      replyTable readCode .ok args count (s.readWords t (args.getD 1 0).toNat count) s

/-- R163, R165: a TABLE WRITE. -/
def takeWrite (args : List Word) (s : State) : State :=
  if s.replyCap then s
  else
    match tableTests true args with
    | .error r => replyTable writeCode r args 0 [] s
    | .ok t =>
      let out := writeWords t (args.getD 1 0).toNat 0 (args.drop 3) s
      replyTable writeCode out.result args out.written [] out.state

/-- R163 test 1, R170: a TABLE frame whose item 0 is neither READ nor WRITE. -/
def takeBadTable (items : List Word) (s : State) : State :=
  if s.replyCap then s
  else replyTable (firstArg items) .badCode (items.drop 1) 0 [] s

/-- TABLE_READ. -/
def execTableRead (dt : Nat) (args : List Word) (s : State) : Host.Outcome State Fault Refusal :=
  arrival dt s (takeRead args)

/-- TABLE_WRITE. -/
def execTableWrite (dt : Nat) (args : List Word) (s : State) : Host.Outcome State Fault Refusal :=
  arrival dt s (takeWrite args)

/-- TABLE_BAD_CODE. -/
def execTableBadCode (dt : Nat) (items : List Word) (s : State) :
    Host.Outcome State Fault Refusal :=
  arrival dt s (takeBadTable items)

end Sys2Proof.Machine
end

