-- ==== Sys2Proof/WellFormed.lean ====
section
/-! DEFINITION. Which commands are rows as the table describes them: a frame of at most 24 items and in
its own row, a channel's or a lane's timer that exists. -/

namespace Sys2Proof

/-- A frame has at most so many items (R134). -/
def maxItems : Nat := 24

/-- The first item lies outside the codes of ORDER frames, 1 to 13, or is missing (R150). -/
def badOrderCode : List Word → Bool
  | [] => true
  | code :: _ => decide (code.toNat < 1 ∨ 13 < code.toNat)

/-- The first item is neither READ nor WRITE, or is missing (R163). -/
def badTableCode : List Word → Bool
  | [] => true
  | code :: _ => decide (code.toNat ≠ 16 ∧ code.toNat ≠ 17)

/-- The target word names none of the four targets, or is missing (R150, R169). -/
def badModeTarget : List Word → Bool
  | [] => true
  | target :: _ => decide (target.toNat < 1 ∨ 4 < target.toNat)

/-- A frame that arrived whole: not bad, by R134, and with the check of its contents. -/
def goodNodeFrame (f : Frame) : Bool :=
  decide (f.dest.toNat ≤ 63 ∧ f.src.toNat ≤ 63 ∧ f.kind = Machine.kindNode ∧
    f.items.length ≤ maxItems ∧ f.check = (Machine.mkFrame f.dest f.src f.kind f.items).check)

/-- The command is one that its row describes. -/
def Instr.wf : Instr → Bool
  | .sampleArrival _ _ rx => decide (Machine.kindChar rx = some Machine.kindSample)
  | .laneFrameArrival _ _ rx => decide (Machine.kindChar rx ≠ some Machine.kindSample)
  | .depth _ items => decide (items.length ≤ maxItems)
  | .keep _ args | .driveStart _ args | .driveStop _ args | .speed _ args | .setClass _ args
  | .pumpStart _ args | .pumpStop _ args | .panelBegin _ args | .panelEnd _ args
  | .setSpacing _ args | .tripReset _ args | .restart _ args | .tableRead _ args
  | .tableWrite _ args => decide (args.length + 1 ≤ maxItems)
  | .modeGearbox _ _ args | .modeSteering _ args | .modePump _ args =>
    decide (args.length + 2 ≤ maxItems)
  | .modeBadTarget _ args => decide (args.length + 1 ≤ maxItems) && badModeTarget args
  | .orderBadCode _ items => decide (items.length ≤ maxItems) && badOrderCode items
  | .tableBadCode _ items => decide (items.length ≤ maxItems) && badTableCode items
  | .operatorDemand _ dest items => decide (dest.toNat ≤ 63 ∧ items.length ≤ maxItems)
  | .nodeDown _ f => goodNodeFrame f
  | .refreshTimerExpiry _ lane => decide (lane ≠ .attitude)
  | .pickupRawChange .. | .filterTimerExpiry .. | .zeroWindowExpiry .. | .driveUpdate ..
  | .silenceTimerExpiry .. | .freshnessExpiry .. | .depthFreshnessExpiry _ | .steeringUpdate _
  | .slurryUpdate _ | .holdDelayExpiry _ | .phaseTimerExpiry _ | .orderTimerExpiry _
  | .reportTimerExpiry _ | .deadmanExpiry .. | .shaftFrameDiscard .. | .transmissionStart ..
  | .transmissionComplete .. | .powerOnReset .. | .rstnLow .. => true

end Sys2Proof
end

