-- ==== Sys2Proof/Decode.lean ====
section
/-! DEFINITION. From bits to commands. The opcode table gives no row any bits, so no table word spells a
command. What does spell commands is the shaft link: `shaftCommand` reads the command that a frame
from the cab controller is, by R134, R140, R150 and R163, and `commandFrame` writes the frame of a
command, by R168 and R169. -/

namespace Sys2Proof

/-- The command that a word spells by the table's bits: no row of the table has any. -/
def decodeTableWord (_nbits _w : Nat) : Option Instr := none

namespace Machine

/-- R150: the ORDER command of a frame's items. -/
def orderCommand (dt : Nat) (items : List Word) : Instr :=
  match items with
  | [] => .orderBadCode dt items
  | code :: args =>
    match code.toNat with
    | 1 => .keep dt args
    | 2 => .driveStart dt args
    | 3 => .driveStop dt args
    | 4 => .speed dt args
    | 5 => .setClass dt args
    | 6 =>
      match args with
      | [] => .modeBadTarget dt args
      | target :: rest =>
        match target.toNat with
        | 1 => .modeGearbox dt .g1 rest
        | 2 => .modeGearbox dt .g2 rest
        | 3 => .modeSteering dt rest
        | 4 => .modePump dt rest
        | _ => .modeBadTarget dt args
    | 7 => .pumpStart dt args
    | 8 => .pumpStop dt args
    | 9 => .panelBegin dt args
    | 10 => .panelEnd dt args
    | 11 => .setSpacing dt args
    | 12 => .tripReset dt args
    | 13 => .restart dt args
    | _ => .orderBadCode dt items

/-- R163: the TABLE command of a frame's items. -/
def tableCommand (dt : Nat) (items : List Word) : Instr :=
  match items with
  | [] => .tableBadCode dt items
  | code :: args =>
    if code = readCode then .tableRead dt args
    else if code = writeCode then .tableWrite dt args
    else .tableBadCode dt items

/-- R134, R140: the command that a reception on the shaft link is, for a part with this own address
and this route table. -/
def shaftCommand (own : Nat) (route : List Word) (dt : Nat) (rx : Reception) : Instr :=
  match goodFrame (received rx) with
  | none => .shaftFrameDiscard dt rx
  | some f =>
    if f.dest.toNat = own then
      if f.kind = kindOrder then orderCommand dt f.items
      else if f.kind = kindTable then tableCommand dt f.items
      else if f.kind = kindDepth then .depth dt f.items
      else .shaftFrameDiscard dt rx
    else if f.dest.toNat ≤ 1 ∨ laneOfNumber (routeWord route f.dest.toNat 0) = none then
      .shaftFrameDiscard dt rx
    else if f.kind = kindDemand then .operatorDemand dt f.dest f.items
    else if f.kind = kindNode then
      if routeWord route f.dest.toNat 2 = 1 then .nodeDown dt f else .shaftFrameDiscard dt rx
    else .shaftFrameDiscard dt rx

/-- R119: the command that a reception on a lane is, by its KIND character. -/
def laneCommand (dt : Nat) (l : Lane) (rx : Reception) : Instr :=
  if kindChar rx = some kindSample then .sampleArrival dt l rx else .laneFrameArrival dt l rx

/-- The items of the ORDER frame of a command (R150, R169). -/
def orderItemsOf : Instr → Option (List Word)
  | .keep _ args => some (1 :: args)
  | .driveStart _ args => some (2 :: args)
  | .driveStop _ args => some (3 :: args)
  | .speed _ args => some (4 :: args)
  | .setClass _ args => some (5 :: args)
  | .modeGearbox _ g args => some (6 :: (match g with | .g1 => 1 | .g2 => 2) :: args)
  | .modeSteering _ args => some (6 :: 3 :: args)
  | .modePump _ args => some (6 :: 4 :: args)
  | .modeBadTarget _ args => some (6 :: args)
  | .pumpStart _ args => some (7 :: args)
  | .pumpStop _ args => some (8 :: args)
  | .panelBegin _ args => some (9 :: args)
  | .panelEnd _ args => some (10 :: args)
  | .setSpacing _ args => some (11 :: args)
  | .tripReset _ args => some (12 :: args)
  | .restart _ args => some (13 :: args)
  | .orderBadCode _ items => some items
  | _ => none

/-- The items of the TABLE frame of a command (R163, R169). -/
def tableItemsOf : Instr → Option (List Word)
  | .tableRead _ args => some (16 :: args)
  | .tableWrite _ args => some (17 :: args)
  | .tableBadCode _ items => some items
  | _ => none

/-- R168, R169: the frame in which the cab controller (address 1) sends a command to a part with this
own address; none for a command that is no frame from the shaft link with contents of its own. -/
def commandFrame (own : Nat) (i : Instr) : Option Frame :=
  match orderItemsOf i, tableItemsOf i, i with
  | some items, _, _ => some (mkFrame (BitVec.ofNat 8 own) 1 kindOrder items)
  | none, some items, _ => some (mkFrame (BitVec.ofNat 8 own) 1 kindTable items)
  | none, none, .depth _ items => some (mkFrame (BitVec.ofNat 8 own) 1 kindDepth items)
  | none, none, .operatorDemand _ dest items => some (mkFrame dest 1 kindDemand items)
  | none, none, .nodeDown _ f => some f
  | none, none, _ => none

end Machine

end Sys2Proof
end

