-- ==== Sys2Proof/Machine/SlurryLoop.lean ====
section
/-! DEFINITION. Chapter 6: priming, flow regulation, suction back-off, agitation and the cut factor,
with the meanings of SLURRY_UPDATE, HOLD_DELAY_EXPIRY, PHASE_TIMER_EXPIRY, PUMP_START, PUMP_STOP
and MODE_PUMP. -/

namespace Sys2Proof.Machine

/-! ## Priming (R103 to R105) -/

/-- R104: the priming work of a slurry update. -/
def primingWork (s : State) : State :=
  if s.slurry.dwellCount + 1 < s.slurry.dwellLength then
    s.onSlurry fun x => { x with dwellCount := x.dwellCount + 1 }
  else if s.slurry.output < s.setting .primeMax then
    writePump (min (s.slurry.output + s.setting .primeStep) (s.setting .primeMax))
      (s.onSlurry fun x =>
        { x with dwellCount := 0, dwellLength := (s.setting .primeDwell).toNat })
  else latch .primeFail s

/-- R105: a SLURRY sample in PRIMING. -/
def primingSample (s : State) : State :=
  if s.slurry.state ≠ .priming then s
  else
    match s.flow with
    | none => s.onSlurry fun x => { x with detectCount := 0 }
    | some q =>
      if s.setting .primeFlow ≤ q then
        if 2 ≤ s.slurry.detectCount + 1 then enterSlurryRun s.slurry.output s
        else s.onSlurry fun x => { x with detectCount := x.detectCount + 1 }
      else s.onSlurry fun x => { x with detectCount := 0 }

/-- R105, R123: the slurry monitor expires; in PRIMING the detect count is set to 0. -/
def primingStale (s : State) : State :=
  if s.slurry.state = .priming then s.onSlurry fun x => { x with detectCount := 0 } else s

/-! ## Flow regulation and back-off (R106, R107) -/

/-- What the flow regulation gives: the pump output and the integrator. -/
structure FlowResult where
  output : Int
  integ  : Int
deriving DecidableEq, Repr

/-- R106: the flow regulation for a flow error. -/
def flowStage (kp ki integ e : Int) : FlowResult :=
  let next := clamp 0 1000 (integ + roundDiv (ki * e) 256)
  let raw := next + roundDiv (kp * e) 256
  { output := clamp 0 1000 raw
    integ := if (1000 < raw ∧ 0 < e) ∨ (raw < 0 ∧ e < 0) then integ else next }

/-- R106: a regulating update at flow `q`. -/
def regulateFlow (q : Int) (s : State) : State :=
  let out := flowStage (s.setting .flowKp) (s.setting .flowKi) s.slurry.integ
    (s.classField .qSet - q)
  writePump out.output (s.onSlurry fun x => { x with integ := out.integ, suctionCount := 0 })

/-- R107: a back-off update. -/
def backOff (s : State) : State :=
  let u := max 0 (s.slurry.output - s.setting .backOffStep)
  let lowered := writePump u (s.onSlurry fun x =>
    { x with integ := u, suctionCount := x.suctionCount + 1 })
  if s.setting .suctionLimit ≤ s.slurry.suctionCount + 1 then latch .suction lowered else lowered

/-- R106: the suction is present and below P_min. -/
def State.lowSuction (s : State) : Bool :=
  match s.suction with
  | some p => decide (p < s.setting .suctionMin)
  | none => false

/-- R106: the work of a slurry update in RUN. -/
def flowWork (s : State) : State :=
  match (s.laneOf .slurry).fresh, s.flow with
  | true, some q => if s.lowSuction then backOff s else regulateFlow q s
  | _, _ => s

/-! ## The cut factor (R114) -/

/-- R114: the density part of the cut factor. -/
def cutDensity (cMin lo hi rho : Int) : Int :=
  if rho ≤ lo then 1024
  else if hi ≤ rho then cMin
  else 1024 - roundDiv ((1024 - cMin) * (rho - lo)) (hi - lo)

/-- R114: the flow part of the cut factor. -/
def cutFlow (cMin qSet q : Int) : Int :=
  if qSet ≤ q then 1024 else max cMin (roundDiv (1024 * q) qSet)

/-- R114: the cut factor is formed, if the source is fresh and both items are present. -/
def formCut (s : State) : State :=
  match (s.laneOf .slurry).fresh, s.density, s.flow with
  | true, some rho, some q =>
    let byDensity :=
      cutDensity (s.setting .cutMin) (s.setting .densityLow) (s.setting .densityHigh) rho
    let byFlow := cutFlow (s.setting .cutMin) (s.classField .qSet) q
    s.onSlurry fun x => { x with cut := min byDensity byFlow }
  | _, _, _ => s

/-! ## The slurry update (R101) -/

/-- R101: the first work of a slurry update. -/
def slurryFirst (s : State) : State :=
  match s.slurry.state with
  | .priming => primingWork s
  | .run => flowWork s
  | .stopped | .agitate | .flush | .manual | .tripped => s

/-- R101, R114: the cut factor is not formed in STOPPED and TRIPPED. -/
def slurryCut (s : State) : State :=
  if s.slurry.state = .stopped ∨ s.slurry.state = .tripped then s else formCut s

/-- R101: the slurry update. The feed limit is formed from the states as they then stand (R116;
DEDUCED, assumption 10). -/
def slurryUpdate (s : State) : State :=
  formFeed (slurryCut (slurryFirst (s.onSlurry fun x => { x with timer := s.startMs .slurryPeriod })))

/-! ## Agitation (R109 to R111) -/

/-- R109: the hold-delay timer expires. -/
def holdDelayExpired (s : State) : State :=
  let idled := s.onSlurry fun x => { x with holdDelay := .idle }
  if idled.slurry.state = .run ∧ idled.bothLoops .stopped then
    startAgitation .rest .idleDemand .restTime idled
  else idled

/-- R110, R111: the phase timer expires. A phase timer that runs outside AGITATE and FLUSH, or in
AGITATE without a phase (neither can arise), becomes idle and nothing else happens (DESIGN CHOICE,
assumption 14). -/
def phaseExpired (s : State) : State :=
  match s.slurry.state, s.slurry.phase with
  | .agitate, .rest => startAgitation .burst .circDemand .burstTime s
  | .agitate, .burst => startAgitation .rest .idleDemand .restTime s
  | .flush, _ => enterSlurryRun (s.setting .circDemand) s
  | _, _ => s.onSlurry fun x => { x with phaseTimer := .idle }

/-! ## The orders of the slurry loop -/

/-- R103: PUMP_START. -/
def startPump (s : State) : Result × State :=
  if s.slurryTripped then (.tripped, s)
  else if (s.laneOf .slurry).state ≠ .up then (.noLane, s)
  else if s.slurry.state ≠ .stopped then (.busy, s)
  else
    (.ok, writePump (s.setting .primeStart) (s.onSlurry fun x =>
      { x with state := .priming, integ := 0, dwellCount := 0
               dwellLength := (s.setting .primeDwell).toNat, detectCount := 0 }))

/-- R108: PUMP_STOP. -/
def stopPump (s : State) : Result × State :=
  if s.anyCutting then (.busy, s)
  else if s.slurry.state = .stopped ∨ s.slurry.state = .tripped then (.ok, s)
  else (.ok, zeroSlurry .stopped s)

/-- R112: the entry into MANUAL. -/
def enterPumpManual (s : State) : State :=
  setOwner .pump .operator (s.onSlurry fun x =>
    { x with state := .manual, phase := .none, phaseTimer := .idle })

/-- R112: MODE naming the pump. -/
def modePump (w : Word) (s : State) : Result × State :=
  match modeOf w with
  | some .manual =>
    match s.slurry.state with
    | .stopped | .run | .agitate => (.ok, enterPumpManual s)
    | .manual => (.ok, s)
    | .priming | .flush | .tripped => (.busy, s)
  | some .auto =>
    if s.slurry.state = .manual then (.ok, enterSlurryRun (s.demand .pump).requested s) else (.ok, s)
  | some .off | none => (.badArg, s)

/-- SLURRY_UPDATE. -/
def execSlurryUpdate (dt : Nat) (s : State) : Host.Outcome State Fault Refusal :=
  live dt s fun t => expiry t.slurry.timer slurryUpdate t

/-- HOLD_DELAY_EXPIRY. -/
def execHoldDelayExpiry (dt : Nat) (s : State) : Host.Outcome State Fault Refusal :=
  live dt s fun t => expiry t.slurry.holdDelay holdDelayExpired t

/-- PHASE_TIMER_EXPIRY. -/
def execPhaseTimerExpiry (dt : Nat) (s : State) : Host.Outcome State Fault Refusal :=
  live dt s fun t => expiry t.slurry.phaseTimer phaseExpired t

/-- PUMP_START. -/
def execPumpStart (dt : Nat) (args : List Word) (s : State) : Host.Outcome State Fault Refusal :=
  arrival dt s (takeOrder 7 args startPump)

/-- PUMP_STOP. -/
def execPumpStop (dt : Nat) (args : List Word) (s : State) : Host.Outcome State Fault Refusal :=
  arrival dt s (takeOrder 8 args stopPump)

/-- MODE_PUMP. -/
def execModePump (dt : Nat) (args : List Word) (s : State) : Host.Outcome State Fault Refusal :=
  arrival dt s (takeOrder 6 (4 :: args) (modePump (firstArg args)))

end Sys2Proof.Machine
end

