-- ==== Sys2Proof/Machine/Survey.lean ====
section
/-! DEFINITION. Chapter 4: the attitude sample, the depth, the survey states, the recording of stations
and the spacing, with the meanings of DEPTH, DEPTH_FRESHNESS_EXPIRY, PANEL_BEGIN, PANEL_END and
SPACING. -/

namespace Sys2Proof.Machine

/-! ## Fusing a sample (R63, R64) -/

/-- The five items of an ATTITUDE sample, each a value or absent (R124). -/
structure AttitudeItems where
  upperX : Option Int
  upperY : Option Int
  lowerX : Option Int
  lowerY : Option Int
  torsion : Option Int
deriving DecidableEq, Repr

/-- R63: how a sample compares. -/
inductive Comparison where
  | disagreeing | agreeing | notCompared
deriving DecidableEq, Repr

/-- R63: whether an axis exceeds the limit, if both its items are present. -/
def axisExceeds (limit : Int) (upper lower : Option Int) : Option Bool :=
  match upper, lower with
  | some u, some l => some (decide (limit < mag (u - l)))
  | _, _ => none

/-- R63: the class of a sample. -/
def compareUnits (limit : Int) (x : AttitudeItems) : Comparison :=
  match axisExceeds limit x.upperX x.lowerX, axisExceeds limit x.upperY x.lowerY with
  | none, none => .notCompared
  | some a, none => if a then .disagreeing else .agreeing
  | none, some b => if b then .disagreeing else .agreeing
  | some a, some b => if a || b then .disagreeing else .agreeing

/-- R63: the runs and the DISAGREE state after a sample of a class. -/
def disagreeAfter (c : Comparison) (v : Survey) : Survey :=
  match v.disagree, c with
  | false, .disagreeing =>
    if 5 ≤ v.disagreeRun + 1 then { v with disagree := true, disagreeRun := 0, agreeRun := 0 }
    else { v with disagreeRun := v.disagreeRun + 1 }
  | false, .agreeing => { v with disagreeRun := 0 }
  | true, .agreeing =>
    if 5 ≤ v.agreeRun + 1 then { v with disagree := false, disagreeRun := 0, agreeRun := 0 }
    else { v with agreeRun := v.agreeRun + 1 }
  | true, .disagreeing => { v with agreeRun := 0 }
  | _, .notCompared => v

/-- R64: the fused value of an axis. -/
def fuseAxis (disagree : Bool) (upper lower : Option Int) : Option Int :=
  match disagree, upper, lower with
  | false, some u, some l => some (roundDiv (u + l) 2)
  | true, some _, some l => some l
  | _, none, some l => some l
  | _, some u, none => some u
  | _, none, none => none

/-- R64: a usable sample enters the fused attitude; any other leaves it. -/
def fuseSample (x : AttitudeItems) (v : Survey) : Survey :=
  match fuseAxis v.disagree x.upperX x.lowerX, fuseAxis v.disagree x.upperY x.lowerY, x.torsion with
  | some fx, some fy, some r =>
    { v with fusedX := fx, fusedY := fy, fusedR := r, usable := true }
  | _, _, _ => { v with usable := false }

/-! ## Recording stations (R71 to R77) -/

/-- R71: a sample offered to the open interval; it is counted if all the tests hold. -/
def offerToInterval (v : Survey) : Survey :=
  if v.state = .surveying ∧ v.usable = true ∧ v.frontier * 250 < v.depth ∧ v.count < 65535 then
    { v with sumX := v.sumX + v.fusedX, sumY := v.sumY + v.fusedY, sumR := v.sumR + v.fusedR
             count := v.count + 1, intervalDisagree := v.intervalDisagree || v.disagree }
  else v

/-- The means that the stations of one crossing carry (R73). -/
structure Means where
  x : Int
  y : Int
  r : Int
deriving DecidableEq, Repr

/-- R73: the crossing means of a recording test that begins with this survey. Without a record at the
frontier, which cannot be, they are 0 (DESIGN CHOICE, assumption 14). -/
def crossingMeans (v : Survey) : Means :=
  if 1 ≤ v.count then
    ⟨roundDiv v.sumX v.count, roundDiv v.sumY v.count, roundDiv v.sumR v.count⟩
  else
    match stationAt v.trajectory v.frontier with
    | some st => ⟨st.meanX, st.meanY, st.meanR⟩
    | none => ⟨0, 0, 0⟩

/-- A record put into the trajectory table, at most one per index, by rising index (R78). -/
def recordStation (st : Station) : List Station → List Station
  | [] => [st]
  | x :: rest =>
    if st.index < x.index then st :: x :: rest
    else if st.index = x.index then st :: rest
    else x :: recordStation st rest

/-- R74: an offset from its accumulator. -/
def offsetOf (acc : Int) : Int := clampMag 32767 (roundDiv acc 10000)

/-- R77: a pending spacing takes effect if the frontier suits it. -/
def applyPending (v : Survey) : Survey :=
  match v.pending with
  | some p => if v.frontier % p.step = 0 then { v with spacing := p, pending := none } else v
  | none => v

/-- R72 steps 2 to 4, R73, R74: one station is recorded; `first` is the first of the crossing. -/
def recordNext (m : Means) (first : Bool) (v : Survey) : Survey :=
  let index := v.frontier + v.spacing.step
  let delta : Int := v.spacing.step * 250
  let accX := v.accX + delta * m.x
  let accY := v.accY + delta * m.y
  let st : Station :=
    { index := index, spacing := v.spacing, interpolated := !first || decide (v.count = 0)
      disagree := v.intervalDisagree, count := if first then v.count else 0
      meanX := m.x, meanY := m.y, meanR := m.r, offsetX := offsetOf accX, offsetY := offsetOf accY }
  applyPending
    { v with accX := accX, accY := accY, trajectory := recordStation st v.trajectory
             frontier := index }

/-- R72: no further station can be recorded at the spacing in effect (R75). -/
def Survey.exhausted (v : Survey) : Bool := decide (1023 < v.frontier + v.spacing.step)

/-- R72: the depth is at or below the next station. -/
def Survey.reached (v : Survey) : Bool := decide ((v.frontier + v.spacing.step) * 250 ≤ v.depth)

/-- R72: the passes of a recording test; `fuel` bounds their number. -/
def recordPasses (m : Means) : (fuel : Nat) → (first : Bool) → Survey → Survey
  | 0, _, v => v
  | fuel + 1, first, v =>
    if v.reached = false then v
    else if v.exhausted then { v with state := .full }
    else
      let next := recordNext m first v
      if next.exhausted then { next with state := .full } else recordPasses m fuel false next

/-- The open interval emptied. -/
def Survey.clearInterval (v : Survey) : Survey :=
  { v with sumX := 0, sumY := 0, sumR := 0, count := 0, intervalDisagree := false }

/-- R72: the recording test. The frontier rises by at least 1 at each pass and ends at or below
1023, so 1024 passes are enough. The interval is cleared if a station was recorded, at an end in FULL
too (DEDUCED, assumption 9). -/
def recordingTest (v : Survey) : Survey :=
  if v.state ≠ .surveying then v
  else
    let done := recordPasses (crossingMeans v) 1024 true v
    if done.frontier = v.frontier then done else done.clearInterval

/-! ## The survey state (R68) -/

/-- R68: the survey state is evaluated again; a return to SURVEYING makes the recording test. -/
def surveyEvaluated (valid : Bool) (v : Survey) : Survey :=
  match v.state with
  | .surveying => if v.fresh && valid then v else { v with state := .paused }
  | .paused => if v.fresh && valid then recordingTest { v with state := .surveying } else v
  | .idle | .full => v

/-- R68, at one of its events. -/
def evaluateSurvey (s : State) : State := s.onSurvey (surveyEvaluated s.attitudeValid)

/-- R62: an ATTITUDE sample, after the lane block has taken it. -/
def attitudeSample (x : AttitudeItems) (s : State) : State :=
  (evaluateSurvey (s.onSurvey fun v =>
    fuseSample x (disagreeAfter (compareUnits (s.setting .disagreeLimit) x) v))).onSurvey
    offerToInterval

/-! ## Depth (R66, R67) -/

/-- R66: a depth from a DEPTH frame of two items. -/
def takeDepth (high low : Word) (s : State) : State :=
  (evaluateSurvey (s.onSurvey fun v =>
    { v with depth := min 300000 (high.toNat * 65536 + low.toNat), received := true, fresh := true
             timer := s.startMs .depthWindow })).onSurvey recordingTest

/-- R66: a DEPTH frame; one with any other item count is discarded. -/
def depthFrame (items : List Word) (s : State) : State :=
  match items with
  | [high, low] => takeDepth high low s
  | _ => s

/-- R67: the depth freshness timer expires. -/
def depthExpired (s : State) : State :=
  evaluateSurvey (s.onSurvey fun v => { v with fresh := false, timer := .idle })

/-! ## Panels and spacing (R69, R70, R76) -/

/-- R69 step 3: the start index for a depth and a step. -/
def startIndex (depth step : Nat) : Nat :=
  let b := depth / 250 / step * step
  if 1023 < b then 1023 / step * step else b

/-- R69 steps 1 to 6. -/
def openPanel (v : Survey) : Survey :=
  let spacing := v.pending.getD v.spacing
  let b := startIndex v.depth spacing.step
  let st : Station :=
    { index := b, spacing := spacing, interpolated := false, disagree := v.disagree, count := 1
      meanX := v.fusedX, meanY := v.fusedY, meanR := v.fusedR, offsetX := 0, offsetY := 0 }
  { v.clearInterval with
    spacing := spacing, pending := none, trajectory := [st], frontier := b, accX := 0, accY := 0
    state := if 1023 < b + spacing.step then .full else .surveying }

/-- R69: PANEL_BEGIN. -/
def beginPanel (s : State) : Result × State :=
  if s.survey.state ≠ .idle then (.busy, s)
  else if s.survey.received = false ∨ s.survey.fresh = false ∨ s.attitudeValid = false then
    (.noInput, s)
  else (.ok, s.onSurvey openPanel)

/-- R70: the panel is closed. -/
def closePanel (v : Survey) : Survey :=
  if v.state = .idle then v else { v.clearInterval with state := .idle }

/-- R76: a spacing order; a change applied at once in SURVEYING makes the recording test. -/
def orderSpacing (p : Spacing) (v : Survey) : Survey :=
  if v.state ≠ .idle ∧ v.frontier % p.step = 0 then
    recordingTest { v with spacing := p, pending := none }
  else { v with pending := some p }

/-- R76: SPACING with its argument. -/
def takeSpacing (w : Word) (s : State) : Result × State :=
  match spacingOf w with
  | none => (.badArg, s)
  | some p => (.ok, s.onSurvey (orderSpacing p))

/-- DEPTH. -/
def execDepth (dt : Nat) (items : List Word) (s : State) : Host.Outcome State Fault Refusal :=
  arrival dt s (depthFrame items)

/-- DEPTH_FRESHNESS_EXPIRY. -/
def execDepthFreshnessExpiry (dt : Nat) (s : State) : Host.Outcome State Fault Refusal :=
  live dt s fun t => expiry t.survey.timer depthExpired t

/-- PANEL_BEGIN. -/
def execPanelBegin (dt : Nat) (args : List Word) (s : State) : Host.Outcome State Fault Refusal :=
  arrival dt s (takeOrder 9 args beginPanel)

/-- PANEL_END. -/
def execPanelEnd (dt : Nat) (args : List Word) (s : State) : Host.Outcome State Fault Refusal :=
  arrival dt s (takeOrder 10 args fun t => (.ok, t.onSurvey closePanel))

/-- SPACING. -/
def execSetSpacing (dt : Nat) (args : List Word) (s : State) : Host.Outcome State Fault Refusal :=
  arrival dt s (takeOrder 11 args (takeSpacing (firstArg args)))

end Sys2Proof.Machine
end

