-- ==== Sys2Proof/Machine/Lanes.lean ====
section
/-! DEFINITION. Chapters 7 and 8: lane liveness, the use of SAMPLE frames, the routing and admission of
frames, operator DEMAND frames and transmission, with the meanings of SAMPLE_ARRIVAL,
LANE_FRAME_ARRIVAL, SILENCE_TIMER_EXPIRY, FRESHNESS_EXPIRY, OPERATOR_DEMAND, DEADMAN_EXPIRY,
REFRESH_TIMER_EXPIRY, NODE_DOWN, SHAFT_FRAME_DISCARD, TRANSMISSION_START and
TRANSMISSION_COMPLETE. -/

namespace Sys2Proof.Machine

/-! ## Lane states (R119 to R122) -/

/-- R121, R122: a lane enters FAULT and its trip is requested. -/
def faultLane (l : Lane) (s : State) : State :=
  latch (.laneTrip l) (s.onLane l fun b =>
    { b with state := .fault, silence := .idle, badRun := 0, refresh := .idle, compose := false })

/-- R122: a bad frame or a malformed SAMPLE counts in UP, and the eighth in a row faults the lane. -/
def countBad (l : Lane) (s : State) : State :=
  if (s.laneOf l).state ≠ .up then s
  else if 8 ≤ (s.laneOf l).badRun + 1 then faultLane l s
  else s.onLane l fun b => { b with badRun := b.badRun + 1 }

/-- R120: a valid frame restarts the silence timer, and brings a lane in WAIT or FAULT into UP with
its refresh timer started and a DEMAND composed. -/
def laneAlive (l : Lane) (s : State) : State :=
  if (s.laneOf l).state = .up then
    s.onLane l fun b => { b with silence := s.startMs .laneSilence, badRun := 0 }
  else
    composeDue l (s.onLane l fun b =>
      { b with state := .up, silence := s.startMs .laneSilence, badRun := 0
               refresh := if laneChannels l = [] then b.refresh else s.startMs .refreshInterval })

/-! ## Using a SAMPLE (R123, R124) -/

/-- The range of an item of a role. -/
structure ItemRange where
  lo : Int
  hi : Int
deriving DecidableEq, Repr

/-- R124: the items of each role, in order, with their ranges. -/
def roleRanges : Lane → List ItemRange
  | .drive => [⟨0, 5000⟩, ⟨0, 5000⟩]
  | .steer => [⟨0, 1000⟩, ⟨0, 1000⟩, ⟨0, 1000⟩, ⟨0, 1000⟩]
  | .attitude =>
    [⟨-5000, 5000⟩, ⟨-5000, 5000⟩, ⟨-5000, 5000⟩, ⟨-5000, 5000⟩, ⟨-20000, 20000⟩]
  | .slurry => [⟨0, 6000⟩, ⟨1000, 2000⟩, ⟨0, 2000⟩]

/-- R124 step 1: −32768 is absent, and any other item is clamped to its range. -/
def readItem (r : ItemRange) (w : Word) : Option Int := (itemValue w).map (clamp r.lo r.hi)

/-- The freshness window setting of a source (R123). -/
def freshWindow : Lane → Setting
  | .drive => .driveWindow
  | .steer => .strokeWindow
  | .attitude => .attitudeWindow
  | .slurry => .slurryWindow

/-- R124 step 4: the blocks that work at a sample's arrival. -/
def handSample (l : Lane) (s : State) : State :=
  match l with
  | .drive => overpressureTest s
  | .steer => s
  | .attitude =>
    attitudeSample
      ⟨s.item .attitude 0, s.item .attitude 1, s.item .attitude 2, s.item .attitude 3,
        s.item .attitude 4⟩ s
  | .slurry => primingSample s

/-- R124: a valid SAMPLE is used. -/
def useSample (l : Lane) (items : List Word) (s : State) : State :=
  handSample l (s.onLane l fun b =>
    { b with items := List.zipWith readItem (roleRanges l) items, fresh := true
             freshTimer := s.startMs (freshWindow l) })

/-- R123: the freshness monitor of a source expires. -/
def freshnessExpired (l : Lane) (s : State) : State :=
  let stale := s.onLane l fun b => { b with fresh := false, freshTimer := .idle }
  match l with
  | .drive | .steer => stale
  | .attitude => evaluateSurvey stale
  | .slurry => primingStale stale

/-! ## Admission and decimation (R139, R142, R143) -/

/-- The forwarded frames that wait for a port. -/
def State.forwardedWaiting (s : State) (p : Port) : Nat :=
  (s.queueOf p).countP fun e => e.tag.forwarded

/-- The forwarded share of a queue (R142). -/
def forwardedShare : Port → Nat
  | .shaft => 18
  | .lane _ => 5

/-- R142 steps 2 to 4. -/
def offerFrame (p : Port) (tag : Tag) (f : Frame) (s : State) : State :=
  if forwardedShare p ≤ s.forwardedWaiting p ∨ s.path.free.length ≤ 10 then s
  else enqueue p tag f s

/-- A waiting forwarded SAMPLE from a source address. -/
def Queued.sampleFrom (src : Byte) (e : Queued) : Bool :=
  decide (e.tag = .sample ∧ e.frame.src = src)

/-- R142 step 1, R143: a SAMPLE offered to the upper queue supersedes the one waiting from its node,
and otherwise goes through the admission tests. -/
def offerSample (f : Frame) (s : State) : State :=
  if (s.queueOf .shaft).any (Queued.sampleFrom f.src) then
    s.setQueue .shaft ((s.queueOf .shaft).map fun e =>
      if e.sampleFrom f.src then { e with frame := f } else e)
  else offerFrame .shaft .sample f s

/-- R139: a SAMPLE offered to decimation under the route entry of its SRC. -/
def decimate (f : Frame) (s : State) : State :=
  let a := f.src.toNat
  let n := routeWord s.path.route a 1
  let counted := s.path.decimation.getD a 0 + 1
  if n = 0 then s.onPath fun x => { x with decimation := x.decimation.set a 0 }
  else if counted < n then s.onPath fun x => { x with decimation := x.decimation.set a counted }
  else offerSample f (s.onPath fun x => { x with decimation := x.decimation.set a 0 })

/-! ## A frame from a lane (R119, R138) -/

/-- The classes of a frame that arrives on a lane (R119). -/
inductive FrameClass where
  | bad
  | misrouted
  | malformed (f : Frame)
  | valid (f : Frame)
deriving DecidableEq, Repr

/-- R119: the class of what the receive area of a lane holds. -/
def State.classify (s : State) (l : Lane) (area : ReceiveArea) : FrameClass :=
  match goodFrame area with
  | none => .bad
  | some f =>
    if s.mappedAddress l ≠ some f.src.toNat then .misrouted
    else if f.kind = kindSample ∧ f.items.length ≠ (roleRanges l).length then .malformed f
    else .valid f

/-- R138: a frame that ends on a lane is worked by the lane block and then routed by its class and
KIND. -/
def laneArrival (l : Lane) (area : ReceiveArea) (s : State) : State :=
  match s.classify l area with
  | .bad => countBad l s
  | .misrouted => s
  | .malformed f => decimate f (countBad l s)
  | .valid f =>
    if f.kind = kindSample then decimate f (useSample l f.items (laneAlive l s))
    else if f.kind = kindNode then offerFrame .shaft .node f (laneAlive l s)
    else laneAlive l s

/-- The characters of a frame come to the receive area of a lane; the frame is worked from what the
area then holds, and the area is emptied (R134). -/
def laneReception (l : Lane) (rx : Reception) (s : State) : State :=
  let stored := storeChars (.lane l) rx s
  laneArrival l (stored.path.area.get (.lane l)) (emptyArea (.lane l) stored)

/-! ## Operator DEMAND frames (R126, R127) -/

/-- R140: the lane of the node that a frame from the shaft link is addressed to. Addresses 0 and 1
and the part's own are no lane's. -/
def State.nodeLane (s : State) (dest : Byte) : Option Lane :=
  if dest.toNat ≤ 1 ∨ dest.toNat = s.ownAddress ∨ 63 < dest.toNat then none
  else laneOfNumber (routeWord s.path.route dest.toNat 0)

/-- R126 steps 2 to 4: one item for one channel. -/
def mergeItem (ch : Channel) (w : Word) (s : State) : State :=
  match itemValue w, (s.demand ch).owner with
  | some x, .operator =>
    setRequested ch (clamp (channelLow ch) channelHigh x)
      (s.onDemand ch fun d => { d with deadman := s.startMs .deadmanTime })
  | _, _ => s

/-- R126: the items of an operator DEMAND, in channel order. -/
def mergeItems : List Channel → List Word → State → State
  | ch :: chs, w :: ws, s => mergeItems chs ws (mergeItem ch w s)
  | _, _, s => s

/-- R126: an operator DEMAND for an address. -/
def operatorDemand (dest : Byte) (items : List Word) (s : State) : State :=
  match s.nodeLane dest with
  | none => s
  | some l =>
    if laneChannels l = [] ∨ items.length ≠ (laneChannels l).length then s
    else mergeItems (laneChannels l) items s

/-- R127: the deadman timer of a channel expires. -/
def deadmanExpired (ch : Channel) (s : State) : State :=
  setRequested ch 0 (s.onDemand ch fun d => { d with deadman := .idle })

/-- R129: the refresh timer of a lane expires; in UP without a mapped address it is restarted and
nothing is composed. -/
def refreshExpired (l : Lane) (s : State) : State :=
  let idled := s.onLane l fun b => { b with refresh := .idle }
  if (s.laneOf l).state = .up ∧ s.mappedAddress l = none then
    s.onLane l fun b => { b with refresh := s.startMs .refreshInterval }
  else composeDue l idled

/-- R140, R142: a NODE frame from the shaft link. -/
def nodeDown (f : Frame) (s : State) : State :=
  match s.nodeLane f.dest with
  | none => s
  | some l => if routeWord s.path.route f.dest.toNat 2 = 1 then offerFrame (.lane l) .node f s else s

/-! ## Transmission (R145 to R148) -/

/-- R146: the tests of the arbiter, in its order, for the given arbiter count. -/
def arbiterOrder (count : Nat) : List (Tag → Bool) :=
  [ fun t => decide (t = .urgent),
    fun t => t.forwarded && decide (count = 3),
    fun t => decide (t = .reply),
    fun t => decide (t = .periodic),
    Tag.forwarded ]

/-- R148: a lane's DEMAND first, and otherwise its oldest NODE frame. -/
def laneOrder : List (Tag → Bool) := [fun t => decide (t = .demand), Tag.forwarded]

/-- The oldest frame of the first sort that waits. -/
def selectBy (order : List (Tag → Bool)) (q : List Queued) : Option Queued :=
  order.findSome? fun test => q.find? fun e => test e.tag

/-- R145: the frame that a port's transmitter selects. -/
def State.selected (s : State) (p : Port) : Option Queued :=
  match p with
  | .shaft => selectBy (arbiterOrder s.path.arbiter) (s.queueOf .shaft)
  | .lane l => selectBy laneOrder (s.queueOf (.lane l))

/-- R147: the arbiter count after a frame has started on the shaft link, leaving this queue. -/
def arbiterAfter (count : Nat) (started : Tag) (left : List Queued) : Nat :=
  if started.forwarded = false ∧ left.any (fun e => e.tag.forwarded) then min 3 (count + 1) else 0

/-- R131: the last sent values of a lane take the values that its DEMAND carries. -/
def setLastSent : List Channel → List Word → State → State
  | ch :: chs, w :: ws, s =>
    setLastSent chs ws (s.onDemand ch fun d => { d with lastSent := signed w })
  | _, _, s => s

/-- R131, R147: what the start of a transmission is to the lane block and to the arbiter. -/
def noteStart (p : Port) (e : Queued) (s : State) : State :=
  match p with
  | .shaft =>
    s.onPath fun x => { x with arbiter := arbiterAfter x.arbiter e.tag x.queue.shaft }
  | .lane l => if e.tag = .demand then setLastSent (laneChannels l) e.frame.items s else s

/-- R145: an idle transmitter selects a frame, which leaves its queue as its transmission starts. -/
def startTransmission (p : Port) (s : State) : State :=
  match s.txOf p, s.selected p with
  | none, some e =>
    noteStart p e (s.onPath fun x =>
      { x with queue := x.queue.set p ((s.queueOf p).erase e)
               tx := x.tx.set p (some ⟨e, s.now⟩) })
  | _, _ => s

/-- R129: a lane's DEMAND is complete; a pending composition is made, or dropped where the lane has no
mapped address any more (DESIGN CHOICE, assumption 24). -/
def demandComplete (l : Lane) (s : State) : State :=
  let cleared := s.onLane l fun b => { b with compose := false }
  if (s.laneOf l).compose then composeDue l cleared else cleared

/-- The whole of a frame has gone out on a port, and its buffer returns to the free list (R145 step
1). -/
def returnBuffer (p : Port) (t : Transmission) (s : State) : State :=
  { s with
    line := s.line.set p (frameChars t.entry.frame)
    path := { s.path with free := s.path.free ++ [t.entry.buffer], tx := s.path.tx.set p none } }

/-- R145 steps 1 to 3: a transmission completes, and the transmitter selects again in the same event
(DEDUCED, assumption 12). -/
def finishTransmission (p : Port) (t : Transmission) (s : State) : State :=
  startTransmission p
    (match p with
      | .lane l =>
        if t.entry.tag = .demand then demandComplete l (returnBuffer p t s) else returnBuffer p t s
      | .shaft => returnBuffer p t s)

/-- The completion of a transmission, as an event: it comes at the end of the idle gap and not before
(R145; DEDUCED, assumption 12). -/
def completeTransmission (p : Port) (s : State) : State :=
  match s.txOf p with
  | none => s
  | some t => expiry (s.sendTimer p t) (finishTransmission p t) s

/-! ## The commands -/

/-- SAMPLE_ARRIVAL. -/
def execSampleArrival (dt : Nat) (l : Lane) (rx : Reception) (s : State) :
    Host.Outcome State Fault Refusal :=
  live dt s (laneReception l rx)

/-- LANE_FRAME_ARRIVAL. -/
def execLaneFrameArrival (dt : Nat) (l : Lane) (rx : Reception) (s : State) :
    Host.Outcome State Fault Refusal :=
  live dt s fun t => laneReception l rx t

/-- SILENCE_TIMER_EXPIRY. -/
def execSilenceTimerExpiry (dt : Nat) (l : Lane) (s : State) : Host.Outcome State Fault Refusal :=
  live dt s fun t => expiry (t.laneOf l).silence (faultLane l) t

/-- FRESHNESS_EXPIRY. -/
def execFreshnessExpiry (dt : Nat) (l : Lane) (s : State) : Host.Outcome State Fault Refusal :=
  live dt s fun t => expiry (t.laneOf l).freshTimer (freshnessExpired l) t

/-- OPERATOR_DEMAND. -/
def execOperatorDemand (dt : Nat) (dest : Byte) (items : List Word) (s : State) :
    Host.Outcome State Fault Refusal :=
  arrival dt s (operatorDemand dest items)

/-- DEADMAN_EXPIRY. -/
def execDeadmanExpiry (dt : Nat) (ch : Channel) (s : State) : Host.Outcome State Fault Refusal :=
  live dt s fun t => expiry (t.demand ch).deadman (deadmanExpired ch) t

/-- REFRESH_TIMER_EXPIRY. -/
def execRefreshTimerExpiry (dt : Nat) (l : Lane) (s : State) : Host.Outcome State Fault Refusal :=
  live dt s fun t => expiry (t.laneOf l).refresh (refreshExpired l) t

/-- NODE_DOWN. -/
def execNodeDown (dt : Nat) (f : Frame) (s : State) : Host.Outcome State Fault Refusal :=
  arrival dt s (nodeDown f)

/-- SHAFT_FRAME_DISCARD: the frame takes no buffer and changes no other state (R134, R140). -/
def execShaftFrameDiscard (dt : Nat) (rx : Reception) (s : State) :
    Host.Outcome State Fault Refusal :=
  live dt s fun t => emptyArea .shaft (storeChars .shaft rx t)

/-- TRANSMISSION_START. -/
def execTransmissionStart (dt : Nat) (p : Port) (s : State) : Host.Outcome State Fault Refusal :=
  live dt s (startTransmission p)

/-- TRANSMISSION_COMPLETE. -/
def execTransmissionComplete (dt : Nat) (p : Port) (s : State) :
    Host.Outcome State Fault Refusal :=
  live dt s (completeTransmission p)

end Sys2Proof.Machine
end

