-- ==== Sys2Proof/Machine/Steering.lean ====
section
/-! DEFINITION. Chapter 5: the steering update with its projection, plate targets, trim and plate
regulation, with the meanings of STEERING_UPDATE and MODE_STEERING. -/

namespace Sys2Proof.Machine

/-- R90: a projected offset over a distance `d` at an inclination. -/
def project (offset d inclination : Int) : Int :=
  clampMag 32767 (offset + roundDiv (d * inclination) 10000)

/-- R92: the Y part of a plate's target, for an error and the curve 3 value at its magnitude. -/
def yPart (p : Plate) (error value : Int) : Int :=
  match p with
  | .p1 | .p2 => if 0 < error then value else 0
  | .p3 | .p4 => if error < 0 then value else 0

/-- R93: the torsion part of a plate's target, for an error and the curve 4 value at its
magnitude. -/
def torsionPart (p : Plate) (error value : Int) : Int :=
  match p with
  | .p2 | .p3 => if 0 < error then value else 0
  | .p1 | .p4 => if error < 0 then value else 0

/-- R93: the target of a plate. -/
def State.plateTarget (s : State) (errorY errorR : Int) (p : Plate) : Int :=
  clamp 0 1000
    (yPart p errorY (curveLookup s.selector.curveTable 3 (mag errorY)) +
      torsionPart p errorR (curveLookup s.selector.curveTable 4 (mag errorR)))

/-- R97: the computed trim for an X error. -/
def State.computedTrim (s : State) (errorX : Int) : Int :=
  signOf errorX *
    clamp 0 (s.setting .trimLimit) (curveLookup s.selector.curveTable 5 (mag errorX))

/-- R90 to R93, R97: the projections, targets and trim of an AUTO update. -/
def autoWork (s : State) : State :=
  let v := s.survey
  let d : Int := (v.depth : Int) - v.frontier * 250 + s.setting .lookAhead
  let offset := fun f : Station → Int => (s.frontierStation.map f).getD 0
  let projX := project (offset Station.offsetX) d v.fusedX
  let projY := project (offset Station.offsetY) d v.fusedY
  let errorX := projX - s.setting .targetX
  let errorY := projY - s.setting .targetY
  let errorR := v.fusedR - s.setting .targetR
  s.onSteering fun x =>
    { x with state := .auto, projX := some projX, projY := some projY
             targets := ⟨s.plateTarget errorY errorR .p1, s.plateTarget errorY errorR .p2,
               s.plateTarget errorY errorR .p3, s.plateTarget errorY errorR .p4⟩
             trim := s.computedTrim errorX }

/-- R94: the opening of a plate valve, for a stroke that may be absent. -/
def plateOpening (kp deadband target : Int) (stroke : Option Int) : Int :=
  match stroke with
  | none => 0
  | some x =>
    if mag (target - x) ≤ deadband then 0 else clampMag 1000 (roundDiv (kp * (target - x)) 256)

/-- R94, R95: the opening that the regulation gives a plate as things stand. -/
def State.openingFor (s : State) (p : Plate) : Int :=
  plateOpening (s.setting .plateKp) (s.setting .plateDeadband) (s.steering.targets.get p)
    (if (s.laneOf .steer).fresh then s.stroke p else none)

/-- R94, R96: the plate regulation writes the four plate channels. -/
def regulatePlates (s : State) : State :=
  allPlates.foldl (fun t p => setRequested (.plate p) (s.openingFor p) t) s

/-- R84: the work of a steering update. -/
def steeringWork (s : State) : State :=
  match s.steering.state with
  | .off | .manual => s
  | .auto => regulatePlates (if s.holdCause then enterSteeringHold s else autoWork s)
  | .hold => regulatePlates (if s.holdCause then s else autoWork s)

/-- R83: the steering update. -/
def steeringUpdate (s : State) : State :=
  steeringWork (s.onSteering fun x => { x with timer := s.startMs .steerPeriod })

/-- R85: MODE naming steering. -/
def modeSteering (w : Word) (s : State) : Result × State :=
  match modeOf w with
  | none => (.badArg, s)
  | some .off =>
    (.ok, if s.steering.state = .off then s else enterSteeringClear .off .loop s)
  | some .auto =>
    if s.latched (.laneTrip .steer) then (.tripped, s)
    else if (s.laneOf .steer).state ≠ .up then (.noLane, s)
    else if s.steering.state = .auto ∨ s.steering.state = .hold then (.ok, s)
    else (.ok, enterSteeringClear (if s.holdCause then .hold else .auto) .loop s)
  | some .manual =>
    if s.latched (.laneTrip .steer) then (.tripped, s)
    else if (s.laneOf .steer).state ≠ .up then (.noLane, s)
    else if s.steering.state = .manual then (.ok, s)
    else (.ok, enterSteeringClear .manual .operator s)

/-- STEERING_UPDATE. -/
def execSteeringUpdate (dt : Nat) (s : State) : Host.Outcome State Fault Refusal :=
  live dt s fun t => expiry t.steering.timer steeringUpdate t

/-- MODE_STEERING. -/
def execModeSteering (dt : Nat) (args : List Word) (s : State) :
    Host.Outcome State Fault Refusal :=
  arrival dt s (takeOrder 6 (3 :: args) (modeSteering (firstArg args)))

end Sys2Proof.Machine
end

