-- ==== Sys2Proof/Machine/Reset.lean ====
section
/-! DEFINITION. Power-on reset and the RESTART order, with the meanings of POWER_ON_RESET, RSTN_LOW and
RESTART (R8, R20, R49, R82, R100, R118, R133, R149, R162, R171). -/

namespace Sys2Proof.Machine

/-- The lanes in the order of the lane words. -/
def allLanes : List Lane := [.drive, .steer, .attitude, .slurry]

/-- The ports, the shaft link first. -/
def allPorts : List Port := .shaft :: allLanes.map .lane

/-! ## RESTART -/

/-- R149 steps 1 to 3: every transmission is aborted and every waiting frame discarded, their buffers
return to the free list, and the counters are set to 0. The receive areas are kept. -/
def restartPath (x : FramePath) : FramePath :=
  let aborted := allPorts.filterMap fun p => (x.tx.get p).map fun t => t.entry.buffer
  let discarded := allPorts.flatMap fun p => (x.queue.get p).map Queued.buffer
  { x with free := x.free ++ aborted ++ discarded, queue := .all [], tx := .all none
           decimation := List.replicate 64 0, arbiter := 0 }

/-- R8, R20: a pickup at a RESTART. -/
def restartPickup (p : Pickup) : Pickup := .powerOn p.a.raw p.b.raw

/-- R82: the survey at a RESTART. -/
def restartSurvey (v : Survey) : Survey :=
  { v with
    state :=
      match v.state with
      | .idle => .idle
      | .surveying | .paused => .paused
      | .full => .full
    fresh := false, timer := .idle }

/-- R133: a lane at a RESTART. -/
def restartLane (s : State) (l : Lane) (b : LaneBox) : LaneBox :=
  { b with
    silence := if b.state = .up then s.startMs .laneSilence else .idle
    badRun := 0, fresh := false, freshTimer := .idle
    refresh := if b.state = .up ∧ laneChannels l ≠ [] then s.startMs .refreshInterval else .idle
    compose := false }

/-- R133: a demand record at a RESTART, before the zero DEMAND frames. -/
def restartDemand (d : Demand) : Demand :=
  { d with requested := 0, owner := .loop, clamped := false, deadman := .idle }

/-- R133: the lane block at a RESTART, before the zero DEMAND frames. -/
def restartLanes (s : State) (b : LaneBlock) : LaneBlock :=
  { b with
    lane := ⟨restartLane s .drive b.lane.drive, restartLane s .steer b.lane.steer,
      restartLane s .attitude b.lane.attitude, restartLane s .slurry b.lane.slurry⟩
    valve := ⟨restartDemand b.valve.one, restartDemand b.valve.two⟩
    plate := ⟨restartDemand b.plate.p1, restartDemand b.plate.p2, restartDemand b.plate.p3,
      restartDemand b.plate.p4⟩
    pump := restartDemand b.pump }

/-- R162 steps 1 to 5: every block takes its RESTART values. -/
def restartBlocks (s : State) : State :=
  { s with
    pickup := ⟨restartPickup s.pickup.one, restartPickup s.pickup.two⟩
    drive := { base := 0
               loop := ⟨.powerOn (s.startMs .drivePeriod), .powerOn (s.startMs .drivePeriod)⟩ }
    survey := restartSurvey s.survey
    steering := .powerOn (s.startMs .steerPeriod)
    slurry := .powerOn (s.startMs .slurryPeriod)
    lanes := restartLanes s s.lanes
    path := restartPath s.path
    line := s.abortedLine
    orders := { link := .live, timer := s.startMs .orderPeriod, trips := [], record := none
                reportTimer := s.startMs .reportInterval } }

/-- R133: the value of a channel in a zero DEMAND: 0 clamped to its envelope, with no slew. -/
def State.zeroValue (s : State) (ch : Channel) : Int :=
  clamp (s.envelopeMin ch) (s.envelopeMax ch) 0

/-- R133: the zero DEMAND of one lane in UP with channels and a mapped address. Its channels' last
sent values take its values, and their clamped flags are set or cleared. -/
def zeroDemand (l : Lane) (s : State) : State :=
  if laneChannels l = [] ∨ (s.laneOf l).state ≠ .up then s
  else
    match s.mappedAddress l with
    | none => s
    | some address =>
      enqueue (.lane l) .demand (s.demandFrame l address s.zeroValue)
        ((laneChannels l).foldl
          (fun t ch => t.onDemand ch fun d => { d with lastSent := s.zeroValue ch })
          (markClamped l s))

/-- R162: RESTART is refused unless the drive loops and the slurry loop are in STOPPED or TRIPPED. -/
def State.restartAllowed (s : State) : Bool :=
  decide (((s.loopOf .g1).state = .stopped ∨ (s.loopOf .g1).state = .tripped) ∧
    ((s.loopOf .g2).state = .stopped ∨ (s.loopOf .g2).state = .tripped) ∧
    (s.slurry.state = .stopped ∨ s.slurry.state = .tripped))

/-- R150, R162: the RESTART order; its REPLY is made before the zero DEMAND frames (DEDUCED, assumption
18). -/
def takeRestart (args : List Word) (s : State) : State :=
  let linked := orderLinkStep s
  if linked.replyCap then linked
  else if args.length + 1 ≠ orderItems 13 then replyOrder 13 .badArg linked
  else if linked.restartAllowed = false then replyOrder 13 .busy linked
  else allLanes.foldl (fun t l => zeroDemand l t) (replyOrder 13 .ok (restartBlocks linked))

/-! ## Power-on reset (R171) -/

/-- R171: no character is received in power-on reset, and none that came before it is kept. -/
def State.clearedInputs (s : State) : PerPort LineInput := .of fun p => (s.inputs.get p).cleared

/-- The end of power-on reset: the straps are sampled, the pickup levels are taken, and every block
takes its power-on values. -/
def powerOn (straps : Straps) (s : State) : State :=
  State.powerOn s.pending s.now s.draws s.abortedLine s.clearedInputs straps s.pickup.one.a.raw s.pickup.one.b.raw
    s.pickup.two.a.raw s.pickup.two.b.raw

/-- No timer runs in a pickup. -/
def idlePickup (p : Pickup) : Pickup :=
  { p with a := { p.a with filter := .idle }, b := { p.b with filter := .idle }
           zeroWindow := .idle }

/-- No timer runs in a lane. -/
def idleLane (b : LaneBox) : LaneBox :=
  { b with silence := .idle, freshTimer := .idle, refresh := .idle }

/-- No deadman timer runs. -/
def idleDemand (d : Demand) : Demand := { d with deadman := .idle }

/-- R171: the part goes into power-on reset: no timer runs, every transmission is aborted and every
frame held is discarded. The rest of the state waits for the power-on values (DESIGN CHOICE,
assumption 13). -/
def enterReset (s : State) : State :=
  { s with
    inReset := true
    pickup := ⟨idlePickup s.pickup.one, idlePickup s.pickup.two⟩
    drive := { s.drive with loop := ⟨{ s.drive.loop.one with timer := .idle },
                                     { s.drive.loop.two with timer := .idle }⟩ }
    survey := { s.survey with timer := .idle }
    steering := { s.steering with timer := .idle }
    slurry := { s.slurry with timer := .idle, holdDelay := .idle, phaseTimer := .idle }
    lanes := { s.lanes with
      lane := ⟨idleLane s.lanes.lane.drive, idleLane s.lanes.lane.steer,
        idleLane s.lanes.lane.attitude, idleLane s.lanes.lane.slurry⟩
      valve := ⟨idleDemand s.lanes.valve.one, idleDemand s.lanes.valve.two⟩
      plate := ⟨idleDemand s.lanes.plate.p1, idleDemand s.lanes.plate.p2,
        idleDemand s.lanes.plate.p3, idleDemand s.lanes.plate.p4⟩
      pump := idleDemand s.lanes.pump }
    path := { s.path with area := .all .empty, free := allBuffers, queue := .all [], tx := .all none }
    line := s.abortedLine
    inputs := s.clearedInputs
    orders := { s.orders with timer := .idle, reportTimer := .idle } }

/-- R171: a low pulse of less than 10 µs may or may not be taken as a reset, a free value. -/
def resetLow (cause : LowCause) (s : State) : State :=
  match cause with
  | .supply => enterReset s
  | .rstn micros =>
    if 10 ≤ micros then enterReset s
    else
      let drawn := { s with draws := s.draws + 1 }
      if Config.shortPulseTaken s.draws then enterReset drawn else drawn

/-- RESTART. -/
def execRestart (dt : Nat) (args : List Word) (s : State) : Host.Outcome State Fault Refusal :=
  arrival dt s (takeRestart args)

/-- POWER_ON_RESET: it acts also on a part that was not held in reset, as the whole of a power-on
reset (DEDUCED, assumption 13). -/
def execPowerOnReset (dt : Nat) (straps : Straps) (s : State) : Host.Outcome State Fault Refusal :=
  .next (powerOn straps (s.elapse dt))

/-- RSTN_LOW. -/
def execRstnLow (dt : Nat) (cause : LowCause) (s : State) : Host.Outcome State Fault Refusal :=
  live dt s (resetLow cause)

end Sys2Proof.Machine
end

