-- ==== Sys2Proof/Machine/Dispatch.lean ====
section
/-! DEFINITION. One arm per row of spec/opcode_table.json, each a direct call of the row's meaning. -/

namespace Sys2Proof.Machine

def exec (i : Instr) (s : State) : Host.Outcome State Fault Refusal :=
  match i with
  | .pickupRawChange dt g track level => Sys2Proof.Machine.execPickupRawChange dt g track level s
  | .filterTimerExpiry dt g track => Sys2Proof.Machine.execFilterTimerExpiry dt g track s
  | .zeroWindowExpiry dt g => Sys2Proof.Machine.execZeroWindowExpiry dt g s
  | .driveUpdate dt g => Sys2Proof.Machine.execDriveUpdate dt g s
  | .sampleArrival dt lane rx => Sys2Proof.Machine.execSampleArrival dt lane rx s
  | .laneFrameArrival dt lane rx => Sys2Proof.Machine.execLaneFrameArrival dt lane rx s
  | .silenceTimerExpiry dt lane => Sys2Proof.Machine.execSilenceTimerExpiry dt lane s
  | .freshnessExpiry dt lane => Sys2Proof.Machine.execFreshnessExpiry dt lane s
  | .depth dt items => Sys2Proof.Machine.execDepth dt items s
  | .depthFreshnessExpiry dt => Sys2Proof.Machine.execDepthFreshnessExpiry dt s
  | .steeringUpdate dt => Sys2Proof.Machine.execSteeringUpdate dt s
  | .slurryUpdate dt => Sys2Proof.Machine.execSlurryUpdate dt s
  | .holdDelayExpiry dt => Sys2Proof.Machine.execHoldDelayExpiry dt s
  | .phaseTimerExpiry dt => Sys2Proof.Machine.execPhaseTimerExpiry dt s
  | .orderTimerExpiry dt => Sys2Proof.Machine.execOrderTimerExpiry dt s
  | .reportTimerExpiry dt => Sys2Proof.Machine.execReportTimerExpiry dt s
  | .keep dt args => Sys2Proof.Machine.execKeep dt args s
  | .driveStart dt args => Sys2Proof.Machine.execDriveStart dt args s
  | .driveStop dt args => Sys2Proof.Machine.execDriveStop dt args s
  | .speed dt args => Sys2Proof.Machine.execSpeed dt args s
  | .setClass dt args => Sys2Proof.Machine.execSetClass dt args s
  | .modeGearbox dt g args => Sys2Proof.Machine.execModeGearbox dt g args s
  | .modeSteering dt args => Sys2Proof.Machine.execModeSteering dt args s
  | .modePump dt args => Sys2Proof.Machine.execModePump dt args s
  | .pumpStart dt args => Sys2Proof.Machine.execPumpStart dt args s
  | .pumpStop dt args => Sys2Proof.Machine.execPumpStop dt args s
  | .panelBegin dt args => Sys2Proof.Machine.execPanelBegin dt args s
  | .panelEnd dt args => Sys2Proof.Machine.execPanelEnd dt args s
  | .setSpacing dt args => Sys2Proof.Machine.execSetSpacing dt args s
  | .tripReset dt args => Sys2Proof.Machine.execTripReset dt args s
  | .restart dt args => Sys2Proof.Machine.execRestart dt args s
  | .tableRead dt args => Sys2Proof.Machine.execTableRead dt args s
  | .tableWrite dt args => Sys2Proof.Machine.execTableWrite dt args s
  | .operatorDemand dt dest items => Sys2Proof.Machine.execOperatorDemand dt dest items s
  | .deadmanExpiry dt ch => Sys2Proof.Machine.execDeadmanExpiry dt ch s
  | .refreshTimerExpiry dt lane => Sys2Proof.Machine.execRefreshTimerExpiry dt lane s
  | .nodeDown dt f => Sys2Proof.Machine.execNodeDown dt f s
  | .shaftFrameDiscard dt rx => Sys2Proof.Machine.execShaftFrameDiscard dt rx s
  | .transmissionStart dt port => Sys2Proof.Machine.execTransmissionStart dt port s
  | .transmissionComplete dt port => Sys2Proof.Machine.execTransmissionComplete dt port s
  | .powerOnReset dt straps => Sys2Proof.Machine.execPowerOnReset dt straps s
  | .orderBadCode dt items => Sys2Proof.Machine.execOrderBadCode dt items s
  | .tableBadCode dt items => Sys2Proof.Machine.execTableBadCode dt items s
  | .modeBadTarget dt args => Sys2Proof.Machine.execModeBadTarget dt args s
  | .rstnLow dt cause => Sys2Proof.Machine.execRstnLow dt cause s

end Sys2Proof.Machine
end

