-- ==== Sys2Proof/Machine/Idle.lean ====
section
/-! DEFINITION. What the part does by itself while no command waits: the events that are due on it at
this moment, and the one of them that is taken next. -/

namespace Sys2Proof.Machine

/-- A command, if its timer is due. -/
def whenDue (now : Nat) (t : Timer) (c : Instr) : List Instr := if t.due now then [c] else []

def allGears : List Gear := [.g1, .g2]

def allTracks : List Track := [.a, .b]

/-- The timers of speed measurement that are due (R7, R16). -/
def State.duePickups (s : State) : List Instr :=
  allGears.flatMap fun g =>
    (allTracks.flatMap fun k =>
      whenDue s.now ((s.pickupOf g).track k).filter (.filterTimerExpiry 0 g k)) ++
    whenDue s.now (s.pickupOf g).zeroWindow (.zeroWindowExpiry 0 g)

/-- The timers of the lane block that are due (R121, R123, R127, R129). -/
def State.dueLanes (s : State) : List Instr :=
  (allLanes.flatMap fun l =>
    whenDue s.now (s.laneOf l).silence (.silenceTimerExpiry 0 l) ++
    whenDue s.now (s.laneOf l).freshTimer (.freshnessExpiry 0 l) ++
    whenDue s.now (s.laneOf l).refresh (.refreshTimerExpiry 0 l)) ++
  allLanes.flatMap fun l => (laneChannels l).flatMap fun ch =>
    whenDue s.now (s.demand ch).deadman (.deadmanExpiry 0 ch)

/-- The timers of the loops, the survey, steering and the orders block that are due (R21, R67, R83,
R101, R109, R110, R153, R160). -/
def State.dueLoops (s : State) : List Instr :=
  (allGears.flatMap fun g => whenDue s.now (s.loopOf g).timer (.driveUpdate 0 g)) ++
  whenDue s.now s.survey.timer (.depthFreshnessExpiry 0) ++
  whenDue s.now s.steering.timer (.steeringUpdate 0) ++
  whenDue s.now s.slurry.timer (.slurryUpdate 0) ++
  whenDue s.now s.slurry.holdDelay (.holdDelayExpiry 0) ++
  whenDue s.now s.slurry.phaseTimer (.phaseTimerExpiry 0) ++
  whenDue s.now s.orders.timer (.orderTimerExpiry 0) ++
  whenDue s.now s.orders.reportTimer (.reportTimerExpiry 0)

/-- What a port's transmitter does at this moment: a transmission whose characters and idle gap have
passed completes, and an idle transmitter with a frame in its queue starts one (R145, R172). -/
def State.duePort (s : State) (p : Port) : List Instr :=
  match s.txOf p with
  | some t =>
    whenDue s.now (s.sendTimer p t) (.transmissionComplete 0 p)
  | none => if (s.selected p).isSome then [.transmissionStart 0 p] else []

/-- The command that the oldest frame to have ended on a port is, if its arrival has not been taken yet
(R134). -/
def State.arrivalOn (s : State) (p : Port) : Option Instr :=
  (s.inputs.get p).arrived.head?.map fun rx =>
    match p with
    | .shaft => shaftCommand s.ownAddress s.path.route 0 rx
    | .lane l => laneCommand 0 l rx

/-- The events that are due on the part at this moment. -/
def State.dueEvents (s : State) : List Instr :=
  s.duePickups ++ s.dueLanes ++ s.dueLoops ++ allPorts.flatMap s.duePort ++
    allPorts.filterMap s.arrivalOn

/-- With no command waiting, the event that the part takes next, if one is due. Where several fall
together, the free value says which is taken first (assumption 3). -/
def State.idleCommand (s : State) : Option Instr :=
  match s.dueEvents with
  | [] => none
  | [c] => some c
  | c :: cs => some ((c :: cs).getD (Config.tieBreak s.draws % (cs.length + 1)) c)

/-- The arrival of a frame that has ended on a port is taken. -/
def popArrival (p : Port) (s : State) : State :=
  let x := s.inputs.get p
  { s with inputs := s.inputs.set p { x with arrived := x.arrived.tail } }

/-- The state on which a due event acts: if it is an arrival, its frame no longer stands on its port. -/
def State.taking (c : Instr) (s : State) : State :=
  match allPorts.find? fun p => decide (s.arrivalOn p = some c) with
  | some p => popArrival p s
  | none => s

/-- The counter of the free values after `idleCommand` has been taken. -/
def State.drawnIdle (s : State) : State :=
  if 2 ≤ s.dueEvents.length then { s with draws := s.draws + 1 } else s

end Sys2Proof.Machine
end

