-- ==== Sys2Proof/Machine/Step.lean ====
section
/-! DEFINITION. One step of the part: the command at the front of the queue is taken; with none waiting,
the part takes an event that is due on it, and otherwise one µs passes on its time base. -/

namespace Sys2Proof.Machine

/-- The command that the next step takes, if it takes one. -/
def State.nextCommand (s : State) : Option Instr := s.pending.head?.orElse fun _ => s.idleCommand

/-- One step (assumptions 1 and 3). -/
def step (s : State) : Host.Outcome State Fault Refusal :=
  match s.pending with
  | c :: rest => exec c { s with pending := rest }
  | [] =>
    match s.idleCommand with
    | some c => exec c (s.drawnIdle.taking c)
    | none => .next (s.elapse 1)

/-- The command that a word spells, put at the front of the queue; the table spells none by bits. -/
def State.withFetchWord (s : State) (nbits w : Nat) : State :=
  match Sys2Proof.decodeTableWord nbits w with
  | some c => { s with pending := c :: s.pending }
  | none => s

end Sys2Proof.Machine
end

