-- ==== Sys2Proof/Safety.lean ====
section
/-! DEFINITION. What a safe state of the part is: the laws that the manual says rules own, each as a
property of the state, and the names that statements about commands use. -/

namespace Sys2Proof.Machine

/-! ## The pool and the queues (R141, R143, R144) -/

/-- The frames that wait in a queue, port by port. -/
def State.waitingFrames (s : State) : List Queued := allPorts.flatMap s.queueOf

/-- The frames in transmission, port by port. -/
def State.sendingFrames (s : State) : List Queued :=
  allPorts.filterMap fun p => (s.txOf p).map Transmission.entry

/-- The frames that hold a buffer. -/
def State.heldFrames (s : State) : List Queued := s.waitingFrames ++ s.sendingFrames

/-- R141: every buffer is on the free list or held by exactly one frame. -/
def State.poolLaw (s : State) : Prop :=
  (s.path.free ++ s.heldFrames.map Queued.buffer).Perm allBuffers

/-- R141: forwarded frames hold at most 30 buffers. -/
def State.forwardedLaw (s : State) : Prop :=
  (s.heldFrames.countP fun e => e.tag.forwarded) ≤ 30

/-- How many frames of a tag wait for a port. -/
def State.waitingCount (s : State) (p : Port) (tag : Tag) : Nat :=
  (s.queueOf p).countP fun e => decide (e.tag = tag)

/-- R143: in the upper queue at most one forwarded SAMPLE waits per source node, at most one
periodic and one urgent REPORT, and at most four REPLY frames. -/
def State.upperQueueLaw (s : State) : Prop :=
  (∀ src, (s.queueOf .shaft).countP (Queued.sampleFrom src) ≤ 1) ∧
    s.waitingCount .shaft .periodic ≤ 1 ∧ s.waitingCount .shaft .urgent ≤ 1 ∧
    s.waitingCount .shaft .reply ≤ 4

/-- A lane's DEMAND frames in its transmitter: 0 or 1. -/
def State.demandsSending (s : State) (l : Lane) : Nat := if s.demandInTransmission l then 1 else 0

/-- The tags that a port's queue and transmitter may hold: SAMPLE, NODE, REPLY and REPORT frames
above; NODE frames, and DEMAND frames on a lane with channels, below (R138, R140, R144). -/
def tagOf (p : Port) (tag : Tag) : Bool :=
  match p, tag with
  | .shaft, .demand => false
  | .shaft, _ => true
  | .lane _, .node => true
  | .lane l, .demand => decide (laneChannels l ≠ [])
  | .lane _, _ => false

/-- R129, R144: each lane holds at most one DEMAND, waiting or in transmission; each port holds only
frames that belong there; and the forwarded frames that wait keep to their share. -/
def State.ownFrameLaw (s : State) : Prop :=
  (∀ l, s.waitingCount (.lane l) .demand + s.demandsSending l ≤ 1) ∧
    (∀ p, ∀ e ∈ s.queueOf p, tagOf p e.tag = true) ∧
    (∀ p t, s.txOf p = some t → tagOf p t.entry.tag = true) ∧
    (∀ p, s.forwardedWaiting p ≤ forwardedShare p)

/-! ## Orders and trips (R154, R156) -/

/-- R156: the trip latch set is non-empty exactly when the first-trip record is present. -/
def State.recordLaw (s : State) : Prop := s.orders.trips ≠ [] ↔ s.orders.record.isSome = true

/-- R155, R157: the latch set stands in priority order, each kind once (assumption 17). -/
def State.tripOrderLaw (s : State) : Prop :=
  s.orders.trips = allKinds.filter fun k => decide (k ∈ s.orders.trips)

/-- R154: ORDER_LOST is latched exactly when the order link is in LOST. -/
def State.orderLostLaw (s : State) : Prop := s.latched .orderLost = true ↔ s.orders.link = .lost

/-! ## The loops (R24, R27, R35, R41, R89, R102, R116, R125) -/

/-- R116: the feed limit is 0 unless both drive loops are in RUN and the order link is LIVE. -/
def State.feedLaw (s : State) : Prop :=
  s.slurry.feed ≠ 0 → s.bothLoops .run = true ∧ s.orders.link = .live

/-- RUN, HELD, UNJAM or OPEN (R24). -/
def LoopState.running (x : LoopState) : Bool :=
  match x with
  | .run => true
  | .held => true
  | .unjam => true
  | .opened => true
  | _ => false

/-- R24: a drive loop is in RUN, HELD, UNJAM or OPEN only while the slurry loop is in RUN or
MANUAL. -/
def State.runningLaw (s : State) : Prop :=
  ∀ g, (s.loopOf g).state.running = true → s.slurry.state = .run ∨ s.slurry.state = .manual

/-- R27, R34: a loop in RUN has no HELD cause, a loop in HELD has one, and with the order link in
LOST no loop is cutting or about to cut. -/
def State.heldLaw (s : State) : Prop :=
  (∀ g, (s.loopOf g).state = .run → s.heldCause g = false) ∧
    (∀ g, (s.loopOf g).state = .held → s.heldCause g = true) ∧
    (s.orders.link = .lost → s.anyCutting = false)

/-- R41, R51, R53: each integrator lies within ± the I_max of the class in effect, except in STOPPING,
where a write may have lowered that I_max and applies from its next use (assumption 16); and it is 0
in a loop that does not regulate. -/
def State.integratorLaw (s : State) : Prop :=
  ∀ g, ((s.loopOf g).state ≠ .stopping → mag (s.loopOf g).integ ≤ s.classField .iMax) ∧
    ((s.loopOf g).state ∈ [LoopState.stopped, .armed, .opened, .manual, .tripped] →
      (s.loopOf g).integ = 0)

/-- R35: the unjam phase is none outside UNJAM, and a loop in STOPPED, ARMED, MANUAL or TRIPPED has
ramped target 0, SAT clear and stall count 0. -/
def State.restingLoopLaw (s : State) : Prop :=
  ∀ g, ((s.loopOf g).state ≠ .unjam → (s.loopOf g).phase = .none) ∧
    ((s.loopOf g).state ∈ [LoopState.stopped, .armed, .manual, .tripped] →
      (s.loopOf g).ramped = 0 ∧ (s.loopOf g).sat = false ∧ (s.loopOf g).stallCount = 0)

/-- R125: a channel's owner is OPERATOR exactly while its loop is in MANUAL. -/
def State.ownerLaw (s : State) : Prop :=
  (∀ g, (s.demand (.valve g)).owner = .operator ↔ (s.loopOf g).state = .manual) ∧
    (∀ p, (s.demand (.plate p)).owner = .operator ↔ s.steering.state = .manual) ∧
    ((s.demand .pump).owner = .operator ↔ s.slurry.state = .manual)

/-- R89: outside AUTO the projections are absent and the computed trim is 0; in OFF and MANUAL the
plate targets are 0 as well. -/
def State.steeringLaw (s : State) : Prop :=
  (s.steering.state ≠ .auto →
      s.steering.projX = none ∧ s.steering.projY = none ∧ s.steering.trim = 0) ∧
    (s.steering.state = .off ∨ s.steering.state = .manual → s.steering.targets = ⟨0, 0, 0, 0⟩)

/-- R102, R110, R113: the slurry loop has an agitation phase exactly in AGITATE, and in STOPPED and
TRIPPED its output, integrator and counts are 0. -/
def State.slurryLaw (s : State) : Prop :=
  (s.slurry.phase = .none ↔ s.slurry.state ≠ .agitate) ∧
    (s.slurry.state = .stopped ∨ s.slurry.state = .tripped →
      s.slurry.output = 0 ∧ s.slurry.integ = 0 ∧ s.slurry.detectCount = 0 ∧
        s.slurry.dwellCount = 0 ∧ s.slurry.suctionCount = 0)

/-! ## Measurement and survey (R10, R16, R18, R72, R78) -/

/-- R10, R16, R18: a history has at most 8 periods of 1 to 16 777 215 µs and is empty without a
timing reference; the runs stay below their limits. -/
def State.pickupLaw (s : State) : Prop :=
  ∀ g, (s.pickupOf g).history.length ≤ 8 ∧
    (∀ p ∈ (s.pickupOf g).history, 1 ≤ p ∧ p ≤ 16777215) ∧
    ((s.pickupOf g).ref = none → (s.pickupOf g).history = []) ∧
    (s.pickupOf g).badRun ≤ 3 ∧ (s.pickupOf g).goodRun ≤ 15

/-- R72, R76, R78: the records stand by rising index, so at most one per index; none lies beyond the
frontier; an open panel has a record at its frontier; and the frontier is a multiple of the step in
effect, at most 1023. -/
def State.trajectoryLaw (s : State) : Prop :=
  (s.survey.trajectory.map Station.index).Pairwise (· < ·) ∧
    (∀ st ∈ s.survey.trajectory, st.index ≤ s.survey.frontier) ∧
    (s.survey.state ≠ .idle → s.frontierStation.isSome = true) ∧
    s.survey.frontier % s.survey.spacing.step = 0 ∧ s.survey.frontier ≤ 1023

/-! ## The writable tables (R50, R55, R59, R128, R136, R166) -/

/-- R136, R137: the route table's words lie in their ranges, each lane is mapped to at most one
address, and addresses 0, 1 and the part's own are mapped to none. -/
def routeTableOk (own : Nat) (table : List Word) : Prop :=
  table.length = 192 ∧ (∀ i < 192, routeRange (i % 3) (table.getD i 0) = true) ∧
    (∀ a < 64, ∀ b < 64, routeWord table a 0 ≠ 0 → routeWord table a 0 = routeWord table b 0 →
      a = b) ∧
    (∀ a < 64, a ≤ 1 ∨ a = own → routeWord table a 0 = 0)

/-- R128: each min and max lies in its channel's range, with min at most max, and each slew is at
most 2000. -/
def envelopeOk (table : List Word) : Prop :=
  table.length = 21 ∧ ∀ e < 7,
    entryLow e ≤ signed (table.getD (e * 3) 0) ∧
      signed (table.getD (e * 3) 0) ≤ signed (table.getD (e * 3 + 1) 0) ∧
      signed (table.getD (e * 3 + 1) 0) ≤ 1000 ∧ unsigned (table.getD (e * 3 + 2) 0) ≤ 2000

/-- R50: each field lies in its range, and in each row P_lim < P_max ≤ P_trip. -/
def classTableOk (table : List Word) : Prop :=
  table.length = 168 ∧ ∀ row < 8,
    (∀ f < 21, classRange f (table.getD (row * 21 + f) 0) = true) ∧
      classWord table row ClassField.pLim.number < classWord table row ClassField.pMax.number ∧
      classWord table row ClassField.pMax.number ≤ classWord table row ClassField.pTrip.number

/-- R55: the words lie in their ranges and the valid entries meet the three conditions. -/
def bandTableOk (table : List Word) : Prop :=
  table.length = 48 ∧ (∀ i < 48, bandRange (i % 3) (table.getD i 0) = true) ∧
    bandsOk (validBands table) = true

/-- R59: in each curve the x rise strictly and each y is at most 1000. -/
def curveTableOk (table : List Word) : Prop :=
  table.length = 90 ∧ ∀ c < 5,
    (∀ i < 8, curveX table (c + 1) i < curveX table (c + 1) (i + 1)) ∧
      ∀ i < 9, curveY table (c + 1) i ≤ 1000

/-- R166: each setting lies in its range, with the prime start at most the prime max and ρ_lo below
ρ_hi. -/
def State.settingsOk (s : State) : Prop :=
  s.settings.length = 43 ∧
    (∀ i < 43, settingRange i (settingNumber i (s.settings.getD i 0)) = true) ∧
    s.setting .primeStart ≤ s.setting .primeMax ∧ s.setting .densityLow < s.setting .densityHigh

/-- Every writable table holds what its chapter says that it holds at all times; the operator class
and the class in effect name rows. -/
def State.tableLaw (s : State) : Prop :=
  routeTableOk s.ownAddress s.path.route ∧ envelopeOk s.lanes.envelope ∧
    classTableOk s.selector.classTable ∧ bandTableOk s.selector.bandTable ∧
    curveTableOk s.selector.curveTable ∧ s.settingsOk ∧
    s.selector.operatorClass ≤ 7 ∧ s.selector.classInEffect ≤ 7

/-- R114, R115: the cut factor lies between C_min and 1024, so between 128 and 1024. -/
def State.cutLaw (s : State) : Prop := 128 ≤ s.slurry.cut ∧ s.slurry.cut ≤ 1024

/-! ## Names for statements about commands -/

/-- The part as an ORDER frame finds it after `dt` µs, once step 1 of R150 has been done. -/
def State.afterLink (dt : Nat) (s : State) : State := orderLinkStep (emptyArea .shaft (s.elapse dt))

/-- The shaft link port after a frame from it has arrived, `dt` µs on. -/
def State.afterFrame (dt : Nat) (s : State) : State := emptyArea .shaft (s.elapse dt)

/-- R25, R29, R32, R34: the state that a loop goes to when it is stopped: ARMED to STOPPED, a running
loop to STOPPING, or to STOPPED with its pickup in FAULT, every other state unchanged. -/
def State.stopOutcome (s : State) (g : Gear) : LoopState :=
  match (s.loopOf g).state with
  | .armed => .stopped
  | .run | .held | .unjam | .opened =>
    if (s.pickupOf g).health = .fault then .stopped else .stopping
  | .stopped => .stopped
  | .stopping => .stopping
  | .manual => .manual
  | .tripped => .tripped

/-- R102, R109, R111, R116: the slurry loop after a drive loop has left STOPPED. The feed limit is 0
and the hold-delay timer restarts; an agitation in BURST ends in a seeded entry into RUN at U_circ, any
other in FLUSH at U_circ, with the phase timer started with the flush time. -/
def State.slurryAfterDeparture (s : State) : Slurry :=
  let restarted := { s.slurry with
    feed := 0, holdDelay := .running ((s.setting .holdDelay).toNat * 1000000) s.now }
  if s.slurry.state ≠ .agitate then restarted
  else if s.slurry.phase = .burst then
    { restarted with state := .run, output := s.setting .circDemand, integ := s.setting .circDemand
                     suctionCount := 0, detectCount := 0, dwellCount := 0, phase := .none
                     phaseTimer := .idle }
  else
    { restarted with state := .flush, output := s.setting .circDemand, phase := .none
                     phaseTimer := .running ((s.setting .flushTime).toNat * 1000000) s.now }

/-- R111, R125: the requested value of the pump channel after a drive loop has left STOPPED. -/
def State.pumpAfterDeparture (s : State) : Int :=
  if s.slurry.state = .agitate then s.setting .circDemand else (s.demand .pump).requested

/-- An ORDER frame is executed: the part runs, and fewer than four REPLY frames wait (R150). -/
def State.takesOrders (s : State) : Prop := s.inReset = false ∧ s.repliesWaiting < 4

/-- The address that a DEMAND or NODE frame from the cab controller is sent to is a lane's node, and
a NODE frame's entry lets it pass; nothing is asked of any other command. -/
def reachesItsNode (own : Nat) (route : List Word) : Instr → Prop
  | .operatorDemand _ dest _ =>
    2 ≤ dest.toNat ∧ dest.toNat ≠ own ∧ laneOfNumber (routeWord route dest.toNat 0) ≠ none
  | .nodeDown _ f =>
    2 ≤ f.dest.toNat ∧ f.dest.toNat ≠ own ∧ laneOfNumber (routeWord route f.dest.toNat 0) ≠ none ∧
      routeWord route f.dest.toNat 2 = 1
  | _ => True

/-- What the plate regulation asks of a plate (R94, R95). -/
def State.openingAsked (s : State) (p : Plate) (target : Int) : Int :=
  match (s.laneOf .steer).fresh, s.stroke p with
  | true, some x =>
    if mag (target - x) ≤ s.setting .plateDeadband then 0
    else clampMag 1000 (roundDiv (s.setting .plateKp * (target - x)) 256)
  | _, _ => 0

/-- The words of a WRITE put one after the other from an index on, each as its table's owner takes
it (R165). -/
def putWords (t : Table) : (index : Nat) → List Word → State → State
  | _, [], s => s
  | index, w :: ws, s => putWords t (index + 1) ws (putWord t index w s)

end Sys2Proof.Machine
end

