-- ==== Sys2Proof/Certificates/Slice0/Obligations.lean ====
section
/-! DEFINITION. The statements for the provers: what each command does and leaves, the laws that every
step keeps, and that the frames of the shaft link read back as the commands they spell. -/

open Sys2Proof Sys2Proof.Machine

/-! ## The machine as a whole -/

/-- The command at the front of the queue is executed on the rest of the queue; with no command
waiting, the part takes the event that is due on it, and with none due one µs passes (the queue and
what happens on an empty one are the model's choice: assumptions 1 and 3). A frame that has ended on a
port is due as the command that it is, the oldest first, and no longer stands on its port once it is
taken (assumption 15). -/
def Obligations.StepTakesFrontCommand : Prop :=
  (∀ (c : Instr) (rest : List Instr) (s : State), s.pending = c :: rest →
    step s = exec c { s with pending := rest }) ∧
  (∀ (s : State) (c : Instr), s.pending = [] → s.dueEvents = [c] →
    step s = exec c (s.taking c)) ∧
  (∀ (s : State) (c : Instr), (∀ p, s.arrivalOn p ≠ some c) → s.taking c = s) ∧
  (∀ (s : State) (c : Instr) (p : Port), s.arrivalOn p = some c →
    s.taking c = { s with
      inputs := s.inputs.set p (⟨(s.inputs.get p).incoming, (s.inputs.get p).receiver,
        (s.inputs.get p).arrived.tail⟩) }) ∧
  (∀ (s : State) (p : Port), (s.arrivalOn p).toList ⊆ s.dueEvents ∧
    ((s.inputs.get p).arrived = [] → s.arrivalOn p = none) ∧
    ∀ rx rest, (s.inputs.get p).arrived = rx :: rest →
      (p = .shaft → s.arrivalOn p = some (shaftCommand s.ownAddress s.path.route 0 rx)) ∧
      ∀ l, p = .lane l → s.arrivalOn p = some (laneCommand 0 l rx)) ∧
  ∀ s : State, s.pending = [] → s.dueEvents = [] → step s = .next (s.elapse 1)

/-- R171: while the part is held in power-on reset, a command other than the end of the reset and a
change of a pickup pin leaves it as it is; the time base alone goes on. That these commands do
nothing in it is read from R171 (assumption 13). -/
def Obligations.ResetHoldsThePart : Prop :=
  ∀ (c : Instr) (s : State), s.inReset = true → (∀ dt straps, c ≠ .powerOnReset dt straps) →
    (∀ dt g k level, c ≠ .pickupRawChange dt g k level) → exec c s = .next (s.elapse c.dt)

/-- Every law of the part holds right after power-on reset. The pin levels at reset are the model's
choice (assumption 2). -/
def Obligations.LawsHoldAtReset : Prop :=
  State.reset.poolLaw ∧ State.reset.forwardedLaw ∧ State.reset.upperQueueLaw ∧
    State.reset.ownFrameLaw ∧ State.reset.recordLaw ∧ State.reset.orderLostLaw ∧
    State.reset.tripOrderLaw ∧ State.reset.feedLaw ∧ State.reset.runningLaw ∧ State.reset.heldLaw ∧
    State.reset.integratorLaw ∧ State.reset.restingLoopLaw ∧ State.reset.ownerLaw ∧
    State.reset.steeringLaw ∧ State.reset.slurryLaw ∧ State.reset.pickupLaw ∧
    State.reset.trajectoryLaw ∧ State.reset.tableLaw ∧ State.reset.cutLaw

/-! ## Frames as characters (R134, R168, R169) -/

/-- R134, R168, R172: what an empty receive area holds once a frame has come is the first 54 of its
characters, how many they were, and whether a stop bit was low; it is taken as the frame `f` exactly
when no stop bit was low, the characters are those of `f`, the check of `f` is the check of its
contents, and its header and length are in range. On a line each character has a low start bit, eight
data bits, least significant first, and a high stop bit. A receiver takes the levels of a frame after
any idle time, tick by tick, as its characters, and finds its end after 3 character times of idle line
and not before; a stop bit sampled low is kept with the frame, and a start bit shorter than half a bit
time is no character. What a receiver does after such a start bit and after such a stop bit is the
model's choice (assumption 25). -/
def Obligations.GoodFrameIffCharacters : Prop :=
  (∀ (rx : Reception) (f : Frame), goodFrame (received rx) = some f ↔
    rx.stopLow = false ∧ rx.chars = frameChars f ∧
      f.check = (mkFrame f.dest f.src f.kind f.items).check ∧ f.dest.toNat ≤ 63 ∧
      f.src.toNat ≤ 63 ∧ 1 ≤ f.kind.toNat ∧ f.kind.toNat ≤ 8 ∧ f.items.length ≤ 24) ∧
  (∀ rx : Reception, received rx =
    { stored := rx.chars.take 54, received := rx.chars.length, stopLow := rx.stopLow }) ∧
  (∀ (area : ReceiveArea) (rx : Reception), area.stored.length ≤ 54 →
    (area.gather rx).stored = (area.stored ++ rx.chars).take 54 ∧
      (area.gather rx).received = area.received + rx.chars.length) ∧
  (∀ c : Byte, charBits c = [false] ++ (List.range 8).map c.getLsbD ++ [true]) ∧
  (∀ (f : Frame) (bit idle : Nat) (x : LineInput), 0 < bit → x.receiver = .idle →
    x.hear bit (List.replicate idle true ++ ticksOf bit (frameBits f) ++
        List.replicate (30 * bit) true) =
      { x with arrived := x.arrived ++ [⟨frameChars f, false⟩] } ∧
    ∀ n < 30 * bit, (x.hear bit (List.replicate idle true ++ ticksOf bit (frameBits f) ++
      List.replicate n true)).arrived = x.arrived) ∧
  (∀ (bit n : Nat) (x : LineInput), 0 < n → n < bit / 2 → x.receiver.char = none →
    x.receiver.low = false → ∃ r, x.hear bit (List.replicate n false ++ [true]) =
      { x with receiver := r } ∧ r.char = none ∧ r.got = x.receiver.got ∧ r.left = 30 * bit) ∧
  (∀ (bit : Nat) (c : Byte) (stop : Bool) (x : LineInput), 0 < bit → x.receiver.char = none →
    x.receiver.low = false → ∃ r,
      x.hear bit (ticksOf bit ((charBits c).set 9 stop)) = { x with receiver := r } ∧
      r.char = none ∧ r.got = ⟨x.receiver.got.chars ++ [c], x.receiver.got.stopLow || !stop⟩ ∧
      r.left = 30 * bit) ∧
  ∀ (s : State) (p : Port) (f : Frame) (dt : Nat), s.inReset = false →
    s.inputs.get p = ⟨ticksOf (s.bitTicks p) (frameBits f), .idle, []⟩ →
    ((9 + 2 * f.items.length) * s.charMicros p ≤ dt →
      (s.elapse dt).inputs.get p = ⟨[], .idle, [⟨frameChars f, false⟩]⟩) ∧
    (dt < (9 + 2 * f.items.length) * s.charMicros p →
      ((s.elapse dt).inputs.get p).arrived = [])

/-- Every well-formed command that is a frame from the cab controller is read back, whole and with
every operand, from the characters of its frame. -/
def Obligations.ShaftFrameRoundTrip : Prop :=
  ∀ (own : Nat) (route : List Word) (i : Instr) (f : Frame), 2 ≤ own → own ≤ 9 → i.wf = true →
    reachesItsNode own route i → commandFrame own i = some f →
      shaftCommand own route i.dt ⟨frameChars f, false⟩ = i

/-! ## Laws that every step keeps -/

/-- R141: every buffer stays on the free list or with exactly one frame, and forwarded frames hold
at most 30. -/
def Obligations.StepKeepsPoolLaw : Prop :=
  ∀ s t : State, s.poolLaw → s.forwardedLaw → step s = .next t → t.poolLaw ∧ t.forwardedLaw

/-- R129, R143, R144: the law of the upper queue; and at most one DEMAND per lane, only the frames
that belong to a port, and the forwarded shares. -/
def Obligations.StepKeepsQueueLaws : Prop :=
  ∀ s t : State, step s = .next t →
    (s.upperQueueLaw → t.upperQueueLaw) ∧ (s.ownFrameLaw → t.ownFrameLaw)

/-- R144: an own frame that is made finds a free buffer, and the queues keep to 24 and 6 frames. -/
def Obligations.OwnFrameFindsBuffer : Prop :=
  ∀ s : State, s.poolLaw → s.forwardedLaw → s.upperQueueLaw → s.ownFrameLaw →
    (∀ l, laneChannels l ≠ [] → s.waitingCount (.lane l) .demand + s.demandsSending l = 0 →
      s.path.free ≠ []) ∧
    (s.waitingCount .shaft .reply < 4 → s.path.free ≠ []) ∧
    (s.waitingCount .shaft .periodic = 0 → s.path.free ≠ []) ∧
    (s.waitingCount .shaft .urgent = 0 → s.path.free ≠ []) ∧
    (s.queueOf .shaft).length ≤ 24 ∧ ∀ l, (s.queueOf (.lane l)).length ≤ 6

/-- R154, R155, R156: a first-trip record is there exactly with a trip latched, the latch set stands in
priority order with each kind once, and ORDER_LOST is latched exactly in LOST. That the set is held in
priority order is the model's form (assumption 17). -/
def Obligations.StepKeepsTripLaws : Prop :=
  ∀ s t : State, step s = .next t →
    (s.recordLaw → t.recordLaw) ∧ (s.tripOrderLaw → t.tripOrderLaw) ∧
      (s.orderLostLaw → t.orderLostLaw)

/-- R24, R27, R34, R116: a drive loop runs only while the slurry loop is in RUN or MANUAL; RUN goes
without a HELD cause, HELD with one, and nothing cuts in LOST; and the feed limit is 0 unless both
loops are in RUN and the link is LIVE. -/
def Obligations.StepKeepsCuttingLaws : Prop :=
  ∀ s t : State, step s = .next t →
    (s.runningLaw → t.runningLaw) ∧ (s.heldLaw → s.orderLostLaw → t.heldLaw) ∧
      (s.feedLaw → t.feedLaw)

/-- R35, R41, R89, R102, R113, R125: outside STOPPING each integrator lies within ± the I_max of the class
in effect; it is 0 where a loop does not regulate, and a loop at rest has no target; a channel belongs to the
operator exactly while its loop is in MANUAL; and what steering and the slurry loop hold outside their
working states. Every step that takes no TABLE_WRITE keeps what both loops hold within ± I_max; a
TABLE_WRITE can lower the I_max below what a loop in STOPPING holds, and it applies from its next use
(the model's reading of R41 and R51, assumption 16). -/
def Obligations.StepKeepsBlockLaws : Prop :=
  ∀ s t : State, step s = .next t →
    (s.integratorLaw → t.integratorLaw) ∧
      ((∀ dt args, s.nextCommand ≠ some (.tableWrite dt args)) →
        (∀ g, mag (s.loopOf g).integ ≤ s.classField .iMax) →
        ∀ g, mag (t.loopOf g).integ ≤ t.classField .iMax) ∧
      (s.restingLoopLaw → t.restingLoopLaw) ∧
      (s.ownerLaw → t.ownerLaw) ∧ (s.steeringLaw → t.steeringLaw) ∧ (s.slurryLaw → t.slurryLaw)

/-- R10, R18, R72, R78: the histories and the runs of the pickups, and the trajectory table; and a step
that takes neither a PANEL_BEGIN nor a power-on reset never lowers the frontier. -/
def Obligations.StepKeepsMeasurementLaws : Prop :=
  ∀ s t : State, step s = .next t →
    (s.pickupLaw → t.pickupLaw) ∧ (s.trajectoryLaw → t.trajectoryLaw) ∧
      ((∀ dt args, s.nextCommand ≠ some (.panelBegin dt args)) →
        (∀ dt straps, s.nextCommand ≠ some (.powerOnReset dt straps)) →
        s.survey.frontier ≤ t.survey.frontier)

/-- R50, R55, R59, R114, R115, R128, R136, R166: the writable tables hold what their chapters say, and
with them the cut factor lies between 128 and 1024. -/
def Obligations.StepKeepsTableLaws : Prop :=
  ∀ s t : State, s.tableLaw → step s = .next t → t.tableLaw ∧ (s.cutLaw → t.cutLaw)

/-! ## Arithmetic (R1 to R3) -/

/-- R1: the rounded quotient is the floor of (2a + b) over 2b, which is the one integer within half
of the quotient, the upper one at a half. -/
def Obligations.RoundingIsHalvesUpward : Prop :=
  (∀ a b q : Int, 0 < b →
    (roundDiv a b = q ↔ 2 * a - b < 2 * b * q ∧ 2 * b * q ≤ 2 * a + b)) ∧
  (∀ x : Int, roundDiv x 256 = (x + 128) / 256) ∧ ∀ x : Int, roundDiv x 1024 = (x + 512) / 1024

/-! ## Speed measurement (chapter 1) -/

/-- R7: a raw change stops the filter timer on a return, starts it on a departure, and with a width
of 0 is an accepted edge, as at the expiry of a filter; a level that does not change is no raw change.
R7, R9, R11, R12, R16: the accepted edges that capture no period, and the zero window's expiry; a timer
that is idle, or has been restarted so that it is not due, does not expire (for a timer that is idle
this is the model's reading, assumption 12). -/
def Obligations.PickupInputsAndTimers : Prop :=
  (∀ (dt : Nat) (g : Gear) (k : Track) (level : Bool) (s : State), s.inReset = false →
    (level = ((s.pickupOf g).track k).raw →
      exec (.pickupRawChange dt g k level) s = .next (s.elapse dt)) ∧
    (level ≠ ((s.pickupOf g).track k).raw →
      (level = ((s.pickupOf g).track k).accepted →
        exec (.pickupRawChange dt g k level) s = .next ((s.elapse dt).onPickup g fun p =>
          p.onTrack k fun x => { x with raw := level, filter := .idle })) ∧
      (level ≠ ((s.pickupOf g).track k).accepted → s.setting .filterWidth ≠ 0 →
        exec (.pickupRawChange dt g k level) s = .next ((s.elapse dt).onPickup g fun p =>
          p.onTrack k fun x =>
            { x with raw := level
                     filter := .running (s.setting .filterWidth).toNat (s.now + dt) })) ∧
      (level ≠ ((s.pickupOf g).track k).accepted → s.setting .filterWidth = 0 →
        exec (.pickupRawChange dt g k level) s =
          exec (.filterTimerExpiry 0 g k) ((s.elapse dt).onPickup g fun p =>
            p.onTrack k fun x => { x with raw := level, filter := .running 0 (s.now + dt) })))) ∧
  ∀ (dt : Nat) (g : Gear) (s : State), s.inReset = false →
    (∀ k, ((s.pickupOf g).track k).filter.due (s.now + dt) = false →
      exec (.filterTimerExpiry dt g k) s = .next (s.elapse dt)) ∧
    (∀ k, ((s.pickupOf g).track k).filter.due (s.now + dt) = true →
      ((s.pickupOf g).track k).raw = ((s.pickupOf g).track k).accepted →
      exec (.filterTimerExpiry dt g k) s = .next ((s.elapse dt).onPickup g fun p =>
        p.onTrack k fun x => { x with filter := .idle })) ∧
    ((s.pickupOf g).b.filter.due (s.now + dt) = true →
      (s.pickupOf g).b.raw ≠ (s.pickupOf g).b.accepted →
      exec (.filterTimerExpiry dt g .b) s = .next ((s.elapse dt).onPickup g fun p =>
        { p with b := { p.b with accepted := p.b.raw, filter := .idle }, bEdge := true })) ∧
    ((s.pickupOf g).a.filter.due (s.now + dt) = true →
      ((s.pickupOf g).a.accepted = false → (s.pickupOf g).a.raw = true →
        (s.pickupOf g).ref = none →
        exec (.filterTimerExpiry dt g .a) s = .next ((s.elapse dt).onPickup g fun p =>
          { p with a := { p.a with accepted := true, filter := .idle }, ref := some (s.now + dt)
                   high := none, bEdge := false
                   zeroWindow :=
                     .running ((s.setting .zeroWindow).toNat * 1000) (s.now + dt) })) ∧
      ((s.pickupOf g).a.accepted = true → (s.pickupOf g).a.raw = false →
        (s.pickupOf g).ref = none →
        exec (.filterTimerExpiry dt g .a) s = .next ((s.elapse dt).onPickup g fun p =>
          { p with a := { p.a with accepted := false, filter := .idle } })) ∧
      ∀ r, (s.pickupOf g).a.accepted = true → (s.pickupOf g).a.raw = false →
        (s.pickupOf g).ref = some r →
        exec (.filterTimerExpiry dt g .a) s = .next ((s.elapse dt).onPickup g fun p =>
          { p with a := { p.a with accepted := false, filter := .idle }
                   high := some (min (s.now + dt - r) 16777215) })) ∧
    ((s.pickupOf g).zeroWindow.due (s.now + dt) = false →
      exec (.zeroWindowExpiry dt g) s = .next (s.elapse dt)) ∧
    ((s.pickupOf g).zeroWindow.due (s.now + dt) = true →
      exec (.zeroWindowExpiry dt g) s = .next ((s.elapse dt).onPickup g fun p =>
        { p with history := [], ref := none, high := none, zeroWindow := .idle }))

/-- R10, R17, R18: an accepted rising edge of track A with a timing reference captures a period, and
the health and the runs change as the period is bad or good. -/
def Obligations.RisingEdgeCapturesPeriod : Prop :=
  ∀ (dt : Nat) (g : Gear) (s : State) (r : Nat), s.inReset = false →
    (s.pickupOf g).a.filter.due (s.now + dt) = true → (s.pickupOf g).a.accepted = false →
    (s.pickupOf g).a.raw = true → (s.pickupOf g).ref = some r →
    ∃ q : Pickup, exec (.filterTimerExpiry dt g .a) s = .next ((s.elapse dt).onPickup g fun _ => q) ∧
      q.b = (s.pickupOf g).b ∧ q.a = { raw := true, accepted := true, filter := .idle } ∧
      q.direction = (if (s.pickupOf g).b.accepted then .reverse else .forward) ∧
      q.history =
        (max 1 (min (s.now + dt - r) 16777215) ::
          (if q.direction = (s.pickupOf g).direction then (s.pickupOf g).history else [])).take 8 ∧
      q.ref = some (s.now + dt) ∧ q.high = none ∧ q.bEdge = false ∧
      q.zeroWindow = .running ((s.setting .zeroWindow).toNat * 1000) (s.now + dt) ∧
      ∀ h bad, (s.pickupOf g).high = some h →
        (bad = true ↔
          roundDiv (1000 * h) (max 1 (min (s.now + dt - r) 16777215) : Nat) < 200 ∨
          800 < roundDiv (1000 * h) (max 1 (min (s.now + dt - r) 16777215) : Nat) ∨
          ((s.pickupOf g).bEdge = false ∧
            50 < averageMagnitude s.toothCount (s.setting .averaging).toNat q.history)) →
        ((s.pickupOf g).health = .ok → bad = true → 4 ≤ (s.pickupOf g).badRun + 1 →
          q.health = .fault ∧ q.badRun = 0 ∧ q.goodRun = 0) ∧
        ((s.pickupOf g).health = .ok → bad = true → (s.pickupOf g).badRun + 1 < 4 →
          q.health = .ok ∧ q.badRun = (s.pickupOf g).badRun + 1 ∧
            q.goodRun = (s.pickupOf g).goodRun) ∧
        ((s.pickupOf g).health = .ok → bad = false →
          q.health = .ok ∧ q.badRun = 0 ∧ q.goodRun = (s.pickupOf g).goodRun) ∧
        ((s.pickupOf g).health = .fault → bad = false → 16 ≤ (s.pickupOf g).goodRun + 1 →
          q.health = .ok ∧ q.badRun = 0 ∧ q.goodRun = 0) ∧
        ((s.pickupOf g).health = .fault → bad = false → (s.pickupOf g).goodRun + 1 < 16 →
          q.health = .fault ∧ q.badRun = (s.pickupOf g).badRun ∧
            q.goodRun = (s.pickupOf g).goodRun + 1) ∧
        ((s.pickupOf g).health = .fault → bad = true →
          q.health = .fault ∧ q.badRun = (s.pickupOf g).badRun ∧ q.goodRun = 0)

/-- R13, R14, R15: the measured speed is 0 without a period or a timing reference; otherwise its
magnitude is the average over the newest periods, bounded by the elapsed time once that exceeds the
newest period, and it never exceeds 4000. -/
def Obligations.MeasuredSpeedIsBounded : Prop :=
  ∀ (s : State) (g : Gear),
    ((s.pickupOf g).history = [] ∨ (s.pickupOf g).ref = none → s.measuredSpeed g = 0) ∧
    (∀ newest older r n total e average,
      (s.pickupOf g).history = newest :: older → (s.pickupOf g).ref = some r →
      n = min (s.setting .averaging).toNat (older.length + 1) → 0 < n →
      total = ((newest :: older).take n).sum → e = min (s.now - r) 16777215 →
      average = min 4000 (roundDiv (6000000000 * n) (s.toothCount * total)) →
      (e ≤ newest → s.measuredSpeed g = (s.pickupOf g).direction.apply average) ∧
      (newest < e → s.measuredSpeed g = (s.pickupOf g).direction.apply
        (min average (roundDiv 6000000000 (s.toothCount * e))))) ∧
    mag (s.measuredSpeed g) ≤ 4000

/-! ## Drive regulation and classes (chapters 2 and 3) -/

/-- R21, R22, R57: a drive update restarts its timer and has the class evaluated, and a change of class
clamps both integrators; in STOPPED, MANUAL and TRIPPED nothing else changes. R24: in ARMED the loop
stays until the slurry loop is in RUN or MANUAL, and then goes to HELD if a HELD cause stands and to RUN
otherwise, from rest, and the feed limit is formed; a loop in ARMED in LOST, which cannot be, stays
(assumption 14). The class is that of the first valid band around a fresh depth, and otherwise the
operator class. A timer that is not due does not expire (assumption 12). -/
def Obligations.DriveUpdateAtRest : Prop :=
  (∀ (dt : Nat) (g : Gear) (s : State), s.inReset = false →
    (s.loopOf g).timer.due (s.now + dt) = false →
      exec (.driveUpdate dt g) s = .next (s.elapse dt)) ∧
  (∀ (dt : Nat) (g : Gear) (s u v w : State), s.inReset = false →
    (s.loopOf g).timer.due (s.now + dt) = true →
    u = (s.elapse dt).onLoop g (fun l =>
      { l with timer := .running ((s.setting .drivePeriod).toNat * 1000) (s.now + dt) }) →
    v = u.onSelector (fun x => { x with classInEffect := s.evaluatedClass }) →
    (s.evaluatedClass = s.selector.classInEffect → w = u) →
    (s.evaluatedClass ≠ s.selector.classInEffect → ∀ iMax,
      iMax = classWord s.selector.classTable s.evaluatedClass 5 →
      w = (v.onLoop .g1 fun l => { l with integ := clamp (-iMax) iMax l.integ }).onLoop .g2
        fun l => { l with integ := clamp (-iMax) iMax l.integ }) →
    ((s.loopOf g).state ∈ [LoopState.stopped, .manual, .tripped] →
      exec (.driveUpdate dt g) s = .next w) ∧
    ((s.loopOf g).state = .armed →
      (s.slurry.state ≠ .run → s.slurry.state ≠ .manual →
        exec (.driveUpdate dt g) s = .next w) ∧
      (s.slurry.state = .run ∨ s.slurry.state = .manual →
        ∀ (new : LoopState) (x : State),
        x = w.onLoop g (fun l =>
          { l with state := new, ramped := 0, integ := 0, stallCount := 0 }) →
        ((s.loopOf g.partner).state = .unjam ∨ s.orders.link = .warn → new = .held →
          exec (.driveUpdate dt g) s =
            .next (x.onSlurry fun y => { y with feed := x.feedLimit })) ∧
        ((s.loopOf g.partner).state ≠ .unjam →
          s.orders.link = .live ∨ s.orders.link = .dormant → new = .run →
          exec (.driveUpdate dt g) s =
            .next (x.onSlurry fun y => { y with feed := x.feedLimit })) ∧
        ((s.loopOf g.partner).state ≠ .unjam → s.orders.link = .lost →
          exec (.driveUpdate dt g) s = .next w)))) ∧
  ∀ s : State,
    (s.survey.fresh = false ∨ s.survey.received = false →
      s.evaluatedClass = s.selector.operatorClass) ∧
    (s.survey.fresh = true → s.survey.received = true →
      (∀ e < 16, bandContains s.selector.bandTable s.survey.depth e = false) →
      s.evaluatedClass = s.selector.operatorClass) ∧
    ∀ e < 16, s.survey.fresh = true → s.survey.received = true →
      bandWord s.selector.bandTable e 2 ≤ 7 →
      bandWord s.selector.bandTable e 0 * 100 ≤ s.survey.depth →
      s.survey.depth < bandWord s.selector.bandTable e 1 * 100 →
      (∀ d < e, bandContains s.selector.bandTable s.survey.depth d = false) →
      s.evaluatedClass = bandWord s.selector.bandTable e 2

/-- R22, R36 to R42: a drive update of a loop in RUN or HELD with a sound pickup and no stall takes the
base target through the eight stages to the valve channel, with the fields of the class that the update
evaluates; in HELD the hold speed bounds the target and no trim is added; a change of class first clamps
both integrators. -/
def Obligations.DriveUpdateInRun : Prop :=
  ∀ (dt : Nat) (g : Gear) (s u : State) (l : DriveLoop) (c : Nat) (f : ClassField → Int)
    (clamped : Int → Int) (trim s1 s2 factor s3 ramped e ff next raw : Int),
    s.inReset = false → l = s.loopOf g → l.timer.due (s.now + dt) = true →
    l.state = .run ∨ l.state = .held → (s.pickupOf g).health = .ok → c = s.evaluatedClass →
    f = (fun x => classWord s.selector.classTable c x.number) →
    clamped = (fun i => if c = s.selector.classInEffect then i else clampMag (f .iMax) i) →
    u = s.elapse dt →
    trim = (if s.steering.state = .auto ∧ (s.loopOf g.partner).state = .run ∧ s.drive.base ≠ 0
      then (match g with | .g1 => s.steering.trim | .g2 => -s.steering.trim) else 0) →
    (l.state = .run → s1 = clampMag (f .sMax)
      (signOf s.drive.base * max 0 (mag s.drive.base + trim))) →
    (l.state = .held → s1 = clampMag (f .holdSpeed) (clampMag (f .sMax) s.drive.base)) →
    s2 = roundDiv (s1 * s.slurry.cut) 1024 →
    factor = (match (s.laneOf .drive).fresh, s.pressure g with
      | true, some p =>
        if p ≤ f .pLim then 1024
        else clamp (f .fMin) 1024
          (1024 - roundDiv (1024 * (p - f .pLim)) (f .pMax - f .pLim))
      | _, _ => l.torque) →
    s3 = roundDiv (s2 * factor) 1024 →
    ramped = (if mag (s3 - l.ramped) ≤ f .rampStep then s3
      else l.ramped + f .rampStep * signOf (s3 - l.ramped)) →
    ((s.laneOf .drive).fresh = false ∨ mag ramped < 200 ∨
      f .stallSpeed ≤ mag (u.measuredSpeed g) ∨ ∀ p, s.pressure g = some p → p < f .pStall) →
    e = ramped - u.measuredSpeed g →
    ff = signOf ramped * curveLookup s.selector.curveTable (match g with | .g1 => 1 | .g2 => 2)
      (mag ramped) →
    next = clampMag (f .iMax) (clamped l.integ + roundDiv (f .ki * e) 256) →
    raw = ff + roundDiv (f .kp * e) 256 + next →
    ∃ t, exec (.driveUpdate dt g) s = .next t ∧
      (t.demand (.valve g)).requested = clampMag 1000 raw ∧
      t.loopOf g =
        { l with torque := factor, ramped := ramped
                 integ := if (raw < -1000 ∨ 1000 < raw) ∧ e ≠ 0 ∧ signOf e = signOf raw then
                     clamped l.integ
                   else next
                 sat := decide (raw < -1000 ∨ 1000 < raw)
                 stallCount := if (s.laneOf .drive).fresh = true ∧ s.pressure g ≠ none then 0
                   else l.stallCount
                 timer := .running ((s.setting .drivePeriod).toNat * 1000) (s.now + dt) } ∧
      t.loopOf g.partner =
        { s.loopOf g.partner with integ := clamped (s.loopOf g.partner).integ } ∧
      t.drive.base = s.drive.base ∧ t.selector = { s.selector with classInEffect := c } ∧
      t.pickup = s.pickup ∧ t.survey = s.survey ∧ t.steering = s.steering ∧
      t.slurry = s.slurry ∧ t.orders = s.orders ∧ t.settings = s.settings

/-- R22, R27, R28, R29, R40, R42, R44, R46: what a drive update comes to in each computing state, after
the class and the reads. A pickup read as FAULT takes RUN and HELD to OPEN before the stages, and
STOPPING to STOPPED without them; read as OK it takes OPEN to RUN, or to HELD with a HELD cause. The
stall test ends an update in RUN and HELD, the recovery test and the phase one in UNJAM, and a target
of 0 with a speed below 50 takes STOPPING to STOPPED. In OPEN the stages drive the hold target by the
feed-forward alone; in UNJAM they take the phase target, and in STOPPING a target of 0, with the PI
terms. -/
def Obligations.DriveUpdateByState : Prop :=
  (∀ (dt : Nat) (g : Gear) (s w : State) (inp : DriveInputs), s.inReset = false →
    (s.loopOf g).timer.due (s.now + dt) = true →
    w = evaluateClass ((s.elapse dt).onLoop g fun l =>
      { l with timer := .running ((s.setting .drivePeriod).toNat * 1000) (s.now + dt) }) →
    inp = w.driveInputs g →
    ((s.loopOf g).state = .run ∨ (s.loopOf g).state = .held →
      ((s.pickupOf g).health = .ok →
        exec (.driveUpdate dt g) s = .next (stallTest g inp (computeStages g inp w))) ∧
      ((s.pickupOf g).health = .fault → ∀ x, x = w.onLoop g (fun l =>
          { l with state := .opened, integ := 0, stallCount := 0, sat := false }) →
        exec (.driveUpdate dt g) s = .next (computeStages g inp
          (x.onSlurry fun y => { y with feed := x.feedLimit })))) ∧
    ((s.loopOf g).state = .opened →
      ((s.pickupOf g).health = .fault →
        exec (.driveUpdate dt g) s = .next (computeStages g inp w)) ∧
      ((s.pickupOf g).health = .ok → ∀ x, x = w.onLoop g (fun l =>
          { l with state := if (s.loopOf g.partner).state = .unjam ∨ s.orders.link = .warn
                     then .held else .run
                   integ := 0, stallCount := 0 }) →
        exec (.driveUpdate dt g) s = .next (stallTest g inp (computeStages g inp
          (x.onSlurry fun y => { y with feed := x.feedLimit }))))) ∧
    ((s.loopOf g).state = .unjam →
      exec (.driveUpdate dt g) s = .next (unjamEnd g inp (computeStages g inp w))) ∧
    ((s.loopOf g).state = .stopping → ∀ x : State,
      ((s.pickupOf g).health = .fault → x = w) →
      ((s.pickupOf g).health = .ok → x = computeStages g inp w) →
      ((s.pickupOf g).health = .ok → (x.loopOf g).ramped ≠ 0 ∨ 50 ≤ mag inp.speed →
        exec (.driveUpdate dt g) s = .next x) ∧
      ((s.pickupOf g).health = .fault ∨ ((x.loopOf g).ramped = 0 ∧ mag inp.speed < 50) →
        ∃ t, exec (.driveUpdate dt g) s = .next t ∧
          t.loopOf g =
            { x.loopOf g with state := .stopped, ramped := 0, integ := 0, sat := false
                              stallCount := 0, overCount := 0, phase := .none, phaseCount := 0
                              attempts := 0, recoverCount := 0 } ∧
          t.loopOf g.partner = x.loopOf g.partner ∧ t.drive.base = s.drive.base ∧
          (t.demand (.valve g)).requested = 0 ∧ (t.demand (.valve g)).owner = .loop ∧
          t.slurry = { s.slurry with
            feed := 0
            holdDelay := if (s.loopOf g.partner).state = .stopped then
                .running ((s.setting .holdDelay).toNat * 1000000) (s.now + dt)
              else s.slurry.holdDelay } ∧
          t.selector = w.selector ∧ t.pickup = s.pickup ∧ t.survey = s.survey ∧
          t.steering = s.steering ∧ t.orders = s.orders))) ∧
  ∀ (g : Gear) (inp : DriveInputs) (s : State) (l : DriveLoop)
    (s1 s2 factor ramped e ff next raw : Int), l = s.loopOf g →
    (l.state = .opened ∧
        s1 = clampMag (s.classField .holdSpeed) (clampMag (s.classField .sMax) inp.base)) ∨
      (l.state = .unjam ∧ l.phase = .reverse ∧
        s1 = clampMag (s.classField .sMax) (-(signOf inp.base * s.classField .unjamSpeed))) ∨
      (l.state = .unjam ∧ l.phase = .forward ∧
        s1 = clampMag (s.classField .sMax) (signOf inp.base * s.classField .unjamSpeed)) ∨
      (l.state = .stopping ∧ s1 = 0) →
    s2 = roundDiv (s1 * inp.cut) 1024 →
    factor = (match inp.load with
      | some p =>
        if p ≤ s.classField .pLim then 1024
        else clamp (s.classField .fMin) 1024
          (1024 - roundDiv (1024 * (p - s.classField .pLim))
            (s.classField .pMax - s.classField .pLim))
      | none => l.torque) →
    ramped = rampToward (s.classField .rampStep) l.ramped (roundDiv (s2 * factor) 1024) →
    e = ramped - inp.speed →
    ff = signOf ramped * curveLookup s.selector.curveTable (match g with | .g1 => 1 | .g2 => 2)
      (mag ramped) →
    next = clampMag (s.classField .iMax) (l.integ + roundDiv (s.classField .ki * e) 256) →
    raw = ff + roundDiv (s.classField .kp * e) 256 + next →
    (l.state = .opened → computeStages g inp s = setRequested (.valve g) ff (s.onLoop g fun y =>
      { y with torque := factor, ramped := ramped, integ := 0, sat := false })) ∧
    (l.state ≠ .opened → computeStages g inp s =
      setRequested (.valve g) (clampMag 1000 raw) (s.onLoop g fun y =>
        { y with torque := factor, ramped := ramped
                 integ := if (raw < -1000 ∨ 1000 < raw) ∧ e ≠ 0 ∧ signOf e = signOf raw then
                     l.integ
                   else next
                 sat := decide (raw < -1000 ∨ 1000 < raw) }))

/-- R43, R44, R27: the stall test of a loop in RUN or HELD counts a stall update, and the one that
reaches the stall count starts the UNJAM sequence and holds a partner in RUN. R44, R45, R32: a phase
counts up to its length, REVERSE gives way to FORWARD, FORWARD to REVERSE with one more attempt, and
the last FORWARD latches JAM_g, which stops the partner. R46, R27: the recovery test of FORWARD counts
the updates that meet it, and the one that reaches the recover updates takes the loop to RUN, or to HELD
with a HELD cause, and releases a partner in HELD that no other cause holds. The sign of a target of 0
or of a speed of 0 in that test is the model's reading (assumption 11). -/
def Obligations.StallAndUnjam : Prop :=
  (∀ (g : Gear) (inp : DriveInputs) (s : State), (s.loopOf g).state ∈ [LoopState.run, .held] →
    (inp.load = none → stallTest g inp s = s) ∧
    (∀ p, inp.load = some p → (mag (s.loopOf g).ramped < 200 ∨
        s.classField .stallSpeed ≤ mag inp.speed ∨ p < s.classField .pStall) →
      stallTest g inp s = s.onLoop g fun l => { l with stallCount := 0 }) ∧
    ∀ p, inp.load = some p → 200 ≤ mag (s.loopOf g).ramped →
      mag inp.speed < s.classField .stallSpeed → s.classField .pStall ≤ p →
      (((s.loopOf g).stallCount : Int) + 1 < s.classField .stallCount →
        stallTest g inp s = s.onLoop g fun l => { l with stallCount := l.stallCount + 1 }) ∧
      (s.classField .stallCount ≤ ((s.loopOf g).stallCount : Int) + 1 →
        (stallTest g inp s).loopOf g =
          { s.loopOf g with state := .unjam, phase := .reverse, phaseCount := 0
                            phaseLength := (s.classField .tRev).toNat, attempts := 0
                            recoverCount := 0, integ := 0, ramped := 0, stallCount := 0 } ∧
        (stallTest g inp s).loopOf g.partner =
          (if (s.loopOf g.partner).state = .run then { s.loopOf g.partner with state := .held }
            else s.loopOf g.partner) ∧
        (stallTest g inp s).slurry.feed = 0)) ∧
  (∀ (g : Gear) (inp : DriveInputs) (s : State) (met : Prop), (s.loopOf g).state = .unjam →
    (met ↔ inp.health = .ok ∧
      signOf inp.speed = signOf (signOf inp.base * s.classField .unjamSpeed) ∧
      s.classField .recoverSpeed ≤ mag inp.speed) →
    ((s.loopOf g).phase = .reverse → unjamEnd g inp s = advancePhase g s) ∧
    ((s.loopOf g).phase = .forward →
      (¬ met → unjamEnd g inp s =
        advancePhase g (s.onLoop g fun l => { l with recoverCount := 0 })) ∧
      (met → ((s.loopOf g).recoverCount : Int) + 1 < s.classField .recoverUpdates →
        unjamEnd g inp s =
          advancePhase g (s.onLoop g fun l => { l with recoverCount := l.recoverCount + 1 })) ∧
      (met → s.classField .recoverUpdates ≤ ((s.loopOf g).recoverCount : Int) + 1 →
        (unjamEnd g inp s).loopOf g =
          { s.loopOf g with
            state := if (s.loopOf g.partner).state = .unjam ∨ s.orders.link = .warn then .held
              else .run
            integ := 0, stallCount := 0, phase := .none, phaseCount := 0, attempts := 0
            recoverCount := 0 } ∧
        (unjamEnd g inp s).loopOf g.partner =
          (if (s.loopOf g.partner).state = .held ∧ s.orders.link ≠ .warn then
            { s.loopOf g.partner with state := .run } else s.loopOf g.partner) ∧
        (unjamEnd g inp s).slurry =
          { s.slurry with feed := (unjamEnd g inp s).feedLimit } ∧
        (unjamEnd g inp s).lanes = s.lanes ∧ (unjamEnd g inp s).path = s.path ∧
        (unjamEnd g inp s).orders = s.orders ∧ (unjamEnd g inp s).drive.base = s.drive.base))) ∧
  ∀ (g : Gear) (s : State), (s.loopOf g).state = .unjam →
    ((s.loopOf g).phaseCount + 1 < (s.loopOf g).phaseLength →
      advancePhase g s = s.onLoop g fun l => { l with phaseCount := l.phaseCount + 1 }) ∧
    ((s.loopOf g).phaseLength ≤ (s.loopOf g).phaseCount + 1 → (s.loopOf g).phase = .reverse →
      advancePhase g s = s.onLoop g fun l =>
        { l with phase := .forward, phaseCount := 0, phaseLength := (s.classField .tFwd).toNat
                 recoverCount := 0, integ := 0, ramped := 0 }) ∧
    ((s.loopOf g).phaseLength ≤ (s.loopOf g).phaseCount + 1 → (s.loopOf g).phase = .forward →
      ((s.loopOf g).attempts : Int) + 1 < s.classField .unjamAttempts →
      advancePhase g s = s.onLoop g fun l =>
        { l with phase := .reverse, phaseCount := 0, phaseLength := (s.classField .tRev).toNat
                 recoverCount := 0, integ := 0, ramped := 0, attempts := l.attempts + 1 }) ∧
    ((s.loopOf g).phaseLength ≤ (s.loopOf g).phaseCount + 1 → (s.loopOf g).phase = .forward →
      s.classField .unjamAttempts ≤ ((s.loopOf g).attempts : Int) + 1 →
      (advancePhase g s).latched (.jam g) = true ∧
        ((advancePhase g s).loopOf g).state = .tripped ∧
        ((advancePhase g s).loopOf g).phase = .none ∧
        ((advancePhase g s).loopOf g).integ = 0 ∧ ((advancePhase g s).loopOf g).ramped = 0 ∧
        ((advancePhase g s).demand (.valve g)).requested = 0 ∧
        ((advancePhase g s).loopOf g.partner).state = s.stopOutcome g.partner)

/-- R38, R39, R41: the torque factor lies from F_min to 1024 and is 1024 up to P_lim; the ramp moves
toward its target by at most one step and never past it; the integrator stays within ±I_max, and
unless it is kept it comes there from any value; the opening lies within ±1000, and the integrator is kept while the opening is at its upper end with a
positive error driving it. -/
def Obligations.DriveStagesAreBounded : Prop :=
  (∀ pLim pMax fMin p : Int, pLim < pMax → fMin ≤ 1024 →
    fMin ≤ torqueFactor pLim pMax fMin p ∧ torqueFactor pLim pMax fMin p ≤ 1024 ∧
      (p ≤ pLim → torqueFactor pLim pMax fMin p = 1024) ∧
      (pMax ≤ p → 0 ≤ fMin → torqueFactor pLim pMax fMin p = fMin)) ∧
  (∀ step current target : Int, 0 ≤ step →
    mag (rampToward step current target - current) ≤ step ∧
      (mag (target - current) ≤ step → rampToward step current target = target) ∧
      (current ≤ target →
        current ≤ rampToward step current target ∧ rampToward step current target ≤ target) ∧
      (target ≤ current →
        target ≤ rampToward step current target ∧ rampToward step current target ≤ current)) ∧
  (∀ kp ki iMax integ ff e : Int, 0 ≤ iMax →
    mag (piStage kp ki iMax integ ff e).integ ≤ iMax ∨
      ((piStage kp ki iMax integ ff e).integ = integ ∧
        (piStage kp ki iMax integ ff e).sat = true)) ∧
  ∀ kp ki iMax integ ff e : Int, 0 ≤ iMax → mag integ ≤ iMax →
    mag (piStage kp ki iMax integ ff e).integ ≤ iMax ∧
      mag (piStage kp ki iMax integ ff e).opening ≤ 1000 ∧
      ((piStage kp ki iMax integ ff e).sat = false →
        (piStage kp ki iMax integ ff e).integ = clampMag iMax (integ + roundDiv (ki * e) 256) ∧
        (piStage kp ki iMax integ ff e).opening =
          ff + roundDiv (kp * e) 256 + clampMag iMax (integ + roundDiv (ki * e) 256)) ∧
      (0 < e → (piStage kp ki iMax integ ff e).sat = true →
        (piStage kp ki iMax integ ff e).opening = 1000 →
        (piStage kp ki iMax integ ff e).integ = integ)

/-- R61: a lookup on a curve whose x rise strictly gives y0 before the curve, y8 from its end on, the
point's y at a point, and otherwise the rounded interpolation between the two points around the
input; the result lies between their y. -/
def Obligations.CurveLookupInterpolates : Prop :=
  ∀ (table : List Word) (c : Nat) (x : Int), curveTableOk table → c < 5 → 0 ≤ x →
    0 ≤ curveLookup table (c + 1) x ∧ curveLookup table (c + 1) x ≤ 1000 ∧
    (x < curveX table (c + 1) 0 → curveLookup table (c + 1) x = curveY table (c + 1) 0) ∧
    (curveX table (c + 1) 8 ≤ x → curveLookup table (c + 1) x = curveY table (c + 1) 8) ∧
    ∀ i < 8, curveX table (c + 1) i ≤ x → x < curveX table (c + 1) (i + 1) →
      curveLookup table (c + 1) x = curveY table (c + 1) i +
        roundDiv ((x - curveX table (c + 1) i) *
            (curveY table (c + 1) (i + 1) - curveY table (c + 1) i))
          (curveX table (c + 1) (i + 1) - curveX table (c + 1) i) ∧
      min (curveY table (c + 1) i) (curveY table (c + 1) (i + 1)) ≤ curveLookup table (c + 1) x ∧
      curveLookup table (c + 1) x ≤ max (curveY table (c + 1) i) (curveY table (c + 1) (i + 1)) ∧
      (x = curveX table (c + 1) i → curveLookup table (c + 1) x = curveY table (c + 1) i)

/-- R23, R48, R109, R111: DRIVE_START answers with the first refusal that applies and then changes
nothing but the order link; taken, it arms both loops, keeps the base target, restarts the hold-delay
timer and ends an agitation: from BURST in a seeded entry into RUN at U_circ, and from REST in FLUSH at
U_circ, with the flush time on the phase timer. A phase of none, which cannot be, is taken as REST
(assumption 14). -/
def Obligations.DriveStartArmsBothLoops : Prop :=
  ∀ (dt : Nat) (s u : State), s.takesOrders → u = s.afterLink dt →
    (driveStartTrips.any u.latched = true →
      exec (.driveStart dt []) s = .next (replyOrder 2 .tripped u)) ∧
    (driveStartTrips.any u.latched = false → (u.laneOf .drive).state ≠ .up →
      exec (.driveStart dt []) s = .next (replyOrder 2 .noLane u)) ∧
    (driveStartTrips.any u.latched = false → (u.laneOf .drive).state = .up →
      ((u.loopOf .g1).state ≠ .stopped ∨ (u.loopOf .g2).state ≠ .stopped) →
      exec (.driveStart dt []) s = .next (replyOrder 2 .busy u)) ∧
    (driveStartTrips.any u.latched = false → (u.laneOf .drive).state = .up →
      (u.loopOf .g1).state = .stopped → (u.loopOf .g2).state = .stopped →
      ∃ v, exec (.driveStart dt []) s = .next (replyOrder 2 .ok v) ∧
        (∀ h, v.loopOf h = { u.loopOf h with state := .armed }) ∧
        v.drive.base = u.drive.base ∧ v.slurry = u.slurryAfterDeparture ∧
        (v.demand .pump).requested = u.pumpAfterDeparture ∧
        (v.demand .pump).owner = (if u.slurry.state = .agitate ∧ u.slurry.phase = .burst then .loop
          else (u.demand .pump).owner) ∧
        v.pickup = u.pickup ∧ v.selector = u.selector ∧ v.survey = u.survey ∧
        v.steering = u.steering ∧ v.orders = u.orders ∧ v.settings = u.settings)

/-- R25, R29: DRIVE_STOP is always taken: ARMED goes to STOPPED, a running loop to STOPPING with its
ramped target and integrator kept and its unjam state dropped, or at once to STOPPED with its pickup
in FAULT, and every other loop is left as it is. -/
def Obligations.DriveStopStopsLoops : Prop :=
  ∀ (dt : Nat) (s u : State), s.takesOrders → u = s.afterLink dt →
    ∃ v, exec (.driveStop dt []) s = .next (replyOrder 3 .ok v) ∧
      (∀ h, (v.loopOf h).state = u.stopOutcome h ∧
        ((u.loopOf h).state.running = true → (u.pickupOf h).health = .ok →
          v.loopOf h =
            { u.loopOf h with state := .stopping, phase := .none, phaseCount := 0, attempts := 0
                              recoverCount := 0, stallCount := 0 }) ∧
        ((u.loopOf h).state ∈ [LoopState.stopped, .stopping, .manual, .tripped] →
          v.loopOf h = u.loopOf h)) ∧
      v.drive.base = u.drive.base ∧ v.slurry.state = u.slurry.state ∧ v.pickup = u.pickup ∧
      v.selector = u.selector ∧ v.survey = u.survey ∧ v.steering = u.steering ∧
      v.orders = u.orders ∧ v.settings = u.settings

/-- R26, R56: SPEED holds its argument clamped to ±4000 as the base target, and CLASS its argument
clamped to 0 to 7 as the operator class; each is answered OK, and apart from the REPLY nothing else
changes. -/
def Obligations.SpeedAndClassOrders : Prop :=
  ∀ (dt : Nat) (w : Word) (s u : State), s.takesOrders → u = s.afterLink dt →
    exec (.speed dt [w]) s = .next (replyOrder 4 .ok
      { u with drive := { u.drive with base := clamp (-4000) 4000 w.toInt } }) ∧
    exec (.setClass dt [w]) s = .next (replyOrder 5 .ok
      { u with selector := { u.selector with operatorClass := (clamp 0 7 w.toInt).toNat } })

/-- R30: MODE naming a gearbox takes a loop from STOPPED to MANUAL and from MANUAL to STOPPED, with
its valve channel handed over, and refuses the rest as the table gives. R109, R111, R116: the departure
from STOPPED restarts the hold-delay timer and ends an agitation, as at a DRIVE_START; the return to
STOPPED restarts it once both loops stand there; and the feed limit is 0. The requested value of 0 at
the entry into MANUAL is the model's reading (assumption 19), and a phase of none in AGITATE, which
cannot be, is taken as REST (assumption 14). -/
def Obligations.ModeGearboxTable : Prop :=
  ∀ (dt : Nat) (g : Gear) (w : Word) (s u : State), s.takesOrders → u = s.afterLink dt →
    (w.toInt ≠ 1 → w.toInt ≠ 2 →
      exec (.modeGearbox dt g [w]) s = .next (replyOrder 6 .badArg u)) ∧
    (w.toInt = 2 → (u.loopOf g).state = .manual →
      exec (.modeGearbox dt g [w]) s = .next (replyOrder 6 .ok u)) ∧
    (w.toInt = 2 → (u.loopOf g).state ≠ .manual → (u.loopOf g).state ≠ .stopped →
      exec (.modeGearbox dt g [w]) s = .next (replyOrder 6 .busy u)) ∧
    (w.toInt = 1 → (u.loopOf g).state ≠ .manual →
      exec (.modeGearbox dt g [w]) s = .next (replyOrder 6 .ok u)) ∧
    (w.toInt = 2 → (u.loopOf g).state = .stopped →
      ∃ v, exec (.modeGearbox dt g [w]) s = .next (replyOrder 6 .ok v) ∧
        v.loopOf g = { u.loopOf g with state := .manual } ∧
        v.loopOf g.partner = u.loopOf g.partner ∧ (v.demand (.valve g)).owner = .operator ∧
        (v.demand (.valve g)).requested = 0 ∧ v.slurry = u.slurryAfterDeparture ∧
        (v.demand .pump).requested = u.pumpAfterDeparture ∧
        (v.demand .pump).owner = (if u.slurry.state = .agitate ∧ u.slurry.phase = .burst then .loop
          else (u.demand .pump).owner) ∧
        v.drive.base = u.drive.base ∧ v.pickup = u.pickup ∧ v.selector = u.selector ∧
        v.survey = u.survey ∧ v.steering = u.steering ∧ v.orders = u.orders ∧
        v.settings = u.settings) ∧
    (w.toInt = 1 → (u.loopOf g).state = .manual →
      ∃ v, exec (.modeGearbox dt g [w]) s = .next (replyOrder 6 .ok v) ∧
        (v.loopOf g).state = .stopped ∧ (v.loopOf g).ramped = 0 ∧ (v.loopOf g).integ = 0 ∧
        v.loopOf g.partner = u.loopOf g.partner ∧ (v.demand (.valve g)).owner = .loop ∧
        (v.demand (.valve g)).requested = 0 ∧
        v.slurry = { u.slurry with
          feed := 0
          holdDelay := if (u.loopOf g.partner).state = .stopped then
              .running ((u.setting .holdDelay).toNat * 1000000) u.now
            else u.slurry.holdDelay } ∧
        (v.demand .pump).requested = (u.demand .pump).requested ∧
        (v.demand .pump).owner = (u.demand .pump).owner ∧ v.drive.base = u.drive.base ∧
        v.pickup = u.pickup ∧ v.selector = u.selector ∧ v.survey = u.survey ∧
        v.steering = u.steering ∧ v.orders = u.orders ∧ v.settings = u.settings)

/-- R31, R32, R155: at a DRIVE sample each loop that is neither in STOPPED nor in TRIPPED counts a
pressure at or above P_trip, and is set back by one below it. A loop whose count reaches 5 latches its
OVERPRESSURE and trips, and its partner is stopped; where both reach 5 at one sample, both kinds end
latched and both loops in TRIPPED, and either latch may have made the record (a free value,
assumption 4). -/
def Obligations.OverpressureTripsAtFive : Prop :=
  ∀ (s t : State) (count : Gear → Nat) (trips : Gear → Prop), t = overpressureTest s →
    (∀ g, ((s.loopOf g).state ∈ [LoopState.stopped, .tripped] → count g = (s.loopOf g).overCount) ∧
      ((s.loopOf g).state ∉ [LoopState.stopped, .tripped] →
        (s.pressure g = none → count g = (s.loopOf g).overCount) ∧
        ∀ p, s.pressure g = some p →
          (p < s.classField .pTrip → count g = 0) ∧
          (s.classField .pTrip ≤ p → count g = (s.loopOf g).overCount + 1))) →
    (∀ g, trips g ↔ (s.loopOf g).state ∉ [LoopState.stopped, .tripped] ∧ 5 ≤ count g ∧
      ∃ p, s.pressure g = some p ∧ s.classField .pTrip ≤ p) →
    (t.pickup = s.pickup ∧ t.selector = s.selector ∧ t.survey = s.survey ∧
      t.steering = s.steering ∧ t.settings = s.settings ∧ t.drive.base = s.drive.base ∧
      t.orders.link = s.orders.link) ∧
    ((∀ g, ¬ trips g) →
      (∀ g, t.loopOf g = { s.loopOf g with overCount := count g }) ∧
        t = { s with drive := t.drive }) ∧
    (∀ g, trips g → (t.loopOf g).state = .tripped ∧ (t.loopOf g).overCount = 0 ∧
      (t.loopOf g).integ = 0 ∧ (t.loopOf g).ramped = 0 ∧ (t.demand (.valve g)).requested = 0 ∧
      t.latched (.overpressure g) = true ∧ t.slurry.feed = 0 ∧
      (s.orders.trips ≠ [] → t.orders.record = s.orders.record)) ∧
    (∀ g, trips g → ¬ trips g.partner →
      (t.loopOf g.partner).state = s.stopOutcome g.partner ∧
      (s.stopOutcome g.partner ≠ .stopped → (t.loopOf g.partner).overCount = count g.partner) ∧
      (∀ k, t.latched k = true ↔ k = .overpressure g ∨ s.latched k = true) ∧
      (s.orders.trips = [] → ∃ r, t.orders.record = some r ∧ r.kind = .overpressure g) ∧
      t.slurry.state = s.slurry.state) ∧
    (trips .g1 → trips .g2 →
      (∀ k, t.latched k = true ↔
        k = .overpressure .g1 ∨ k = .overpressure .g2 ∨ s.latched k = true) ∧
      (s.orders.trips = [] → ∃ g r, t.orders.record = some r ∧ r.kind = .overpressure g))

/-! ## Survey (chapter 4) -/

/-- R66, R67, R68, R72: a DEPTH frame of two items sets the depth and its freshness, has the survey
state evaluated and makes the recording test in SURVEYING, which leaves the rest as it is where no
station is reached; a frame of any other count is discarded; and the freshness timer's expiry makes the
depth stale and pauses the survey. A timer that is not due does not expire (assumption 12). -/
def Obligations.DepthEvents : Prop :=
  ∀ (dt : Nat) (s : State), s.inReset = false →
    (∀ items : List Word, items.length ≠ 2 → exec (.depth dt items) s = .next (s.afterFrame dt)) ∧
    (∀ (hi lo : Word) (v : Survey),
      v = { s.survey with
        depth := min 300000 (hi.toNat * 65536 + lo.toNat), received := true, fresh := true
        timer := .running ((s.setting .depthWindow).toNat * 1000) (s.now + dt) } →
      (s.survey.state = .idle ∨ s.survey.state = .full →
        exec (.depth dt [hi, lo]) s = .next { s.afterFrame dt with survey := v }) ∧
      (s.survey.state = .surveying ∨ s.survey.state = .paused → s.attitudeValid = false →
        exec (.depth dt [hi, lo]) s =
          .next { s.afterFrame dt with survey := { v with state := .paused } }) ∧
      (s.survey.state = .surveying ∨ s.survey.state = .paused → s.attitudeValid = true →
        v.depth < (v.frontier + v.spacing.step) * 250 →
        exec (.depth dt [hi, lo]) s =
          .next { s.afterFrame dt with survey := { v with state := .surveying } }) ∧
      (s.survey.state = .surveying ∨ s.survey.state = .paused → s.attitudeValid = true →
        exec (.depth dt [hi, lo]) s =
          .next { s.afterFrame dt with survey := recordingTest { v with state := .surveying } })) ∧
    (s.survey.timer.due (s.now + dt) = false →
      exec (.depthFreshnessExpiry dt) s = .next (s.elapse dt)) ∧
    (s.survey.timer.due (s.now + dt) = true →
      exec (.depthFreshnessExpiry dt) s = .next { s.elapse dt with
        survey := { s.survey with
          fresh := false, timer := .idle
          state := if s.survey.state = .surveying then .paused else s.survey.state } })

/-- R72, R73, R74, R77: a recording test that reaches one station records it with the crossing means
and the offsets of the accumulators, moves the frontier to it, lets a pending spacing that suits it
take effect, clears the interval, and goes to FULL where no further station fits. A crossing of several
stations at one spacing records as many as the depth and the table allow, each with the crossing means
and its own offsets, and the later ones as interpolated with a count of 0; one that reaches no station
changes nothing. That FULL begins with a cleared interval here is the model's reading of R72 and R75
(assumption 9). -/
def Obligations.RecordingTestRecordsStation : Prop :=
  (∀ (v : Survey) (i : Nat) (m : Means) (spacing : Spacing) (pending : Option Spacing)
      (st : Station),
    v.state = .surveying → i = v.frontier + v.spacing.step → i ≤ 1023 → i * 250 ≤ v.depth →
    (1 ≤ v.count → m = ⟨roundDiv v.sumX v.count, roundDiv v.sumY v.count, roundDiv v.sumR v.count⟩) →
    (v.count = 0 → ∃ old, stationAt v.trajectory v.frontier = some old ∧
      m = ⟨old.meanX, old.meanY, old.meanR⟩) →
    ((spacing, pending) =
      match v.pending with
      | some p => if i % p.step = 0 then (p, none) else (v.spacing, some p)
      | none => (v.spacing, none)) →
    v.depth < (i + spacing.step) * 250 →
    st = { index := i, spacing := v.spacing, interpolated := decide (v.count = 0)
           disagree := v.intervalDisagree, count := v.count
           meanX := m.x, meanY := m.y, meanR := m.r
           offsetX := clamp (-32767) 32767
             (roundDiv (v.accX + (v.spacing.step * 250 : Nat) * m.x) 10000)
           offsetY := clamp (-32767) 32767
             (roundDiv (v.accY + (v.spacing.step * 250 : Nat) * m.y) 10000) } →
    stationAt (recordingTest v).trajectory i = some st ∧
      (∀ j, j ≠ i → stationAt (recordingTest v).trajectory j = stationAt v.trajectory j) ∧
      recordingTest v =
        { v with state := if 1023 < i + spacing.step then .full else .surveying
                 frontier := i, spacing := spacing, pending := pending
                 trajectory := (recordingTest v).trajectory
                 accX := v.accX + (v.spacing.step * 250 : Nat) * m.x
                 accY := v.accY + (v.spacing.step * 250 : Nat) * m.y
                 sumX := 0, sumY := 0, sumR := 0, count := 0, intervalDisagree := false }) ∧
  (∀ v : Survey, v.state ≠ .surveying ∨ v.depth < (v.frontier + v.spacing.step) * 250 →
    recordingTest v = v) ∧
  ∀ (v : Survey) (k step : Nat) (m : Means), v.state = .surveying → step = v.spacing.step →
    v.frontier ≤ 1023 → 1 ≤ k →
    k = min ((v.depth / 250 - v.frontier) / step) ((1023 - v.frontier) / step) →
    (1 ≤ v.count → m = ⟨roundDiv v.sumX v.count, roundDiv v.sumY v.count, roundDiv v.sumR v.count⟩) →
    (v.count = 0 → ∃ old, stationAt v.trajectory v.frontier = some old ∧
      m = ⟨old.meanX, old.meanY, old.meanR⟩) →
    (∀ p, v.pending = some p → ∀ j < k, (v.frontier + (j + 1) * step) % p.step ≠ 0) →
    (∀ j < k, stationAt (recordingTest v).trajectory (v.frontier + (j + 1) * step) = some
      { index := v.frontier + (j + 1) * step, spacing := v.spacing
        interpolated := decide (1 ≤ j ∨ v.count = 0), disagree := v.intervalDisagree
        count := if j = 0 then v.count else 0, meanX := m.x, meanY := m.y, meanR := m.r
        offsetX := clamp (-32767) 32767
          (roundDiv (v.accX + ((j + 1) * (step * 250) : Nat) * m.x) 10000)
        offsetY := clamp (-32767) 32767
          (roundDiv (v.accY + ((j + 1) * (step * 250) : Nat) * m.y) 10000) }) ∧
    (∀ i, (∀ j < k, i ≠ v.frontier + (j + 1) * step) →
      stationAt (recordingTest v).trajectory i = stationAt v.trajectory i) ∧
    recordingTest v =
      { v with state := if 1023 < v.frontier + (k + 1) * step then .full else .surveying
               frontier := v.frontier + k * step
               trajectory := (recordingTest v).trajectory
               accX := v.accX + (k * (step * 250) : Nat) * m.x
               accY := v.accY + (k * (step * 250) : Nat) * m.y
               sumX := 0, sumY := 0, sumR := 0, count := 0, intervalDisagree := false }

/-- R69, R70: PANEL_BEGIN refuses with BUSY or NO_INPUT, or opens a panel at the start station;
PANEL_END closes the panel and keeps its table. -/
def Obligations.PanelOrders : Prop :=
  ∀ (dt : Nat) (s u : State), s.takesOrders → u = s.afterLink dt →
    (u.survey.state ≠ .idle → exec (.panelBegin dt []) s = .next (replyOrder 9 .busy u)) ∧
    (u.survey.state = .idle →
      (u.survey.received = false ∨ u.survey.fresh = false ∨ u.attitudeValid = false) →
      exec (.panelBegin dt []) s = .next (replyOrder 9 .noInput u)) ∧
    (∀ (spacing : Spacing) (b : Nat), u.survey.state = .idle → u.survey.received = true →
      u.survey.fresh = true → u.attitudeValid = true →
      spacing = u.survey.pending.getD u.survey.spacing →
      b = min (u.survey.depth / 250 / spacing.step * spacing.step)
        (1023 / spacing.step * spacing.step) →
      exec (.panelBegin dt []) s = .next (replyOrder 9 .ok { u with
        survey := { u.survey with
          state := if 1023 < b + spacing.step then .full else .surveying
          spacing := spacing, pending := none, frontier := b
          accX := 0, accY := 0, sumX := 0, sumY := 0, sumR := 0, count := 0
          intervalDisagree := false
          trajectory := [{ index := b, spacing := spacing, interpolated := false
                           disagree := u.survey.disagree, count := 1
                           meanX := u.survey.fusedX, meanY := u.survey.fusedY
                           meanR := u.survey.fusedR, offsetX := 0, offsetY := 0 }] } })) ∧
    (u.survey.state = .idle → exec (.panelEnd dt []) s = .next (replyOrder 10 .ok u)) ∧
    (u.survey.state ≠ .idle → exec (.panelEnd dt []) s = .next (replyOrder 10 .ok { u with
      survey := { u.survey with
        state := .idle, sumX := 0, sumY := 0, sumR := 0, count := 0, intervalDisagree := false } }))

/-- R76: SPACING is refused with BAD_ARG where it names no spacing; otherwise it takes effect at once
where a panel is open and the frontier suits the new step, with the recording test in SURVEYING, and
is pending in every other case. -/
def Obligations.SpacingOrder : Prop :=
  ∀ (dt : Nat) (w : Word) (s u : State), s.takesOrders → u = s.afterLink dt →
    (w.toInt ≠ 0 → w.toInt ≠ 1 → w.toInt ≠ 2 →
      exec (.setSpacing dt [w]) s = .next (replyOrder 11 .badArg u)) ∧
    ∀ p : Spacing, w.toInt = (match p with | .normal => 0 | .fine => 1 | .extra => 2) →
      (u.survey.state = .idle ∨
          u.survey.frontier % (match p with | .normal => 4 | .fine => 2 | .extra => 1) ≠ 0 →
        exec (.setSpacing dt [w]) s = .next (replyOrder 11 .ok
          { u with survey := { u.survey with pending := some p } })) ∧
      (u.survey.frontier % (match p with | .normal => 4 | .fine => 2 | .extra => 1) = 0 →
        (u.survey.state = .paused ∨ u.survey.state = .full →
          exec (.setSpacing dt [w]) s = .next (replyOrder 11 .ok
            { u with survey := { u.survey with spacing := p, pending := none } })) ∧
        (u.survey.state = .surveying →
          exec (.setSpacing dt [w]) s = .next (replyOrder 11 .ok
            { u with survey := recordingTest { u.survey with spacing := p, pending := none } })))

/-- R63, R64: how an ATTITUDE sample is compared, how its class changes the runs and the DISAGREE
state, and how each axis is fused. R62, R68, R71: the sample is compared, fused with the DISAGREE state
that the comparison leaves, and taken to the survey state, which pauses without a fresh depth and a
valid attitude and else goes on, with the recording test at a return; and in SURVEYING it is offered to
the open interval, which counts it if all four tests hold. -/
def Obligations.AttitudeComparisonAndFusion : Prop :=
  (∀ (limit : Int) (x : AttitudeItems),
    (compareUnits limit x = .disagreeing ↔
      (∃ a b, x.upperX = some a ∧ x.lowerX = some b ∧ limit < mag (a - b)) ∨
      ∃ a b, x.upperY = some a ∧ x.lowerY = some b ∧ limit < mag (a - b)) ∧
    (compareUnits limit x = .notCompared ↔
      (x.upperX = none ∨ x.lowerX = none) ∧ (x.upperY = none ∨ x.lowerY = none))) ∧
  (∀ v : Survey,
    disagreeAfter .notCompared v = v ∧
    (v.disagree = false → disagreeAfter .agreeing v = { v with disagreeRun := 0 }) ∧
    (v.disagree = false → v.disagreeRun + 1 < 5 →
      disagreeAfter .disagreeing v = { v with disagreeRun := v.disagreeRun + 1 }) ∧
    (v.disagree = false → 5 ≤ v.disagreeRun + 1 →
      disagreeAfter .disagreeing v = { v with disagree := true, disagreeRun := 0, agreeRun := 0 }) ∧
    (v.disagree = true → disagreeAfter .disagreeing v = { v with agreeRun := 0 }) ∧
    (v.disagree = true → v.agreeRun + 1 < 5 →
      disagreeAfter .agreeing v = { v with agreeRun := v.agreeRun + 1 }) ∧
    (v.disagree = true → 5 ≤ v.agreeRun + 1 →
      disagreeAfter .agreeing v = { v with disagree := false, disagreeRun := 0, agreeRun := 0 })) ∧
  (∀ a b : Int, fuseAxis false (some a) (some b) = some ((a + b + 1) / 2) ∧
    fuseAxis true (some a) (some b) = some b ∧
    ∀ d, fuseAxis d (some a) none = some a ∧ fuseAxis d none (some b) = some b ∧
      fuseAxis d none none = none) ∧
  (∀ (x : AttitudeItems) (v : Survey) (fx fy : Option Int),
    fx = fuseAxis v.disagree x.upperX x.lowerX → fy = fuseAxis v.disagree x.upperY x.lowerY →
    ((fx = none ∨ fy = none ∨ x.torsion = none) → fuseSample x v = { v with usable := false }) ∧
    ∀ a b r, fx = some a → fy = some b → x.torsion = some r →
      fuseSample x v = { v with fusedX := a, fusedY := b, fusedR := r, usable := true }) ∧
  (∀ v : Survey,
    (v.state = .surveying → v.usable = true → v.frontier * 250 < v.depth → v.count < 65535 →
      offerToInterval v =
        { v with sumX := v.sumX + v.fusedX, sumY := v.sumY + v.fusedY, sumR := v.sumR + v.fusedR
                 count := v.count + 1
                 intervalDisagree := v.intervalDisagree || v.disagree }) ∧
    (v.state ≠ .surveying ∨ v.usable = false ∨ v.depth ≤ v.frontier * 250 ∨ 65535 ≤ v.count →
      offerToInterval v = v)) ∧
  ∀ (x : AttitudeItems) (s : State) (v : Survey) (goes : Prop),
    v = fuseSample x (disagreeAfter (compareUnits (s.setting .disagreeLimit) x) s.survey) →
    (goes ↔ s.survey.fresh = true ∧ (s.laneOf .attitude).fresh = true ∧ v.usable = true) →
    (s.survey.state = .idle ∨ s.survey.state = .full → attitudeSample x s = { s with survey := v }) ∧
    (s.survey.state = .surveying ∨ s.survey.state = .paused → ¬ goes →
      attitudeSample x s = { s with survey := { v with state := .paused } }) ∧
    (s.survey.state = .surveying → goes →
      attitudeSample x s = { s with survey := offerToInterval v }) ∧
    (s.survey.state = .paused → goes → attitudeSample x s =
      { s with survey := offerToInterval (recordingTest { v with state := .surveying }) })

/-! ## Steering (chapter 5) -/

/-- R83, R84, R86, R89, R94: a steering update in OFF or MANUAL restarts the timer alone; with a HOLD
cause standing, AUTO enters HOLD with its targets kept, HOLD stays, and the plates are regulated to
those targets. A timer that is not due does not expire (assumption 12). -/
def Obligations.SteeringUpdateHolds : Prop :=
  (∀ (dt : Nat) (s : State), s.inReset = false → s.steering.timer.due (s.now + dt) = false →
    exec (.steeringUpdate dt) s = .next (s.elapse dt)) ∧
  ∀ (dt : Nat) (s u : State), s.inReset = false → s.steering.timer.due (s.now + dt) = true →
    u = (s.elapse dt).onSteering (fun x =>
      { x with timer := .running ((s.setting .steerPeriod).toNat * 1000) (s.now + dt) }) →
    (s.steering.state = .off ∨ s.steering.state = .manual →
      exec (.steeringUpdate dt) s = .next u) ∧
    (s.holdCause = true ↔
      s.survey.fresh = false ∨ s.survey.received = false ∨ s.attitudeValid = false ∨
        s.survey.state = .idle ∨ s.survey.state = .paused ∨
        s.survey.depth < s.survey.frontier * 250 ∨ s.latched .orderLost = true) ∧
    (s.steering.state = .auto ∨ s.steering.state = .hold → s.holdCause = true →
      ∃ t, exec (.steeringUpdate dt) s = .next t ∧
        (s.steering.state = .auto → t.steering =
          { u.steering with state := .hold, projX := none, projY := none, trim := 0 }) ∧
        (s.steering.state = .hold → t.steering = u.steering) ∧
        (∀ p, (t.demand (.plate p)).requested = s.openingAsked p (s.steering.targets.get p)) ∧
        t.drive = s.drive ∧ t.survey = s.survey ∧ t.slurry = s.slurry ∧ t.orders = s.orders ∧
        t.selector = s.selector ∧ t.pickup = s.pickup ∧ t.settings = s.settings)

/-- R90 to R97: a steering update in AUTO, or in HOLD with no HOLD cause left, forms the projections,
the plate targets and the computed trim from the frontier station and the live attitude, and asks the
plates for the openings that the regulation gives. -/
def Obligations.SteeringUpdateProjects : Prop :=
  ∀ (dt : Nat) (s : State) (station : Station) (d px py ex ey er y r : Int),
    s.inReset = false → s.steering.timer.due (s.now + dt) = true →
    (s.steering.state = .auto ∨ s.steering.state = .hold) → s.holdCause = false →
    s.frontierStation = some station →
    d = (s.survey.depth : Int) - (s.survey.frontier * 250 : Nat) + s.setting .lookAhead →
    px = clamp (-32767) 32767 (station.offsetX + roundDiv (d * s.survey.fusedX) 10000) →
    py = clamp (-32767) 32767 (station.offsetY + roundDiv (d * s.survey.fusedY) 10000) →
    ex = px - s.setting .targetX → ey = py - s.setting .targetY →
    er = s.survey.fusedR - s.setting .targetR →
    y = curveLookup s.selector.curveTable 3 (mag ey) →
    r = curveLookup s.selector.curveTable 4 (mag er) →
    ∃ t, exec (.steeringUpdate dt) s = .next t ∧
      t.steering =
        { state := .auto
          timer := .running ((s.setting .steerPeriod).toNat * 1000) (s.now + dt)
          projX := some px, projY := some py
          targets :=
            ⟨clamp 0 1000 ((if 0 < ey then y else 0) + (if er < 0 then r else 0)),
              clamp 0 1000 ((if 0 < ey then y else 0) + (if 0 < er then r else 0)),
              clamp 0 1000 ((if ey < 0 then y else 0) + (if 0 < er then r else 0)),
              clamp 0 1000 ((if ey < 0 then y else 0) + (if er < 0 then r else 0))⟩
          trim := signOf ex * clamp 0 (s.setting .trimLimit)
            (curveLookup s.selector.curveTable 5 (mag ex)) } ∧
      (∀ p, (t.demand (.plate p)).requested = s.openingAsked p (t.steering.targets.get p)) ∧
      t.drive = s.drive ∧ t.survey = s.survey ∧ t.slurry = s.slurry ∧ t.orders = s.orders ∧
      t.selector = s.selector ∧ t.pickup = s.pickup ∧ t.settings = s.settings

/-- R85, R86, R89: MODE naming steering, with its refusals in order and the entry effects of the
state that it enters. -/
def Obligations.ModeSteeringTable : Prop :=
  ∀ (dt : Nat) (w : Word) (s u : State), s.takesOrders → u = s.afterLink dt →
    (w.toInt ≠ 0 → w.toInt ≠ 1 → w.toInt ≠ 2 →
      exec (.modeSteering dt [w]) s = .next (replyOrder 6 .badArg u)) ∧
    (w.toInt = 0 → u.steering.state = .off →
      exec (.modeSteering dt [w]) s = .next (replyOrder 6 .ok u)) ∧
    (w.toInt = 1 ∨ w.toInt = 2 →
      (u.latched (.laneTrip .steer) = true →
        exec (.modeSteering dt [w]) s = .next (replyOrder 6 .tripped u)) ∧
      (u.latched (.laneTrip .steer) = false → (u.laneOf .steer).state ≠ .up →
        exec (.modeSteering dt [w]) s = .next (replyOrder 6 .noLane u))) ∧
    (u.latched (.laneTrip .steer) = false → (u.laneOf .steer).state = .up →
      (w.toInt = 1 → u.steering.state = .auto ∨ u.steering.state = .hold →
        exec (.modeSteering dt [w]) s = .next (replyOrder 6 .ok u)) ∧
      (w.toInt = 2 → u.steering.state = .manual →
        exec (.modeSteering dt [w]) s = .next (replyOrder 6 .ok u))) ∧
    ∀ (new : SteerState) (o : Owner),
      ((w.toInt = 0 ∧ u.steering.state ≠ .off ∧ new = .off ∧ o = .loop) ∨
        (u.latched (.laneTrip .steer) = false ∧ (u.laneOf .steer).state = .up ∧
          ((w.toInt = 1 ∧ (u.steering.state = .off ∨ u.steering.state = .manual) ∧
              new = (if u.holdCause then .hold else .auto) ∧ o = .loop) ∨
            (w.toInt = 2 ∧ u.steering.state ≠ .manual ∧ new = .manual ∧ o = .operator)))) →
      ∃ v, exec (.modeSteering dt [w]) s = .next (replyOrder 6 .ok v) ∧
        v.steering = { u.steering with
          state := new, projX := none, projY := none, targets := ⟨0, 0, 0, 0⟩, trim := 0 } ∧
        (∀ p, (v.demand (.plate p)).requested = 0 ∧ (v.demand (.plate p)).owner = o) ∧
        v.drive = u.drive ∧ v.survey = u.survey ∧ v.slurry = u.slurry ∧ v.orders = u.orders ∧
        v.selector = u.selector ∧ v.pickup = u.pickup ∧ v.settings = u.settings

/-! ## Slurry return and production limit (chapter 6) -/

/-- R101, R106, R107, R114, R116: a slurry update in STOPPED or TRIPPED forms the feed limit alone;
in RUN it holds the pump on a stale source or an absent flow, backs off on a low suction until the
suction limit latches SUCTION and trips the loop, and otherwise regulates the flow; in PRIMING it works
the sweep. In RUN and PRIMING without a trip, and in AGITATE, FLUSH and MANUAL, it then forms the cut
factor from a fresh source with both items, and the feed limit. The states that the feed limit is formed
from are the model's reading of R101 and R116 (assumption 10), and that a timer that is not due does not
expire is that of assumption 12. -/
def Obligations.SlurryUpdateRegulates : Prop :=
  (∀ (dt : Nat) (s : State), s.inReset = false → s.slurry.timer.due (s.now + dt) = false →
    exec (.slurryUpdate dt) s = .next (s.elapse dt)) ∧
  (∀ s : State,
    ((s.laneOf .slurry).fresh = false ∨ s.density = none ∨ s.flow = none → formCut s = s) ∧
    ∀ rho q, (s.laneOf .slurry).fresh = true → s.density = some rho → s.flow = some q →
      ∀ byDensity byFlow : Int,
      byDensity =
        cutDensity (s.setting .cutMin) (s.setting .densityLow) (s.setting .densityHigh) rho →
      byFlow = cutFlow (s.setting .cutMin) (s.classField .qSet) q →
      formCut s = s.onSlurry fun x => { x with cut := min byDensity byFlow }) ∧
  ∀ (dt : Nat) (s u : State), s.inReset = false → s.slurry.timer.due (s.now + dt) = true →
    u = (s.elapse dt).onSlurry (fun x =>
      { x with timer := .running ((s.setting .slurryPeriod).toNat * 1000) (s.now + dt) }) →
    (s.slurry.state = .stopped ∨ s.slurry.state = .tripped →
      exec (.slurryUpdate dt) s = .next (u.onSlurry fun x => { x with feed := u.feedLimit })) ∧
    (s.slurry.state ∈ [SlurryState.agitate, .flush, .manual] →
      exec (.slurryUpdate dt) s =
        .next ((formCut u).onSlurry fun x => { x with feed := (formCut u).feedLimit })) ∧
    (s.slurry.state = .priming → ∀ v, v = primingWork u →
      (v.slurry.state = .priming → exec (.slurryUpdate dt) s =
        .next ((formCut v).onSlurry fun x => { x with feed := (formCut v).feedLimit })) ∧
      (v.slurry.state ≠ .priming → v.slurry.state = .tripped ∧ exec (.slurryUpdate dt) s =
        .next (v.onSlurry fun x => { x with feed := v.feedLimit }))) ∧
    (s.slurry.state = .run → (s.laneOf .slurry).fresh = false ∨ s.flow = none →
      exec (.slurryUpdate dt) s = .next (u.onSlurry fun x => { x with feed := u.feedLimit })) ∧
    (∀ (q : Int) (cut : Int), s.slurry.state = .run → (s.laneOf .slurry).fresh = true →
      s.flow = some q →
      cut = (match s.density with
        | some rho =>
          min (cutDensity (s.setting .cutMin) (s.setting .densityLow) (s.setting .densityHigh) rho)
            (cutFlow (s.setting .cutMin) (s.classField .qSet) q)
        | none => s.slurry.cut) →
      (∀ (e next raw : Int), (∀ p, s.suction = some p → s.setting .suctionMin ≤ p) →
        e = s.classField .qSet - q →
        next = clamp 0 1000 (s.slurry.integ + roundDiv (s.setting .flowKi * e) 256) →
        raw = next + roundDiv (s.setting .flowKp * e) 256 →
        ∃ t, exec (.slurryUpdate dt) s = .next t ∧
          t.slurry = { u.slurry with
            output := clamp 0 1000 raw
            integ := if (1000 < raw ∧ 0 < e) ∨ (raw < 0 ∧ e < 0) then s.slurry.integ else next
            suctionCount := 0, cut := cut, feed := t.slurry.feed } ∧
          t.slurry.feed = t.feedLimit ∧ (t.demand .pump).requested = clamp 0 1000 raw ∧
          t.drive = s.drive ∧ t.survey = s.survey ∧ t.steering = s.steering ∧
          t.orders = s.orders ∧ t.selector = s.selector) ∧
      (∀ (p out : Int), s.suction = some p → p < s.setting .suctionMin →
        out = max 0 (s.slurry.output - s.setting .backOffStep) →
        (s.slurry.suctionCount : Int) + 1 < s.setting .suctionLimit →
        ∃ t, exec (.slurryUpdate dt) s = .next t ∧
          t.slurry = { u.slurry with
            output := out, integ := out, suctionCount := s.slurry.suctionCount + 1, cut := cut
            feed := t.slurry.feed } ∧
          t.slurry.feed = t.feedLimit ∧ (t.demand .pump).requested = out ∧
          t.drive = s.drive ∧ t.survey = s.survey ∧ t.steering = s.steering ∧
          t.orders = s.orders ∧ t.selector = s.selector) ∧
      (∀ p, s.suction = some p → p < s.setting .suctionMin →
        s.setting .suctionLimit ≤ (s.slurry.suctionCount : Int) + 1 →
        ∃ t, exec (.slurryUpdate dt) s = .next t ∧
          (∀ k, t.latched k = true ↔ k = .suction ∨ s.latched k = true) ∧
          (s.orders.trips ≠ [] → t.orders.record = s.orders.record) ∧
          (s.orders.trips = [] → ∃ r, t.orders.record = some r ∧ r.kind = .suction) ∧
          t.slurry = { u.slurry with
            state := .tripped, output := 0, integ := 0, detectCount := 0, dwellCount := 0
            suctionCount := 0, phase := .none, phaseTimer := .idle, feed := 0
            holdDelay := t.slurry.holdDelay } ∧
          (t.demand .pump).requested = 0 ∧ (t.demand .pump).owner = .loop ∧
          (∀ g, (t.loopOf g).state = s.stopOutcome g) ∧ t.survey = s.survey ∧
          t.steering = s.steering ∧ t.selector = s.selector ∧ t.pickup = s.pickup)) ∧
    (u.feedLimit =
      if (s.loopOf .g1).state = .run ∧ (s.loopOf .g2).state = .run ∧ s.orders.link = .live then
        roundDiv (s.classField .feedMax * s.slurry.cut *
          min (s.loopOf .g1).torque (s.loopOf .g2).torque) 1048576
      else 0)

/-- R102, R104, R105, R113: a priming dwell counts up to its length; at its end the demand steps up
to at most the prime max, or PRIME_FAIL latches and the loop trips; and two SLURRY samples in a row at
or above Q_prime make the seeded entry into RUN. -/
def Obligations.PrimingSweepAndDetection : Prop :=
  ∀ s : State, s.slurry.state = .priming →
    (s.slurry.dwellCount + 1 < s.slurry.dwellLength →
      primingWork s = s.onSlurry fun x => { x with dwellCount := x.dwellCount + 1 }) ∧
    (∀ out : Int, s.slurry.dwellLength ≤ s.slurry.dwellCount + 1 →
      s.slurry.output < s.setting .primeMax →
      out = min (s.slurry.output + s.setting .primeStep) (s.setting .primeMax) →
      (primingWork s).slurry =
          { s.slurry with output := out, dwellCount := 0
                          dwellLength := (s.setting .primeDwell).toNat } ∧
        ((primingWork s).demand .pump).requested = out ∧ (primingWork s).drive = s.drive) ∧
    (s.slurry.dwellLength ≤ s.slurry.dwellCount + 1 → s.setting .primeMax ≤ s.slurry.output →
      (primingWork s).latched .primeFail = true ∧ (primingWork s).slurry.state = .tripped ∧
        (primingWork s).slurry.output = 0 ∧ (primingWork s).slurry.integ = 0 ∧
        (primingWork s).slurry.cut = s.slurry.cut ∧
        ((primingWork s).demand .pump).requested = 0 ∧
        ∀ g, ((primingWork s).loopOf g).state = s.stopOutcome g) ∧
    ((∀ q, s.flow = some q → q < s.setting .primeFlow) →
      primingSample s = s.onSlurry fun x => { x with detectCount := 0 }) ∧
    ∀ q, s.flow = some q → s.setting .primeFlow ≤ q →
      (s.slurry.detectCount = 0 →
        primingSample s = s.onSlurry fun x => { x with detectCount := 1 }) ∧
      (s.slurry.detectCount = 1 →
        (primingSample s).slurry.state = .run ∧
          (primingSample s).slurry.integ = s.slurry.output ∧
          (primingSample s).slurry.output = s.slurry.output ∧
          (primingSample s).slurry.suctionCount = 0 ∧
          (primingSample s).slurry.detectCount = 0 ∧ (primingSample s).slurry.dwellCount = 0 ∧
          ((primingSample s).demand .pump).requested = s.slurry.output ∧
          ((primingSample s).demand .pump).owner = .loop ∧
          ((s.loopOf .g1).state = .stopped → (s.loopOf .g2).state = .stopped →
            (primingSample s).slurry.holdDelay =
              .running ((s.setting .holdDelay).toNat * 1000000) s.now))

/-- R102, R109, R110, R111: the hold delay's expiry takes a loop in RUN over standing drives into
AGITATE; the phase timer's expiry alternates REST and BURST and ends FLUSH in a seeded entry into
RUN; and each leaves the drive loops, the survey, steering and the orders as they are. A timer that is not
due does not expire (R109; for an idle one assumption 12). -/
def Obligations.AgitationTimers : Prop :=
  ∀ (dt : Nat) (s : State), s.inReset = false →
    (s.slurry.holdDelay.due (s.now + dt) = false →
      exec (.holdDelayExpiry dt) s = .next (s.elapse dt)) ∧
    (s.slurry.phaseTimer.due (s.now + dt) = false →
      exec (.phaseTimerExpiry dt) s = .next (s.elapse dt)) ∧
    (s.slurry.holdDelay.due (s.now + dt) = true →
      (s.slurry.state ≠ .run ∨ (s.loopOf .g1).state ≠ .stopped ∨
          (s.loopOf .g2).state ≠ .stopped →
        exec (.holdDelayExpiry dt) s =
          .next ((s.elapse dt).onSlurry fun x => { x with holdDelay := .idle })) ∧
      (s.slurry.state = .run → (s.loopOf .g1).state = .stopped →
        (s.loopOf .g2).state = .stopped →
        ∃ t, exec (.holdDelayExpiry dt) s = .next t ∧
          t.slurry = { s.slurry with
            state := .agitate, phase := .rest, holdDelay := .idle
            phaseTimer := .running ((s.setting .restTime).toNat * 1000000) (s.now + dt)
            output := s.setting .idleDemand } ∧
          (t.demand .pump).requested = s.setting .idleDemand ∧
          t.drive = s.drive ∧ t.survey = s.survey ∧ t.steering = s.steering ∧
          t.orders = s.orders)) ∧
    (s.slurry.phaseTimer.due (s.now + dt) = true →
      (s.slurry.state = .agitate → s.slurry.phase = .rest →
        ∃ t, exec (.phaseTimerExpiry dt) s = .next t ∧
          t.slurry = { s.slurry with
            phase := .burst, output := s.setting .circDemand
            phaseTimer := .running ((s.setting .burstTime).toNat * 1000000) (s.now + dt) } ∧
          (t.demand .pump).requested = s.setting .circDemand ∧
          t.drive = s.drive ∧ t.survey = s.survey ∧ t.steering = s.steering ∧
          t.orders = s.orders) ∧
      (s.slurry.state = .agitate → s.slurry.phase = .burst →
        ∃ t, exec (.phaseTimerExpiry dt) s = .next t ∧
          t.slurry = { s.slurry with
            phase := .rest, output := s.setting .idleDemand
            phaseTimer := .running ((s.setting .restTime).toNat * 1000000) (s.now + dt) } ∧
          (t.demand .pump).requested = s.setting .idleDemand ∧
          t.drive = s.drive ∧ t.survey = s.survey ∧ t.steering = s.steering ∧
          t.orders = s.orders) ∧
      (s.slurry.state = .flush →
        ∃ t, exec (.phaseTimerExpiry dt) s = .next t ∧
          t.slurry = { s.slurry with
            state := .run, phase := .none, phaseTimer := .idle
            output := s.setting .circDemand, integ := s.setting .circDemand
            suctionCount := 0, detectCount := 0, dwellCount := 0
            holdDelay := if (s.loopOf .g1).state = .stopped ∧ (s.loopOf .g2).state = .stopped
              then .running ((s.setting .holdDelay).toNat * 1000000) (s.now + dt)
              else s.slurry.holdDelay } ∧
          (t.demand .pump).requested = s.setting .circDemand ∧
          (t.demand .pump).owner = .loop ∧ t.drive = s.drive ∧ t.survey = s.survey ∧
          t.steering = s.steering ∧ t.orders = s.orders))

/-- R103, R108: PUMP_START answers with the first refusal that applies, or primes the pump; PUMP_STOP
is refused while a drive loop cuts, and otherwise stops the loop. R102, R109, R112: MODE naming the
pump hands the pump channel to the operator from STOPPED, RUN or AGITATE, takes it back into RUN with
the requested value as the seed, and refuses the rest. -/
def Obligations.PumpOrders : Prop :=
  (∀ (dt : Nat) (s u : State) (tripped : Bool), s.takesOrders → u = s.afterLink dt →
    tripped = (u.latched .primeFail || u.latched .suction || u.latched (.laneTrip .slurry)) →
    (tripped = true → exec (.pumpStart dt []) s = .next (replyOrder 7 .tripped u)) ∧
    (tripped = false → (u.laneOf .slurry).state ≠ .up →
      exec (.pumpStart dt []) s = .next (replyOrder 7 .noLane u)) ∧
    (tripped = false → (u.laneOf .slurry).state = .up → u.slurry.state ≠ .stopped →
      exec (.pumpStart dt []) s = .next (replyOrder 7 .busy u)) ∧
    (tripped = false → (u.laneOf .slurry).state = .up → u.slurry.state = .stopped →
      ∃ v, exec (.pumpStart dt []) s = .next (replyOrder 7 .ok v) ∧
        v.slurry = { u.slurry with
          state := .priming, output := u.setting .primeStart, integ := 0, dwellCount := 0
          dwellLength := (u.setting .primeDwell).toNat, detectCount := 0 } ∧
        (v.demand .pump).requested = u.setting .primeStart ∧ v.drive = u.drive ∧
        v.survey = u.survey ∧ v.steering = u.steering ∧ v.orders = u.orders) ∧
    (u.anyCutting = true → exec (.pumpStop dt []) s = .next (replyOrder 8 .busy u)) ∧
    (u.anyCutting = false → (u.slurry.state = .stopped ∨ u.slurry.state = .tripped) →
      exec (.pumpStop dt []) s = .next (replyOrder 8 .ok u)) ∧
    (u.anyCutting = false → u.slurry.state ≠ .stopped → u.slurry.state ≠ .tripped →
      ∃ v, exec (.pumpStop dt []) s = .next (replyOrder 8 .ok v) ∧
        v.slurry = { u.slurry with
          state := .stopped, output := 0, integ := 0, detectCount := 0, dwellCount := 0
          suctionCount := 0, phase := .none, phaseTimer := .idle } ∧
        (v.demand .pump).requested = 0 ∧ (v.demand .pump).owner = .loop ∧ v.drive = u.drive ∧
        v.survey = u.survey ∧ v.steering = u.steering ∧ v.orders = u.orders)) ∧
  ∀ (dt : Nat) (w : Word) (s u : State), s.takesOrders → u = s.afterLink dt →
    (w.toInt ≠ 1 → w.toInt ≠ 2 → exec (.modePump dt [w]) s = .next (replyOrder 6 .badArg u)) ∧
    (w.toInt = 2 → u.slurry.state = .manual →
      exec (.modePump dt [w]) s = .next (replyOrder 6 .ok u)) ∧
    (w.toInt = 2 → u.slurry.state ∈ [SlurryState.priming, .flush, .tripped] →
      exec (.modePump dt [w]) s = .next (replyOrder 6 .busy u)) ∧
    (w.toInt = 1 → u.slurry.state ≠ .manual →
      exec (.modePump dt [w]) s = .next (replyOrder 6 .ok u)) ∧
    (w.toInt = 2 → u.slurry.state ∈ [SlurryState.stopped, .run, .agitate] →
      ∃ v, exec (.modePump dt [w]) s = .next (replyOrder 6 .ok v) ∧
        v.slurry = { u.slurry with state := .manual, phase := .none, phaseTimer := .idle } ∧
        (v.demand .pump).owner = .operator ∧
        (v.demand .pump).requested = (u.demand .pump).requested ∧ v.drive = u.drive ∧
        v.survey = u.survey ∧ v.steering = u.steering ∧ v.orders = u.orders) ∧
    (w.toInt = 1 → u.slurry.state = .manual → ∀ seed, seed = (u.demand .pump).requested →
      ∃ v, exec (.modePump dt [w]) s = .next (replyOrder 6 .ok v) ∧
        v.slurry = { u.slurry with
          state := .run, phase := .none, phaseTimer := .idle, output := seed, integ := seed
          suctionCount := 0, detectCount := 0, dwellCount := 0
          holdDelay := if (u.loopOf .g1).state = .stopped ∧ (u.loopOf .g2).state = .stopped
            then .running ((u.setting .holdDelay).toNat * 1000000) u.now
            else u.slurry.holdDelay } ∧
        (v.demand .pump).owner = .loop ∧ (v.demand .pump).requested = seed ∧
        v.drive = u.drive ∧ v.survey = u.survey ∧ v.steering = u.steering ∧
        v.orders = u.orders)

/-- R114: each part of the cut factor lies from C_min to 1024, is 1024 where the slurry can carry
more, and never rises with the density nor falls with the flow. -/
def Obligations.CutFactorParts : Prop :=
  ∀ cMin lo hi qSet : Int, 0 ≤ cMin → cMin ≤ 1024 → lo < hi → 0 < qSet →
    (∀ rho, cMin ≤ cutDensity cMin lo hi rho ∧ cutDensity cMin lo hi rho ≤ 1024 ∧
      (rho ≤ lo → cutDensity cMin lo hi rho = 1024) ∧
      (hi ≤ rho → cutDensity cMin lo hi rho = cMin) ∧
      (lo < rho → rho < hi → cutDensity cMin lo hi rho =
        1024 - roundDiv ((1024 - cMin) * (rho - lo)) (hi - lo))) ∧
    (∀ rho rho', rho ≤ rho' → cutDensity cMin lo hi rho' ≤ cutDensity cMin lo hi rho) ∧
    (∀ q, cMin ≤ cutFlow cMin qSet q ∧ cutFlow cMin qSet q ≤ 1024 ∧
      (qSet ≤ q → cutFlow cMin qSet q = 1024) ∧
      (q < qSet → cutFlow cMin qSet q = max cMin (roundDiv (1024 * q) qSet))) ∧
    ∀ q q', q ≤ q' → cutFlow cMin qSet q ≤ cutFlow cMin qSet q'

/-! ## Body lanes and demand images (chapter 7) -/

/-- R120, R123, R124, R139: a valid SAMPLE shows its node alive and is used: its items, absent or
clamped to their ranges, become the latest items, its source becomes fresh, and it counts once in the
decimation counter of its address. R31, R62, R105: it is then worked by the block of its lane, a DRIVE
sample by the overpressure test, an ATTITUDE sample by the survey and a SLURRY sample by the priming
detection; a STEER sample is handed to no block. -/
def Obligations.SampleIsUsed : Prop :=
  ∀ (dt : Nat) (l : Lane) (rx : Reception) (f : Frame) (s u : State) (n c : Nat),
    s.inReset = false → s.path.area.get (.lane l) = .empty → s.classify l (received rx) = .valid f →
    f.kind = kindSample → n = routeWord s.path.route f.src.toNat 1 →
    c = s.path.decimation.getD f.src.toNat 0 →
    u = (laneAlive l (emptyArea (.lane l) (s.elapse dt))).onLane l (fun b =>
      { b with items := List.zipWith
                 (fun r w => if w = 0x8000#16 then none else some (clamp r.lo r.hi w.toInt))
                 (roleRanges l) f.items
               fresh := true
               freshTimer := .running ((s.setting (freshWindow l)).toNat * 1000) (s.now + dt) }) →
    (l = .drive → exec (.sampleArrival dt l rx) s = .next (decimate f (overpressureTest u))) ∧
    (l = .steer → exec (.sampleArrival dt l rx) s = .next (decimate f u)) ∧
    (l = .attitude → exec (.sampleArrival dt l rx) s = .next (decimate f (attitudeSample
      ⟨u.item .attitude 0, u.item .attitude 1, u.item .attitude 2, u.item .attitude 3,
        u.item .attitude 4⟩ u))) ∧
    (l = .slurry → exec (.sampleArrival dt l rx) s = .next (decimate f
      (if s.slurry.state = .priming then primingSample u else u))) ∧
    ∃ t, exec (.sampleArrival dt l rx) s = .next t ∧
      (t.laneOf l).state = .up ∧ (t.laneOf l).badRun = 0 ∧
      (t.laneOf l).silence = .running ((s.setting .laneSilence).toNat * 1000) (s.now + dt) ∧
      (t.laneOf l).fresh = true ∧
      (t.laneOf l).freshTimer =
        .running ((s.setting (freshWindow l)).toNat * 1000) (s.now + dt) ∧
      (t.laneOf l).items = List.zipWith
        (fun r w => if w = 0x8000#16 then none else some (clamp r.lo r.hi w.toInt))
        (roleRanges l) f.items ∧
      t.path.decimation = s.path.decimation.set f.src.toNat
        (if n = 0 then 0 else if c + 1 < n then c + 1 else 0) ∧
      (l = .steer → t.drive = s.drive ∧ t.survey = s.survey ∧ t.steering = s.steering ∧
        t.slurry = s.slurry ∧ t.orders = s.orders)

/-- R119, R122, R138: a misrouted frame changes nothing, and a bad frame counts only in UP, where the
eighth in a row faults the lane, whether its KIND character is SAMPLE or not; a malformed SAMPLE counts as a bad frame does, is not used, and is offered to
decimation. R120: a valid frame restarts the silence timer of a lane in UP, and brings one in WAIT or
FAULT into UP, with its refresh timer started and, on a lane with channels, its DEMAND composed. R138,
R142: a NODE frame is then offered to the upper queue, by its share and the reserve, and a frame of any
other KIND goes no further. That the receive area is empty afterwards is the model's reading
(assumption 15). -/
def Obligations.LaneFrameClasses : Prop :=
  ∀ (dt : Nat) (l : Lane) (rx : Reception) (s u : State) (a : ReceiveArea), s.inReset = false →
    s.path.area.get (.lane l) = .empty → a = received rx →
    u = emptyArea (.lane l) (s.elapse dt) →
    (s.classify l a = .misrouted →
      exec (.laneFrameArrival dt l rx) s = .next u ∧ exec (.sampleArrival dt l rx) s = .next u) ∧
    (∀ counted : State,
      ((s.laneOf l).state ≠ .up → counted = u) →
      ((s.laneOf l).state = .up → (s.laneOf l).badRun + 1 < 8 →
        counted = u.onLane l fun b => { b with badRun := b.badRun + 1 }) →
      ((s.laneOf l).state = .up → 8 ≤ (s.laneOf l).badRun + 1 → counted = faultLane l u) →
      (s.classify l a = .bad →
        exec (.laneFrameArrival dt l rx) s = .next counted ∧
        exec (.sampleArrival dt l rx) s = .next counted) ∧
      ∀ f, s.classify l a = .malformed f →
        exec (.sampleArrival dt l rx) s = .next (decimate f counted)) ∧
    ∀ (f : Frame) (alive : State), s.classify l a = .valid f → f.kind ≠ kindSample →
      alive = laneAlive l u →
      (f.kind ≠ kindNode → exec (.laneFrameArrival dt l rx) s = .next alive) ∧
      (f.kind = kindNode →
        (18 ≤ alive.forwardedWaiting .shaft ∨ alive.path.free.length ≤ 10 →
          exec (.laneFrameArrival dt l rx) s = .next alive) ∧
        ∀ b rest, alive.forwardedWaiting .shaft < 18 → 10 < alive.path.free.length →
          alive.path.free = b :: rest →
          exec (.laneFrameArrival dt l rx) s = .next (alive.onPath fun x =>
            { x with free := rest
                     queue := x.queue.set .shaft
                       (alive.queueOf .shaft ++ [⟨b, .node, f⟩]) })) ∧
      ((s.laneOf l).state = .up → alive = u.onLane l fun b =>
        { b with silence := .running ((s.setting .laneSilence).toNat * 1000) (s.now + dt)
                 badRun := 0 }) ∧
      ((s.laneOf l).state ≠ .up → ∀ (up : State) (demand : Frame),
        up = u.onLane l (fun b =>
          { b with state := .up, badRun := 0
                   silence := .running ((s.setting .laneSilence).toNat * 1000) (s.now + dt)
                   refresh := if laneChannels l = [] then b.refresh
                     else .running ((s.setting .refreshInterval).toNat * 1000) (s.now + dt) }) →
        demand = mkFrame f.src s.ownByte kindDemand
          ((laneChannels l).map fun ch => wordOf (s.composedValue ch)) →
        (laneChannels l = [] → alive = up) ∧
        (laneChannels l ≠ [] →
          (s.demandInTransmission l = true →
            alive = up.onLane l fun b => { b with compose := true }) ∧
          (s.demandInTransmission l = false →
            (∀ k, alive.laneOf k = up.laneOf k) ∧
            (∀ ch, alive.demand ch = { s.demand ch with
              clamped := if ch ∈ laneChannels l then
                  decide ((s.demand ch).requested < s.envelopeMin ch ∨
                    s.envelopeMax ch < (s.demand ch).requested)
                else (s.demand ch).clamped }) ∧
            (s.waiting (.lane l) .demand = true → alive.path.free = s.path.free ∧
              alive.queueOf (.lane l) = (s.queueOf (.lane l)).map fun e =>
                if e.tag = .demand then { e with frame := demand } else e) ∧
            (s.waiting (.lane l) .demand = false → ∀ b rest, s.path.free = b :: rest →
              alive.path.free = rest ∧
              alive.queueOf (.lane l) = s.queueOf (.lane l) ++ [⟨b, .demand, demand⟩]) ∧
            alive.drive = s.drive ∧ alive.survey = s.survey ∧ alive.steering = s.steering ∧
            alive.slurry = s.slurry ∧ alive.orders = s.orders)))

/-- R121, R123, R105: the silence timer's expiry faults the lane; a monitor's expiry makes its source
stale and keeps its items, pauses a survey for the attitude source, and breaks a priming detection
for the slurry source. What a lane's entry into FAULT leaves (R33, R88, R113, R121, R155): the lane's
timers idle and its counts clear, its trip latched, and the loops of the lane moved. A timer that is not
due does not expire (assumption 12). -/
def Obligations.LaneTimersExpire : Prop :=
  (∀ (dt : Nat) (l : Lane) (s u : State), s.inReset = false →
    u = (s.elapse dt).onLane l (fun b => { b with fresh := false, freshTimer := .idle }) →
    ((s.laneOf l).silence.due (s.now + dt) = false →
      exec (.silenceTimerExpiry dt l) s = .next (s.elapse dt)) ∧
    ((s.laneOf l).freshTimer.due (s.now + dt) = false →
      exec (.freshnessExpiry dt l) s = .next (s.elapse dt)) ∧
    ((s.laneOf l).silence.due (s.now + dt) = true →
      exec (.silenceTimerExpiry dt l) s = .next (faultLane l (s.elapse dt))) ∧
    ((s.laneOf l).freshTimer.due (s.now + dt) = true →
      (l = .drive ∨ l = .steer → exec (.freshnessExpiry dt l) s = .next u) ∧
      (l = .attitude → exec (.freshnessExpiry dt l) s = .next { u with
        survey := { s.survey with
          state := if s.survey.state = .surveying then .paused else s.survey.state } }) ∧
      (l = .slurry → exec (.freshnessExpiry dt l) s = .next { u with
        slurry := { s.slurry with
          detectCount := if s.slurry.state = .priming then 0 else s.slurry.detectCount } }))) ∧
  ∀ (l : Lane) (s : State),
    (faultLane l s).laneOf l =
        { s.laneOf l with state := .fault, silence := .idle, badRun := 0, refresh := .idle
                          compose := false } ∧
      (faultLane l s).latched (.laneTrip l) = true ∧
      (faultLane l s).survey = s.survey ∧
      (l = .drive → (faultLane l s).steering = s.steering ∧ ∀ g,
        ((faultLane l s).loopOf g).state =
          if (s.loopOf g).state = .stopped then .stopped else .tripped) ∧
      (l = .steer → (faultLane l s).drive = s.drive ∧ (faultLane l s).slurry = s.slurry ∧
        (faultLane l s).steering.state = .off) ∧
      (l = .attitude → (faultLane l s).drive = s.drive ∧ (faultLane l s).slurry = s.slurry ∧
        (faultLane l s).steering = s.steering) ∧
      (l = .slurry → (faultLane l s).steering = s.steering ∧
        (faultLane l s).slurry.state =
          (if s.slurry.state = .stopped then .stopped else .tripped) ∧
        (s.slurry.state ≠ .stopped → s.slurry.state ≠ .tripped →
          ∀ g, ((faultLane l s).loopOf g).state = s.stopOutcome g))

/-- R126, R127: an operator DEMAND of the right count sets the requested values of the channels that
the operator owns, item by item, and restarts their deadman timers; anything else in it is ignored;
and a deadman timer's expiry sets its channel to 0; one that is not due does not expire (assumption
12). -/
def Obligations.OperatorDemandIsMerged : Prop :=
  (∀ (dt : Nat) (dest : Byte) (items : List Word) (s : State), s.inReset = false →
    (s.nodeLane dest = none →
      exec (.operatorDemand dt dest items) s = .next (s.afterFrame dt)) ∧
    ∀ l, s.nodeLane dest = some l →
      ((laneChannels l = [] ∨ items.length ≠ (laneChannels l).length) →
        exec (.operatorDemand dt dest items) s = .next (s.afterFrame dt)) ∧
      (laneChannels l ≠ [] → items.length = (laneChannels l).length →
        ∃ t, exec (.operatorDemand dt dest items) s = .next t ∧
          (∀ (i : Nat) (ch : Channel) (w : Word), (laneChannels l)[i]? = some ch →
            items[i]? = some w →
            (t.demand ch).owner = (s.demand ch).owner ∧
            ((s.demand ch).owner = .operator → w ≠ 0x8000#16 →
              (t.demand ch).requested = clamp (channelLow ch) 1000 w.toInt ∧
              (t.demand ch).deadman =
                .running ((s.setting .deadmanTime).toNat * 1000) (s.now + dt)) ∧
            ((s.demand ch).owner = .loop ∨ w = 0x8000#16 →
              (t.demand ch).requested = (s.demand ch).requested ∧
              (t.demand ch).deadman = (s.demand ch).deadman)) ∧
          (∀ ch, ch ∉ laneChannels l → t.demand ch = s.demand ch) ∧
          t.drive = s.drive ∧ t.survey = s.survey ∧ t.steering = s.steering ∧
          t.slurry = s.slurry ∧ t.orders = s.orders)) ∧
  (∀ (dt : Nat) (ch : Channel) (s : State), s.inReset = false →
    (s.demand ch).deadman.due (s.now + dt) = false →
      exec (.deadmanExpiry dt ch) s = .next (s.elapse dt)) ∧
  ∀ (dt : Nat) (ch : Channel) (s : State), s.inReset = false →
    (s.demand ch).deadman.due (s.now + dt) = true →
    ∃ t, exec (.deadmanExpiry dt ch) s = .next t ∧ (t.demand ch).requested = 0 ∧
      (t.demand ch).deadman = .idle ∧ (t.demand ch).owner = (s.demand ch).owner ∧
      (∀ other, other ≠ ch → (t.demand other).requested = (s.demand other).requested) ∧
      t.drive = s.drive ∧ t.survey = s.survey ∧ t.steering = s.steering ∧ t.slurry = s.slurry ∧
      t.orders = s.orders

/-- R129, R130: at the expiry of a refresh timer in UP the lane's DEMAND is composed anew, placed
with a fresh buffer or recomposed in its place, or left pending while one is in transmission; each
value steps from the last sent value toward the requested one by the slew, or takes it, and is clamped
to the envelope. R125, R129: a change of a requested value makes a composition due in the same way,
which makes nothing while the lane is not in UP or has no mapped address; a write of the value held
changes nothing. That without a mapped address nothing is left pending either is the model's choice
(assumption 24). A timer that is not due does not expire (assumption 12). -/
def Obligations.RefreshComposesDemand : Prop :=
  (∀ (dt : Nat) (l : Lane) (s : State), s.inReset = false →
    (s.laneOf l).refresh.due (s.now + dt) = false →
      exec (.refreshTimerExpiry dt l) s = .next (s.elapse dt)) ∧
  (∀ (dt : Nat) (l : Lane) (s u : State), s.inReset = false →
    (s.laneOf l).refresh.due (s.now + dt) = true →
    (s.laneOf l).state = .up → laneChannels l ≠ [] →
    u = (s.elapse dt).onLane l (fun b => { b with refresh := .idle }) →
    (s.mappedAddress l = none →
      exec (.refreshTimerExpiry dt l) s = .next ((s.elapse dt).onLane l fun b =>
        { b with refresh :=
          .running ((s.setting .refreshInterval).toNat * 1000) (s.now + dt) })) ∧
    ∀ (a : Nat) (f : Frame), s.mappedAddress l = some a →
      f = mkFrame (BitVec.ofNat 8 a) s.ownByte kindDemand
        ((laneChannels l).map fun ch => wordOf (s.composedValue ch)) →
      (s.demandInTransmission l = true →
        exec (.refreshTimerExpiry dt l) s =
          .next (u.onLane l fun b => { b with compose := true })) ∧
      (s.demandInTransmission l = false →
        (s.waiting (.lane l) .demand = true →
          ∃ t, exec (.refreshTimerExpiry dt l) s = .next t ∧
            t.queueOf (.lane l) = (s.queueOf (.lane l)).map (fun e =>
              if e.tag = .demand then { e with frame := f } else e) ∧
            t.path.free = s.path.free ∧
            (t.laneOf l).refresh =
              .running ((s.setting .refreshInterval).toNat * 1000) (s.now + dt) ∧
            t.drive = s.drive ∧ t.slurry = s.slurry ∧ t.orders = s.orders) ∧
        (s.waiting (.lane l) .demand = false → ∀ b rest, s.path.free = b :: rest →
          ∃ t, exec (.refreshTimerExpiry dt l) s = .next t ∧
            t.queueOf (.lane l) = s.queueOf (.lane l) ++ [⟨b, .demand, f⟩] ∧
            t.path.free = rest ∧
            (t.laneOf l).refresh =
              .running ((s.setting .refreshInterval).toNat * 1000) (s.now + dt) ∧
            (∀ ch ∈ laneChannels l, t.demand ch = { s.demand ch with
              clamped := decide ((s.demand ch).requested < s.envelopeMin ch ∨
                s.envelopeMax ch < (s.demand ch).requested) }) ∧
            t.drive = s.drive ∧ t.slurry = s.slurry ∧ t.orders = s.orders))) ∧
  (∀ (s : State) (ch : Channel) (v : Int),
    ((s.demand ch).requested = v → setRequested ch v s = s) ∧
    ∀ (l : Lane) (u : State), (s.demand ch).requested ≠ v → l = channelLane ch →
      u = s.onDemand ch (fun d => { d with requested := v }) →
      ((s.laneOf l).state ≠ .up ∨ s.mappedAddress l = none → setRequested ch v s = u) ∧
      ∀ (a : Nat) (f : Frame) (sent : State), (s.laneOf l).state = .up →
        s.mappedAddress l = some a →
        f = mkFrame (BitVec.ofNat 8 a) s.ownByte kindDemand
          ((laneChannels l).map fun c => wordOf (u.composedValue c)) →
        sent = setRequested ch v s →
        (s.demandInTransmission l = true →
          sent = u.onLane l fun b => { b with compose := true }) ∧
        (s.demandInTransmission l = false →
          (s.waiting (.lane l) .demand = true →
            sent.queueOf (.lane l) = (s.queueOf (.lane l)).map (fun e =>
              if e.tag = .demand then { e with frame := f } else e) ∧
            sent.path.free = s.path.free) ∧
          (s.waiting (.lane l) .demand = false → ∀ b rest, s.path.free = b :: rest →
            sent.queueOf (.lane l) = s.queueOf (.lane l) ++ [⟨b, .demand, f⟩] ∧
            sent.path.free = rest) ∧
          (∀ k, sent.laneOf k = if k = l then
              { s.laneOf l with
                refresh := .running ((s.setting .refreshInterval).toNat * 1000) s.now }
            else s.laneOf k) ∧
          (∀ c, sent.demand c = { u.demand c with
            clamped := if c ∈ laneChannels l then
                decide ((u.demand c).requested < s.envelopeMin c ∨
                  s.envelopeMax c < (u.demand c).requested)
              else (s.demand c).clamped }) ∧
          sent.drive = s.drive ∧ sent.survey = s.survey ∧ sent.steering = s.steering ∧
          sent.slurry = s.slurry ∧ sent.orders = s.orders)) ∧
  ∀ (s : State) (ch : Channel), s.envelopeMin ch ≤ s.envelopeMax ch →
    s.envelopeMin ch ≤ s.composedValue ch ∧ s.composedValue ch ≤ s.envelopeMax ch ∧
    (s.envelopeSlew ch ≠ 0 →
      s.envelopeSlew ch < mag ((s.demand ch).requested - (s.demand ch).lastSent) →
      s.composedValue ch = clamp (s.envelopeMin ch) (s.envelopeMax ch)
        (if (s.demand ch).lastSent < (s.demand ch).requested then
          (s.demand ch).lastSent + s.envelopeSlew ch
        else (s.demand ch).lastSent - s.envelopeSlew ch)) ∧
    (s.envelopeSlew ch = 0 ∨
        mag ((s.demand ch).requested - (s.demand ch).lastSent) ≤ s.envelopeSlew ch →
      s.composedValue ch = clamp (s.envelopeMin ch) (s.envelopeMax ch) (s.demand ch).requested) ∧
    (s.envelopeMin ch ≤ (s.demand ch).lastSent → (s.demand ch).lastSent ≤ s.envelopeMax ch →
      s.envelopeSlew ch ≠ 0 →
      mag (s.composedValue ch - (s.demand ch).lastSent) ≤ s.envelopeSlew ch)

/-! ## Frame path (chapter 8) -/

/-- R134, R140, R142: a NODE frame from the shaft link goes to the tail of its lane's queue if the
route entry lets it pass, the lane's share is not full and more than 10 buffers are free; otherwise
it, and any frame that no rule takes, leaves no trace. R139, R142, R143: a SAMPLE that decimation
passes takes the place of the waiting SAMPLE from its node, or goes to the tail of the upper queue
if the share and the reserve allow it, and otherwise leaves only its count. That the receive area is
empty after an arrival is the model's reading (assumption 15). -/
def Obligations.ForwardedFrameIsAdmitted : Prop :=
  (∀ (dt : Nat) (s : State), s.inReset = false →
    (∀ rx, exec (.shaftFrameDiscard dt rx) s = .next (s.afterFrame dt)) ∧
    ∀ f : Frame,
      (s.nodeLane f.dest = none ∨ routeWord s.path.route f.dest.toNat 2 ≠ 1 →
        exec (.nodeDown dt f) s = .next (s.afterFrame dt)) ∧
      ∀ l, s.nodeLane f.dest = some l → routeWord s.path.route f.dest.toNat 2 = 1 →
        (5 ≤ s.forwardedWaiting (.lane l) ∨ s.path.free.length ≤ 10 →
          exec (.nodeDown dt f) s = .next (s.afterFrame dt)) ∧
        ∀ b rest, s.forwardedWaiting (.lane l) < 5 → 10 < s.path.free.length →
          s.path.free = b :: rest →
          exec (.nodeDown dt f) s = .next ((s.afterFrame dt).onPath fun x =>
            { x with free := rest
                     queue := x.queue.set (.lane l) (s.queueOf (.lane l) ++ [⟨b, .node, f⟩]) })) ∧
  ∀ (f : Frame) (s u : State) (n c : Nat), n = routeWord s.path.route f.src.toNat 1 →
    c = s.path.decimation.getD f.src.toNat 0 →
    u = s.onPath (fun x => { x with decimation := x.decimation.set f.src.toNat 0 }) →
    (n = 0 → decimate f s = u) ∧
    (c + 1 < n → decimate f s =
      s.onPath fun x => { x with decimation := x.decimation.set f.src.toNat (c + 1) }) ∧
    (n ≠ 0 → n ≤ c + 1 →
      (∀ e ∈ s.queueOf .shaft, e.sampleFrom f.src = true →
        decimate f s = u.setQueue .shaft ((s.queueOf .shaft).map fun e =>
          if e.sampleFrom f.src then { e with frame := f } else e)) ∧
      ((∀ e ∈ s.queueOf .shaft, e.sampleFrom f.src = false) →
        (18 ≤ s.forwardedWaiting .shaft ∨ s.path.free.length ≤ 10 → decimate f s = u) ∧
        ∀ b rest, s.forwardedWaiting .shaft < 18 → 10 < s.path.free.length →
          s.path.free = b :: rest →
          decimate f s = u.onPath fun x =>
            { x with free := rest
                     queue := x.queue.set .shaft (s.queueOf .shaft ++ [⟨b, .sample, f⟩]) }))

/-- R131, R145, R147: an idle transmitter takes the selected frame out of its queue and holds it; on
the shaft link the arbiter count changes as the table gives, and on a lane a DEMAND gives its values
to the last sent values of the channels. R146, R148: which frame a transmitter selects. R172: the pin of
a port that sends nothing is high, and from its start on a transmission puts the bits of its frame on
the pin, ten to a character time of the port, and then the idle level. That a busy or an empty port does
nothing is the model's reading (assumption 12). -/
def Obligations.TransmissionStarts : Prop :=
  (∀ (dt : Nat) (p : Port) (s : State), s.inReset = false →
    (s.txOf p ≠ none ∨ s.selected p = none →
      exec (.transmissionStart dt p) s = .next (s.elapse dt)) ∧
    ∀ e, s.txOf p = none → s.selected p = some e →
      ∃ t, exec (.transmissionStart dt p) s = .next t ∧
        t.txOf p = some ⟨e, s.now + dt⟩ ∧ t.queueOf p = (s.queueOf p).erase e ∧
        e ∈ s.queueOf p ∧ t.path.free = s.path.free ∧
        (∀ d k, (t.elapse d).txPin p k =
          ((frameChars e.frame).flatMap charBits).getD ((d * 16 + k) / s.bitTicks p) true) ∧
        t.line = s.line ∧
        (p = .shaft → t.lanes = s.lanes ∧ t.path.arbiter =
          (if e.tag.forwarded then 0
            else if (t.queueOf .shaft).any (fun x => x.tag.forwarded) then
              min 3 (s.path.arbiter + 1)
            else 0)) ∧
        (∀ l, p = .lane l → t.path.arbiter = s.path.arbiter ∧
          (e.tag ≠ .demand → t.lanes = s.lanes) ∧
          (e.tag = .demand → ∀ (i : Nat) (ch : Channel) (w : Word),
            (laneChannels l)[i]? = some ch → e.frame.items[i]? = some w →
            t.demand ch = { s.demand ch with lastSent := w.toInt })) ∧
        t.drive = s.drive ∧ t.survey = s.survey ∧ t.steering = s.steering ∧
        t.slurry = s.slurry ∧ t.orders = s.orders) ∧
  (∀ (s : State) (p : Port) (k : Nat), (s.txOf p = none → s.txPin p k = true) ∧
    s.bitTicks p * 10 = s.charMicros p * 16) ∧
  (∀ (s : State) (l : Lane), s.charMicros (.lane l) = 5 ∧
    (s.straps.rate = 0#2 → s.charMicros .shaft = 80) ∧
    (s.straps.rate = 1#2 → s.charMicros .shaft = 40) ∧
    (s.straps.rate = 2#2 → s.charMicros .shaft = 20) ∧
    (s.straps.rate = 3#2 → s.charMicros .shaft = 10)) ∧
  ∀ (s : State) (q : List Queued) (first : (Tag → Bool) → Option Queued),
    (∀ test, first test = q.find? fun e => test e.tag) →
    (q = s.queueOf .shaft →
      (first (· == .urgent) ≠ none → s.selected .shaft = first (· == .urgent)) ∧
      (first (· == .urgent) = none →
        (s.path.arbiter = 3 → first Tag.forwarded ≠ none →
          s.selected .shaft = first Tag.forwarded) ∧
        (s.path.arbiter ≠ 3 ∨ first Tag.forwarded = none →
          (first (· == .reply) ≠ none → s.selected .shaft = first (· == .reply)) ∧
          (first (· == .reply) = none →
            (first (· == .periodic) ≠ none → s.selected .shaft = first (· == .periodic)) ∧
            (first (· == .periodic) = none → s.selected .shaft = first Tag.forwarded))))) ∧
    ∀ l, q = s.queueOf (.lane l) →
      (first (· == .demand) ≠ none → s.selected (.lane l) = first (· == .demand)) ∧
      (first (· == .demand) = none → s.selected (.lane l) = first Tag.forwarded)

/-- R129, R145: a completion, which comes once the characters of the frame and three more character
times have passed and not before, returns the buffer to the tail of the free list, makes a composition
that was pending for the lane's DEMAND, and lets the transmitter select again; the whole frame has then
gone out on the line. That an idle port does nothing, and that the next start comes in the same event,
is the model's reading (assumption 12), and the record of the line is the model's own (assumption
23). -/
def Obligations.TransmissionCompletes : Prop :=
  ∀ (dt : Nat) (p : Port) (s : State), s.inReset = false →
    (s.txOf p = none → exec (.transmissionComplete dt p) s = .next (s.elapse dt)) ∧
    ∀ (x : Transmission) (u : State) (time : Nat), s.txOf p = some x →
      time = (9 + 2 * x.entry.frame.items.length) * s.charMicros p →
      u = { s.elapse dt with
        line := s.line.set p (frameChars x.entry.frame)
        path := { s.path with
          free := s.path.free ++ [x.entry.buffer], tx := s.path.tx.set p none } } →
      (s.now + dt < x.since + time →
        exec (.transmissionComplete dt p) s = .next (s.elapse dt)) ∧
      (x.since + time ≤ s.now + dt →
        (p = .shaft ∨ x.entry.tag ≠ .demand →
          exec (.transmissionComplete dt p) s = exec (.transmissionStart 0 p) u) ∧
        ∀ l, p = .lane l → x.entry.tag = .demand →
          ((s.laneOf l).compose = false →
            exec (.transmissionComplete dt p) s = exec (.transmissionStart 0 p) u) ∧
          ((s.laneOf l).compose = true → (s.laneOf l).state = .up → laneChannels l ≠ [] →
            s.waiting (.lane l) .demand = false → ∀ a, s.mappedAddress l = some a →
            ∃ t e, exec (.transmissionComplete dt p) s = .next t ∧
              t.txOf (.lane l) = some ⟨e, s.now + dt⟩ ∧ e.tag = .demand ∧
              e.frame = mkFrame (BitVec.ofNat 8 a) s.ownByte kindDemand
                ((laneChannels l).map fun ch => wordOf (s.composedValue ch)) ∧
              (t.laneOf l).compose = false ∧ t.queueOf (.lane l) = s.queueOf (.lane l) ∧
              t.line = u.line))

/-! ## Orders, trips and reports (chapter 9) -/

/-- R150, R153: KEEP does to the order link what every ORDER frame does first, and nothing else: LOST
is left alone, LIVE has its timer restarted, DORMANT goes to LIVE, and WARN goes to LIVE and releases
the loops in HELD whose partner is not in UNJAM. -/
def Obligations.KeepOrderLink : Prop :=
  ∀ (dt : Nat) (args : List Word) (s u : State) (timer : Timer), s.inReset = false →
    u = s.afterFrame dt →
    timer = .running ((s.setting .orderPeriod).toNat * 1000) (s.now + dt) →
    exec (.keep dt args) s = .next (s.afterLink dt) ∧
    (s.orders.link = .lost → s.afterLink dt = u) ∧
    (s.orders.link = .live →
      s.afterLink dt = { u with orders := { s.orders with timer := timer } }) ∧
    (s.orders.link = .dormant → s.afterLink dt = { u with
      orders := { s.orders with link := .live, timer := timer }
      slurry := { s.slurry with feed := (s.afterLink dt).feedLimit } }) ∧
    (s.orders.link = .warn →
      (∀ g, (s.afterLink dt).loopOf g =
        if (s.loopOf g).state = .held ∧ (s.loopOf g.partner).state ≠ .unjam then
          { s.loopOf g with state := .run } else s.loopOf g) ∧
      (s.afterLink dt).drive.base = s.drive.base ∧
      s.afterLink dt = { u with
        drive := (s.afterLink dt).drive
        orders := { s.orders with link := .live, timer := timer }
        slurry := { s.slurry with feed := (s.afterLink dt).feedLimit } })

/-- R150, R152, R170: an ORDER frame that finds four REPLY frames waiting moves the order link and
does nothing else; one with no items or an unknown code (ORDER_BAD_CODE), a wrong number of items or
a MODE target that names nothing (MODE_BAD_TARGET) is answered so; and a REPLY takes the buffer at
the head of the free list and goes to the tail of the upper queue with the code and the result. -/
def Obligations.OrderFrameTests : Prop :=
  (∀ (i : Instr) (items : List Word) (s u : State), orderItemsOf i = some items → i.wf = true →
    s.inReset = false → u = s.afterLink i.dt →
    (4 ≤ s.repliesWaiting → exec i s = .next u) ∧
    (s.repliesWaiting < 4 →
      (items = [] → exec i s = .next (reply [0, 1] u)) ∧
      ∀ code args, items = code :: args →
        (code.toNat = 0 ∨ 13 < code.toNat → exec i s = .next (reply [code, 1] u)) ∧
        (2 ≤ code.toNat → code.toNat ≤ 13 → items.length ≠ orderItems code.toNat →
          exec i s = .next (replyOrder code.toNat .badArg u)) ∧
        (code = 6 → (args = [] ∨ ∃ target rest, args = target :: rest ∧
            (target.toNat = 0 ∨ 4 < target.toNat)) →
          exec i s = .next (replyOrder 6 .badArg u)))) ∧
  (∀ (dt : Nat) (items args : List Word) (s u : State), s.takesOrders → u = s.afterLink dt →
    exec (.orderBadCode dt items) s = .next (reply [items.headD 0, 1] u) ∧
    exec (.modeBadTarget dt args) s = .next (replyOrder 6 .badArg u)) ∧
  ∀ (code : Nat) (r : Result) (s : State) (b : Nat) (rest : List Nat), s.path.free = b :: rest →
    replyOrder code r s = s.onPath fun x =>
      { x with
        free := rest
        queue := x.queue.set .shaft (s.queueOf .shaft ++
          [⟨b, .reply, mkFrame 1 s.ownByte kindReply [wordOf code, wordOf r.code]⟩]) }

/-- R34, R87, R153, R154: the order timer's expiry takes LIVE to WARN, which holds the loops in RUN
and sets the feed limit to 0, and takes WARN to LOST with the latch of ORDER_LOST, which stops both
loops and takes steering from AUTO to HOLD. R159, R160: the report timer's expiry restarts it and
sends the periodic REPORT, in the place of the one that waits or with a fresh buffer at the tail of
the upper queue. A timer that runs in DORMANT or LOST, which cannot be, goes idle (the model's
choice, assumption 14), and one that is not due does not expire (assumption 12). -/
def Obligations.OrderAndReportTimersExpire : Prop :=
  (∀ (dt : Nat) (s : State), s.inReset = false →
    (s.orders.timer.due (s.now + dt) = false →
      exec (.orderTimerExpiry dt) s = .next (s.elapse dt)) ∧
    (s.orders.reportTimer.due (s.now + dt) = false →
      exec (.reportTimerExpiry dt) s = .next (s.elapse dt))) ∧
  (∀ (dt : Nat) (s u : State), s.inReset = false → s.orders.timer.due (s.now + dt) = true →
    u = s.elapse dt →
    (s.orders.link = .live →
      ∃ t, exec (.orderTimerExpiry dt) s = .next t ∧
        (∀ g, t.loopOf g =
          if (s.loopOf g).state = .run then { s.loopOf g with state := .held } else s.loopOf g) ∧
        t.drive.base = s.drive.base ∧
        t = { u with
          drive := t.drive
          orders := { s.orders with
            link := .warn
            timer := .running ((s.setting .orderPeriod).toNat * 1000) (s.now + dt) }
          slurry := { s.slurry with feed := 0 } }) ∧
    (s.orders.link = .warn →
      ∃ t, exec (.orderTimerExpiry dt) s = .next t ∧
        t.orders.link = .lost ∧ t.orders.timer = .idle ∧
        t.orders.reportTimer = s.orders.reportTimer ∧
        (∀ k, t.latched k = true ↔ k = .orderLost ∨ s.latched k = true) ∧
        (s.orders.trips ≠ [] → t.orders.record = s.orders.record) ∧
        (s.orders.trips = [] → ∃ r, t.orders.record = some r ∧ r.kind = .orderLost) ∧
        (∀ g, (t.loopOf g).state = s.stopOutcome g) ∧ t.slurry.feed = 0 ∧
        t.slurry.state = s.slurry.state ∧
        t.steering =
          (if s.steering.state = .auto then
            { s.steering with state := .hold, projX := none, projY := none, trim := 0 }
          else s.steering) ∧
        t.drive.base = s.drive.base ∧ t.pickup = s.pickup ∧ t.selector = s.selector ∧
        t.survey = s.survey ∧ t.settings = s.settings) ∧
    (s.orders.link = .dormant ∨ s.orders.link = .lost →
      exec (.orderTimerExpiry dt) s =
        .next { u with orders := { s.orders with timer := .idle } })) ∧
  ∀ (dt : Nat) (s u : State) (f : Frame), s.inReset = false →
    s.orders.reportTimer.due (s.now + dt) = true →
    u = { s.elapse dt with orders := { s.orders with
      reportTimer := .running ((s.setting .reportInterval).toNat * 1000) (s.now + dt) } } →
    f = mkFrame 1 s.ownByte kindReport (u.reportItems false) →
    (s.waiting .shaft .periodic = true →
      exec (.reportTimerExpiry dt) s = .next (u.onPath fun x =>
        { x with queue := x.queue.set .shaft ((s.queueOf .shaft).map fun e =>
          if e.tag = .periodic then { e with frame := f } else e) })) ∧
    (s.waiting .shaft .periodic = false → ∀ b rest, s.path.free = b :: rest →
      exec (.reportTimerExpiry dt) s = .next (u.onPath fun x =>
        { x with free := rest
                 queue := x.queue.set .shaft (s.queueOf .shaft ++ [⟨b, .periodic, f⟩]) }))

/-- R80, R99, R159, R170: a REPORT has 24 items. Its two words of states give back the states that they
pack; items 2 to 20 are the speeds, the ramped targets, the last sent values of the valves, the
pressures, the cut factor, the feed limit, the last sent value of the pump, the slurry items, the
frontier and its offsets, the projections and the torsion, each −32768 where it is absent; each of the
15 flags is one bit of item 21; and the last two items give back the latched kinds and the one of
highest priority. -/
def Obligations.ReportCarriesState : Prop :=
  (∀ (s : State) (urgent : Bool) (item : Option Int → Word) (flag : Nat → Bool),
    s.selector.classInEffect ≤ 7 →
    (∀ x : Int, item (some x) = wordOf x) → item none = 0x8000#16 →
    flag = (fun n => (s.flagWord urgent).testBit n) →
    s.reportItems urgent =
      [ wordOf s.statesWord, wordOf s.lanesWord,
        wordOf (s.measuredSpeed .g1), wordOf (s.measuredSpeed .g2),
        wordOf (s.loopOf .g1).ramped, wordOf (s.loopOf .g2).ramped,
        wordOf (s.demand (.valve .g1)).lastSent, wordOf (s.demand (.valve .g2)).lastSent,
        item (s.item .drive 0), item (s.item .drive 1),
        wordOf s.slurry.cut, wordOf s.slurry.feed, wordOf (s.demand .pump).lastSent,
        item (s.item .slurry 0), item (s.item .slurry 1),
        item (if s.survey.state = .idle then none else some s.survey.frontier),
        item (if s.survey.state = .idle then none
          else (stationAt s.survey.trajectory s.survey.frontier).map Station.offsetX),
        item (if s.survey.state = .idle then none
          else (stationAt s.survey.trajectory s.survey.frontier).map Station.offsetY),
        item s.steering.projX, item s.steering.projY,
        item (if (s.laneOf .attitude).fresh = true ∧ s.survey.usable = true then
          some s.survey.fusedR else none),
        wordOf (s.flagWord urgent), wordOf s.tripWord, wordOf s.highestTrip ] ∧
    s.statesWord < 65536 ∧ s.statesWord % 16 = (s.loopOf .g1).state.code ∧
    s.statesWord / 16 % 16 = (s.loopOf .g2).state.code ∧
    s.statesWord / 256 % 16 = s.slurry.state.code ∧
    s.statesWord / 4096 = s.steering.state.code ∧
    s.lanesWord < 65536 ∧ s.lanesWord % 4 = s.survey.state.code ∧
    s.lanesWord / 4 % 4 = s.orders.link.code ∧
    s.lanesWord / 16 % 4 = (s.laneOf .drive).state.code ∧
    s.lanesWord / 64 % 4 = (s.laneOf .steer).state.code ∧
    s.lanesWord / 256 % 4 = (s.laneOf .attitude).state.code ∧
    s.lanesWord / 1024 % 4 = (s.laneOf .slurry).state.code ∧
    s.lanesWord / 4096 = s.selector.classInEffect ∧
    s.flagWord urgent < 32768 ∧
    flag 0 = decide ((s.pickupOf .g1).health = .fault) ∧
    flag 1 = decide ((s.pickupOf .g2).health = .fault) ∧
    flag 2 = (s.loopOf .g1).sat ∧ flag 3 = (s.loopOf .g2).sat ∧
    flag 4 = s.survey.disagree ∧ flag 5 = s.survey.fresh ∧
    flag 6 = ((s.laneOf .attitude).fresh && s.survey.usable) ∧
    flag 7 = s.survey.pending.isSome ∧ flag 8 = (s.laneOf .drive).fresh ∧
    flag 9 = (s.laneOf .steer).fresh ∧ flag 10 = (s.laneOf .slurry).fresh ∧
    flag 11 = ((s.demand (.valve .g1)).clamped || (s.demand (.valve .g2)).clamped) ∧
    flag 12 = ((s.demand (.plate .p1)).clamped || (s.demand (.plate .p2)).clamped ||
      (s.demand (.plate .p3)).clamped || (s.demand (.plate .p4)).clamped) ∧
    flag 13 = (s.demand .pump).clamped ∧ flag 14 = urgent) ∧
  ∀ s : State, s.tripWord < 2048 ∧ (∀ k, s.tripWord.testBit (k.number - 1) = s.latched k) ∧
    ((∀ k, s.latched k = false) → s.highestTrip = 0) ∧
    (s.tripOrderLaw → ∀ k, s.latched k = true →
      (∀ x, s.latched x = true → k.number ≤ x.number) → s.highestTrip = k.number)

/-- R155, R156, R161: a latch enters its kind; into an empty set it makes the first-trip record from
the state at that moment; and it sends the urgent REPORT as the state then stands, in the place of the
one that waits or at the tail of the upper queue, where the laws of R141 and R144 leave a buffer for
it. The frames that wait above are otherwise kept. -/
def Obligations.LatchRecordsAndReports : Prop :=
  ∀ (k : TripKind) (s : State),
    (∀ x, (latch k s).latched x = true ↔ x = k ∨ s.latched x = true) ∧
    (s.orders.trips ≠ [] → (latch k s).orders.record = s.orders.record) ∧
    (s.orders.trips = [] → (latch k s).orders.record = some
      { kind := k
        depth := if s.survey.received = true then some s.survey.depth else none
        speed1 := s.measuredSpeed .g1, speed2 := s.measuredSpeed .g2
        p1 := s.pressure .g1, p2 := s.pressure .g2, feed := s.slurry.feed
        frontier := if s.survey.state = .idle then none else some s.survey.frontier }) ∧
    (latch k s).orders.link = s.orders.link ∧ (latch k s).orders.timer = s.orders.timer ∧
    (latch k s).survey = s.survey ∧ (latch k s).pickup = s.pickup ∧
    (latch k s).selector = s.selector ∧ (latch k s).settings = s.settings ∧
    (s.waiting .shaft .urgent = true →
      (latch k s).queueOf .shaft = (s.queueOf .shaft).map fun e =>
        if e.tag = .urgent then
          { e with frame := mkFrame 1 s.ownByte kindReport ((latch k s).reportItems true) }
        else e) ∧
    (s.waiting .shaft .urgent = false → s.poolLaw → s.forwardedLaw → s.upperQueueLaw →
      s.ownFrameLaw →
      ∃ b ∈ s.path.free, (latch k s).queueOf .shaft = s.queueOf .shaft ++
        [⟨b, .urgent, mkFrame 1 s.ownByte kindReport ((latch k s).reportItems true)⟩])

/-- R35, R113, R154, R157: TRIP_RESET with a number that names no kind is refused; a kind that is
not latched, or no latched kind for HIGHEST, is answered OK; HIGHEST names the latched kind of the
lowest number; a kind whose cause stands is refused;
any other is removed, with the record once the set is empty, ORDER_LOST takes the link from LOST to
LIVE, and each loop in TRIPPED with none of its own trips left goes to STOPPED. That the move from
LOST to LIVE releases no loop is the model's reading (assumption 20). -/
def Obligations.TripResetOrder : Prop :=
  ∀ (dt : Nat) (w : Word) (s u : State), s.takesOrders → s.orderLostLaw → s.tripOrderLaw →
    u = s.afterLink dt →
    (w.toInt < 0 ∨ 11 < w.toInt →
      exec (.tripReset dt [w]) s = .next (replyOrder 12 .badArg u)) ∧
    (w.toInt = 0 → (∀ k, u.latched k = false) →
      exec (.tripReset dt [w]) s = .next (replyOrder 12 .ok u)) ∧
    ∀ k : TripKind, (w.toInt = (k.number : Int) ∨
        (w.toInt = 0 ∧ u.latched k = true ∧
          ∀ x, u.latched x = true → k.number ≤ x.number)) →
      (u.latched k = false → exec (.tripReset dt [w]) s = .next (replyOrder 12 .ok u)) ∧
      (u.latched k = true →
        ((∃ g p, k = .overpressure g ∧ (u.laneOf .drive).fresh = true ∧ u.pressure g = some p ∧
            u.classField .pTrip ≤ p) ∨
          (∃ l, k = .laneTrip l ∧ (u.laneOf l).state ≠ .up) →
          exec (.tripReset dt [w]) s = .next (replyOrder 12 .causePresent u)) ∧
        ((∀ g p, k = .overpressure g → (u.laneOf .drive).fresh = true → u.pressure g = some p →
            p < u.classField .pTrip) →
          (∀ l, k = .laneTrip l → (u.laneOf l).state = .up) →
          ∃ v, exec (.tripReset dt [w]) s = .next (replyOrder 12 .ok v) ∧
            (∀ x, v.latched x = true ↔ x ≠ k ∧ u.latched x = true) ∧
            v.orders.record = (if v.orders.trips = [] then none else u.orders.record) ∧
            v.orders.reportTimer = u.orders.reportTimer ∧
            (k ≠ .orderLost → v.orders.link = u.orders.link ∧ v.orders.timer = u.orders.timer) ∧
            (k = .orderLost → v.orders.link = .live ∧
              v.orders.timer = .running ((u.setting .orderPeriod).toNat * 1000) u.now) ∧
            (∀ g, (v.loopOf g).state =
              if (u.loopOf g).state = .tripped ∧ v.latched (.jam g) = false ∧
                  v.latched (.overpressure g) = false ∧ v.latched (.laneTrip .drive) = false then
                .stopped
              else (u.loopOf g).state) ∧
            v.slurry.state =
              (if u.slurry.state = .tripped ∧ v.latched .primeFail = false ∧
                  v.latched .suction = false ∧ v.latched (.laneTrip .slurry) = false then .stopped
              else u.slurry.state) ∧
            v.drive.base = u.drive.base ∧ v.pickup = u.pickup ∧ v.selector = u.selector ∧
            v.survey = u.survey ∧ v.steering = u.steering ∧ v.settings = u.settings))

/-! ## Tables (chapter 10) -/

/-- R163, R164, R170: the tests of a TABLE frame in their order, TABLE_BAD_CODE first, with their
answers, and what a TABLE_READ that passes them answers; none of these changes more than the upper
queue and the free list. -/
def Obligations.TableFrameTests : Prop :=
  (∀ (dt : Nat) (items : List Word) (s u : State), s.inReset = false → u = s.afterFrame dt →
    (4 ≤ s.repliesWaiting → exec (.tableBadCode dt items) s = .next u) ∧
    (s.repliesWaiting < 4 → exec (.tableBadCode dt items) s =
      .next (replyTable (items.headD 0) .badCode (items.drop 1) 0 [] u))) ∧
  (∀ (dt : Nat) (write : Bool) (args : List Word) (s u : State) (i : Instr) (c : Word)
      (id start count : Nat), s.inReset = false → u = s.afterFrame dt →
    i = (if write then .tableWrite dt args else .tableRead dt args) →
    c = (if write then 17 else 16) → id = (args.getD 0 0).toNat → start = (args.getD 1 0).toNat →
    count = (args.getD 2 0).toNat →
    (4 ≤ s.repliesWaiting → exec i s = .next u) ∧
    (s.repliesWaiting < 4 →
      (args.length < 3 ∨ count = 0 ∨ 8 < count ∨
          args.length ≠ (if write then 3 + count else 3) →
        exec i s = .next (replyTable c .badArg args 0 [] u)) ∧
      (3 ≤ args.length → 1 ≤ count → count ≤ 8 →
        args.length = (if write then 3 + count else 3) →
        (7 < id → exec i s = .next (replyTable c .badTable args 0 [] u)) ∧
        ∀ tb, tableOf id = some tb →
          (tb.size < start + count → exec i s = .next (replyTable c .badIndex args 0 [] u)) ∧
          (start + count ≤ tb.size →
            (write = true → tb = .trajectory ∨ tb = .identification →
              exec i s = .next (replyTable c .readOnly args 0 [] u)) ∧
            (write = false → ∃ words : List Word,
              exec (.tableRead dt args) s = .next (replyTable c .ok args count words u) ∧ words.length = count ∧
              ∀ k < count, words[k]? = some (u.readWord tb (start + k))))))) ∧
  ∀ (c : Word) (r : Result) (id start count : Word) (more words : List Word) (n : Nat) (s : State)
    (b : Nat) (rest : List Nat), s.path.free = b :: rest →
    replyTable c r (id :: start :: count :: more) n words s = s.onPath fun x =>
      { x with
        free := rest
        queue := x.queue.set .shaft (s.queueOf .shaft ++ [⟨b, .reply,
          mkFrame 1 s.ownByte kindReply
            ([c, wordOf r.code, id, start, wordOf n] ++ words)⟩]) }

/-- R165: a WRITE that passes the tests writes its words in index order up to the first that its
table's rule refuses, each checked against the table as the words before it left it, and answers with
the result of that word, or OK, and the number of words written. -/
def Obligations.TableWriteStopsAtRefusal : Prop :=
  (∀ (dt : Nat) (id start count : Word) (words : List Word) (tb : Table) (s u : State)
      (out : WriteOutcome), s.inReset = false → u = s.afterFrame dt → s.repliesWaiting < 4 →
    1 ≤ count.toNat → count.toNat ≤ 8 → words.length = count.toNat →
    tableOf id.toNat = some tb → start.toNat + count.toNat ≤ tb.size → tb ≠ .trajectory →
    tb ≠ .identification → out = writeWords tb start.toNat 0 words u →
    exec (.tableWrite dt (id :: start :: count :: words)) s =
      .next (replyTable 17 out.result (id :: start :: count :: words) out.written [] out.state)) ∧
  ∀ (tb : Table) (start : Nat) (words : List Word) (s : State) (out : WriteOutcome),
    out = writeWords tb start 0 words s →
    out.written ≤ words.length ∧
    out.state = putWords tb start (words.take out.written) s ∧
    (∀ k < out.written, ∃ w, words[k]? = some w ∧
      (putWords tb start (words.take k) s).checkWord tb (start + k) w = none) ∧
    (out.written = words.length → out.result = .ok) ∧
    (out.written < words.length → ∃ w, words[out.written]? = some w ∧
      out.state.checkWord tb (start + out.written) w = some out.result)

/-- R51, R55, R60, R128, R137, R166: the answers of the checks of a word of the class, band, curve,
envelope, route and settings tables, in the order of their tests. R115, R137: what a written word
changes: the word, and besides it only the decimation counter of an entry whose lane or n is written
and a cut factor below a written C_min. That a write of I_max moves no integrator is the model's
reading (assumption 16). -/
def Obligations.TableWordChecks : Prop :=
  (∀ (s : State) (row field : Nat) (w : Word), field < 21 → row < 8 →
    (row = s.selector.classInEffect → s.anyCutting = true →
      s.checkWord .classes (row * 21 + field) w = some .inUse) ∧
    (row ≠ s.selector.classInEffect ∨ s.anyCutting = false →
      (classRange field w = false →
        s.checkWord .classes (row * 21 + field) w = some .badValue) ∧
      (classRange field w = true →
        s.checkWord .classes (row * 21 + field) w =
          if (field = 6 ∧ classWord s.selector.classTable row 7 ≤ (w.toNat : Int)) ∨
              (field = 7 ∧ ((w.toNat : Int) ≤ classWord s.selector.classTable row 6 ∨
                classWord s.selector.classTable row 9 < (w.toNat : Int))) ∨
              (field = 9 ∧ (w.toNat : Int) < classWord s.selector.classTable row 7) then
            some .badOrder
          else none))) ∧
  (∀ (s : State) (e : Nat) (w : Word), e < 16 →
    (3000 < w.toNat → s.checkWord .bands (e * 3) w = some .badValue ∧
      s.checkWord .bands (e * 3 + 1) w = some .badValue) ∧
    (8 ≤ w.toNat → w.toNat ≤ 65534 → s.checkWord .bands (e * 3 + 2) w = some .badValue) ∧
    ∀ (j : Nat) (band : Nat → Nat → Nat) (valid : Nat → Prop), j < 3 →
      (j ≠ 2 → w.toNat ≤ 3000) → (j = 2 → w.toNat ≤ 7 ∨ w.toNat = 65535) →
      band = bandWord (s.selector.bandTable.set (e * 3 + j) w) →
      valid = (fun i => i < 16 ∧ band i 2 ≤ 7) →
      ((∀ i, valid i → band i 0 < band i 1) →
        (∀ i k, i < k → valid i → valid k → band i 0 < band k 0 ∧ band i 1 ≤ band k 0) →
        s.checkWord .bands (e * 3 + j) w = none) ∧
      (((∃ i, valid i ∧ band i 1 ≤ band i 0) ∨
          ∃ i k, i < k ∧ valid i ∧ valid k ∧ (band k 0 ≤ band i 0 ∨ band k 0 < band i 1)) →
        s.checkWord .bands (e * 3 + j) w = some .badOrder)) ∧
  (∀ (s : State) (c point : Nat) (w : Word), c < 5 → point < 9 →
    s.checkWord .curves (c * 18 + point * 2) w =
      (if (1 ≤ point ∧ (w.toNat : Int) ≤ curveX s.selector.curveTable (c + 1) (point - 1)) ∨
          (point ≤ 7 ∧ curveX s.selector.curveTable (c + 1) (point + 1) ≤ (w.toNat : Int)) then
        some .badOrder else none) ∧
    s.checkWord .curves (c * 18 + point * 2 + 1) w =
      if 1000 < w.toNat then some .badValue else none) ∧
  (∀ (s : State) (ch : Channel) (w : Word),
    s.checkWord .envelope (channelNumber ch * 3) w =
      (if w.toInt < channelLow ch ∨ 1000 < w.toInt then some .badValue
      else if s.envelopeMax ch < w.toInt then some .badOrder else none) ∧
    s.checkWord .envelope (channelNumber ch * 3 + 1) w =
      (if w.toInt < channelLow ch ∨ 1000 < w.toInt then some .badValue
      else if w.toInt < s.envelopeMin ch then some .badOrder else none) ∧
    s.checkWord .envelope (channelNumber ch * 3 + 2) w =
      if 2000 < w.toNat then some .badValue else none) ∧
  (∀ (s : State) (a : Nat) (w : Word), a < 64 →
    s.checkWord .route (a * 3 + 1) w = (if 255 < w.toNat then some .badValue else none) ∧
    s.checkWord .route (a * 3 + 2) w = (if 1 < w.toNat then some .badValue else none) ∧
    (4 < w.toNat ∨ (w ≠ 0 ∧ (a ≤ 1 ∨ a = s.ownAddress)) →
      s.checkWord .route (a * 3) w = some .badValue) ∧
    (1 ≤ w.toNat → w.toNat ≤ 4 → 2 ≤ a → a ≠ s.ownAddress →
      (∃ other < 64, other ≠ a ∧ routeWord s.path.route other 0 = w.toNat) →
      s.checkWord .route (a * 3) w = some .badOrder) ∧
    (w = 0 ∨ (w.toNat ≤ 4 ∧ 2 ≤ a ∧ a ≠ s.ownAddress ∧
        ∀ other < 64, other ≠ a → routeWord s.path.route other 0 ≠ w.toNat) →
      (routeWord s.path.route a 0 = w.toNat → s.checkWord .route (a * 3) w = none) ∧
      (routeWord s.path.route a 0 ≠ w.toNat →
        ((∃ l, s.laneInUse l = true ∧
            (routeWord s.path.route a 0 = laneNumber l ∨ w.toNat = laneNumber l)) →
          s.checkWord .route (a * 3) w = some .inUse) ∧
        ((∀ l, (routeWord s.path.route a 0 = laneNumber l ∨ w.toNat = laneNumber l) →
            s.laneInUse l = false) →
          s.checkWord .route (a * 3) w = none)))) ∧
  (∀ (s : State), (s.laneInUse .drive = true ↔
      ∃ g, (s.loopOf g).state ≠ .stopped ∧ (s.loopOf g).state ≠ .tripped) ∧
    (s.laneInUse .steer = true ↔ s.steering.state ≠ .off) ∧
    (s.laneInUse .attitude = true ↔ s.survey.state ≠ .idle) ∧
    (s.laneInUse .slurry = true ↔ s.slurry.state ≠ .stopped ∧ s.slurry.state ≠ .tripped)) ∧
  (∀ (s : State) (i : Nat) (w : Word), i < 43 →
    (settingRange i (settingNumber i w) = false →
      s.checkWord .settings i w = some .badValue) ∧
    (settingRange i (settingNumber i w) = true → s.checkWord .settings i w =
      if (i = 15 ∧ s.setting .primeMax < (w.toNat : Int)) ∨
          (i = 17 ∧ (w.toNat : Int) < s.setting .primeStart) ∨
          (i = 32 ∧ s.setting .densityHigh ≤ (w.toNat : Int)) ∨
          (i = 33 ∧ (w.toNat : Int) ≤ s.setting .densityLow) then some .badOrder
      else none)) ∧
  ∀ (s : State) (i : Nat) (w : Word),
    putWord .route i w s = s.onPath (fun x =>
      { x with route := x.route.set i w
               decimation := if i % 3 = 2 then x.decimation else x.decimation.set (i / 3) 0 }) ∧
    putWord .envelope i w s = s.onLanes (fun b => { b with envelope := b.envelope.set i w }) ∧
    putWord .bands i w s = s.onSelector (fun x => { x with bandTable := x.bandTable.set i w }) ∧
    putWord .curves i w s = s.onSelector (fun x => { x with curveTable := x.curveTable.set i w }) ∧
    (i ≠ 31 → putWord .settings i w s = { s with settings := s.settings.set i w }) ∧
    (i = 31 → putWord .settings i w s =
      { s with settings := s.settings.set i w
               slurry := { s.slurry with cut := max s.slurry.cut w.toNat } }) ∧
    putWord .classes i w s =
      s.onSelector fun x => { x with classTable := x.classTable.set i w }

/-! ## RESTART and power-on reset (R162, R171) -/

/-- R8, R20, R49, R82, R100, R118, R133, R149, R162: RESTART is refused while a drive loop or the
slurry loop works; taken, it brings every block to its RESTART values, with its tables, its straps, its
receive areas and its survey kept, aborts every transmission after the last whole character sent, and
sends its REPLY and the zero DEMAND frames of the lanes in UP. The length of a phase and of a dwell
before the first one is the model's choice (assumption 7), and how many characters are whole at an abort
is its reading (assumption 23). -/
def Obligations.RestartOrder : Prop :=
  ∀ (dt : Nat) (s u : State), s.takesOrders → s.poolLaw → u = s.afterLink dt →
    ((∃ g, (u.loopOf g).state ≠ .stopped ∧ (u.loopOf g).state ≠ .tripped) ∨
        (u.slurry.state ≠ .stopped ∧ u.slurry.state ≠ .tripped) →
      exec (.restart dt []) s = .next (replyOrder 13 .busy u)) ∧
    ((∀ g, (u.loopOf g).state = .stopped ∨ (u.loopOf g).state = .tripped) →
      (u.slurry.state = .stopped ∨ u.slurry.state = .tripped) →
      ∃ t, exec (.restart dt []) s = .next t ∧
        t.orders =
          { link := .live, timer := .running ((u.setting .orderPeriod).toNat * 1000) u.now
            trips := [], record := none
            reportTimer := .running ((u.setting .reportInterval).toNat * 1000) u.now } ∧
        t.drive.base = 0 ∧
        (∀ g, t.loopOf g =
          .powerOn (.running ((u.setting .drivePeriod).toNat * 1000) u.now)) ∧
        (∀ g, t.pickupOf g = .powerOn (u.pickupOf g).a.raw (u.pickupOf g).b.raw) ∧
        t.steering = .powerOn (.running ((u.setting .steerPeriod).toNat * 1000) u.now) ∧
        t.slurry = .powerOn (.running ((u.setting .slurryPeriod).toNat * 1000) u.now) ∧
        t.survey = { u.survey with
          state := if u.survey.state = .surveying then .paused else u.survey.state
          fresh := false, timer := .idle } ∧
        t.selector = u.selector ∧ t.settings = u.settings ∧ t.straps = u.straps ∧
        t.path.route = u.path.route ∧ t.lanes.envelope = u.lanes.envelope ∧
        t.path.arbiter = 0 ∧ t.path.decimation = List.replicate 64 0 ∧
        t.path.area = u.path.area ∧
        t.inputs = u.inputs ∧
        (∀ p, t.txOf p = none ∧ (∀ k, t.txPin p k = true) ∧
          (u.txOf p = none → t.line.get p = u.line.get p) ∧
          ∀ x, u.txOf p = some x → t.line.get p =
            (frameChars x.entry.frame).take ((u.now - x.since) / u.charMicros p)) ∧
        (t.queueOf .shaft).map (fun e => (e.tag, e.frame)) =
          [(.reply, mkFrame 1 u.ownByte kindReply [13, 0])] ∧
        (∀ l, (t.laneOf l).state = (u.laneOf l).state ∧ (t.laneOf l).items = (u.laneOf l).items ∧
          (t.laneOf l).fresh = false ∧ (t.laneOf l).badRun = 0 ∧ (t.laneOf l).compose = false ∧
          (t.laneOf l).silence = (if (u.laneOf l).state = .up then
            .running ((u.setting .laneSilence).toNat * 1000) u.now else .idle) ∧
          (t.laneOf l).freshTimer = .idle ∧
          (t.laneOf l).refresh = (if (u.laneOf l).state = .up ∧ laneChannels l ≠ [] then
            .running ((u.setting .refreshInterval).toNat * 1000) u.now else .idle)) ∧
        ∀ l, (∀ a, (u.laneOf l).state = .up → laneChannels l ≠ [] →
            u.mappedAddress l = some a →
            (t.queueOf (.lane l)).map (fun e => (e.tag, e.frame)) =
              [(.demand, mkFrame (BitVec.ofNat 8 a) u.ownByte kindDemand
                ((laneChannels l).map fun ch =>
                  wordOf (clamp (u.envelopeMin ch) (u.envelopeMax ch) 0)))] ∧
            ∀ ch ∈ laneChannels l,
              (t.demand ch).lastSent = clamp (u.envelopeMin ch) (u.envelopeMax ch) 0 ∧
              (t.demand ch).clamped = decide (0 < u.envelopeMin ch ∨ u.envelopeMax ch < 0)) ∧
          ((u.laneOf l).state ≠ .up ∨ laneChannels l = [] ∨ u.mappedAddress l = none →
            t.queueOf (.lane l) = [] ∧
            ∀ ch ∈ laneChannels l, (t.demand ch).lastSent = (u.demand ch).lastSent ∧
              (t.demand ch).clamped = false) ∧
          ∀ ch ∈ laneChannels l, (t.demand ch).requested = 0 ∧ (t.demand ch).owner = .loop ∧
            (t.demand ch).deadman = .idle)

/-- R171, R172: the end of power-on reset samples the straps, takes the pickup levels and gives every
block its power-on values; a supply out of range or a low pulse on RSTN of at least 10 µs puts the
part into power-on reset, where no timer runs, no character and no frame is held, every transmission
has been aborted after its last whole character, and every transmit pin is high; and whether a shorter
pulse does so is a free value (assumption 5). The lengths of a phase and a dwell, the order of the free
list, what the part holds while it is in power-on reset, and how many characters are whole at an abort
are the model's choice (assumptions 7, 8, 13 and 23). -/
def Obligations.PowerOnAndRstn : Prop :=
  (∀ (dt : Nat) (straps : Straps) (s : State),
    ∃ t, exec (.powerOnReset dt straps) s = .next t ∧ t.inReset = false ∧ t.straps = straps ∧
      t.pending = s.pending ∧ t.now = s.now + dt ∧
      (∀ g, t.pickupOf g = .powerOn (s.pickupOf g).a.raw (s.pickupOf g).b.raw ∧
        t.loopOf g = .powerOn (.running 20000 t.now)) ∧
      t.drive.base = 0 ∧ t.selector = .powerOn ∧ t.survey = .powerOn ∧
      t.steering = .powerOn (.running 100000 t.now) ∧
      t.slurry = .powerOn (.running 100000 t.now) ∧ t.lanes = .powerOn ∧ t.path = .powerOn ∧
      t.orders = .powerOn (.running 250000 t.now) ∧ t.settings = defaultSettings ∧
      ∀ p, (∀ k, t.txPin p k = true) ∧
        t.inputs.get p = ⟨((s.elapse dt).inputs.get p).incoming, .idle, []⟩ ∧ (s.txOf p = none → t.line.get p = s.line.get p)) ∧
  (∀ (dt : Nat) (cause : LowCause) (s : State), s.inReset = false →
    (cause = .supply ∨ (∃ n, cause = .rstn n ∧ 10 ≤ n) →
      ∃ t, exec (.rstnLow dt cause) s = .next t ∧ t.inReset = true ∧ t.now = s.now + dt ∧
        (∀ d, (t.elapse d).dueEvents = []) ∧ (∀ p, t.txOf p = none ∧ t.queueOf p = [] ∧
          t.path.area.get p = .empty ∧ (∀ k, t.txPin p k = true) ∧
          (∀ d, (t.elapse d).inputs.get p =
            ⟨((s.elapse dt).inputs.get p).incoming.drop (d * 16), .idle, []⟩) ∧
          (s.txOf p = none → t.line.get p = s.line.get p) ∧
          ∀ x, s.txOf p = some x → t.line.get p =
            (frameChars x.entry.frame).take ((s.now + dt - x.since) / s.charMicros p)) ∧
        t.path.free = allBuffers) ∧
    ∀ n, cause = .rstn n → n < 10 →
      ∃ t, exec (.rstnLow dt cause) s = .next t ∧
        (Config.shortPulseTaken s.draws = true → t.inReset = true) ∧
        (Config.shortPulseTaken s.draws = false →
          t = { s.elapse dt with draws := s.draws + 1 })) ∧
  ∀ (s : State) (p : Port) (k : Nat), s.inReset = true → s.txPin p k = true
end

