-- ==== Sys2Proof/Laws/Arith.lean ====
section
/-! SUPPORT. The arithmetic and the frames: where rounding, clamping, signs and magnitudes lie, and that
words and characters read back. -/

namespace Sys2Proof.Machine

/-! ## Rounding and clamping (R1 to R3) -/

/-- The rounded quotient lies between bounds that the quotient keeps to. -/
theorem roundDiv_mono {a a' b : Int} (hb : 0 < b) (h : a ≤ a') : roundDiv a b ≤ roundDiv a' b :=
  Int.ediv_le_ediv (by omega) (by omega)

theorem roundDiv_mul {b : Int} (q : Int) (hb : 0 < b) : roundDiv (q * b) b = q := by
  unfold roundDiv
  rw [show 2 * (q * b) + b = b + q * (2 * b) by ring, Int.add_mul_ediv_right _ _ (by omega),
    Int.ediv_eq_zero_of_lt (by omega) (by omega), zero_add]

theorem le_roundDiv {a b q : Int} (hb : 0 < b) (h : q * b ≤ a) : q ≤ roundDiv a b :=
  (roundDiv_mul q hb).symm.le.trans (roundDiv_mono hb h)

theorem roundDiv_le {a b q : Int} (hb : 0 < b) (h : a ≤ q * b) : roundDiv a b ≤ q :=
  (roundDiv_mono hb h).trans (roundDiv_mul q hb).le

theorem roundDiv_nonneg {a b : Int} (ha : 0 ≤ a) (hb : 0 < b) : 0 ≤ roundDiv a b :=
  le_roundDiv hb (by omega)

theorem clamp_mem {lo hi : Int} (x : Int) (h : lo ≤ hi) : lo ≤ clamp lo hi x ∧ clamp lo hi x ≤ hi := by
  unfold clamp; split <;> [omega; (split <;> omega)]

theorem clamp_of_mem {lo hi x : Int} (h1 : lo ≤ x) (h2 : x ≤ hi) : clamp lo hi x = x := by
  unfold clamp; split <;> [omega; (split <;> omega)]

theorem mag_clampMag {m : Int} (x : Int) (hm : 0 ≤ m) : mag (clampMag m x) ≤ m := by
  unfold mag clampMag clamp; repeat' split
  all_goals omega

theorem mag_nonneg (x : Int) : 0 ≤ mag x := by unfold mag; split <;> omega

theorem mag_eq_abs (x : Int) : mag x = |x| := by
  unfold mag; split
  · rw [abs_of_neg ‹_›]
  · rw [abs_of_nonneg (by omega)]

theorem signOf_mul_mag (x : Int) : signOf x * mag x = x := by
  unfold signOf mag; split
  · rw [if_neg (by omega)]; omega
  · split <;> omega

/-! ## Words and characters (R168) -/

theorem wordBytes_length (w : Word) : (wordBytes w).length = 2 := rfl

theorem wordBytes_append (w : Word) :
    w.extractLsb' 8 8 ++ w.extractLsb' 0 8 = w := by
  have h := BitVec.extractLsb'_append_extractLsb'_eq_extractLsb' (x := w) (start₁ := 0)
    (len₁ := 8) (start₂ := 8) (len₂ := 8) (by decide)
  rw [h]; exact BitVec.extractLsb'_eq_self

/-- The characters of items, two by two, are the items. -/
theorem bytesWords_flatMap (items : List Word) :
    bytesWords (items.flatMap wordBytes) = items := by
  induction items with
  | nil => rfl
  | cons w ws ih =>
    rw [List.flatMap_cons, wordBytes]
    simp only [List.cons_append, List.nil_append, bytesWords, ih]
    rw [wordBytes_append]

theorem flatMap_wordBytes_length (items : List Word) :
    (items.flatMap wordBytes).length = 2 * items.length := by
  induction items with
  | nil => rfl
  | cons w ws ih => simp [ih, wordBytes_length]; omega

/-- A frame has its 4 header characters, 2 for each item and 2 for the check. -/
theorem frameChars_length (f : Frame) : (frameChars f).length = 6 + 2 * f.items.length := by
  simp [frameChars, headerAndItems, wordBytes_length]; omega

end Sys2Proof.Machine
end

