-- ==== Sys2Proof/Laws/State.lean ====
section
/-! SUPPORT. What each update of the state leaves and sets, field by field and reading by reading, so
that no proof unfolds a record update. -/

namespace Sys2Proof.Machine

/-! ## Containers -/

@[simp] theorem PerGear.get_set {α : Type} (x : PerGear α) (g h : Gear) (v : α) :
    (x.set g v).get h = if h = g then v else x.get h := by cases g <;> cases h <;> rfl

@[simp] theorem PerLane.get_set {α : Type} (x : PerLane α) (l k : Lane) (v : α) :
    (x.set l v).get k = if k = l then v else x.get k := by cases l <;> cases k <;> rfl

@[simp] theorem PerPlate.get_set {α : Type} (x : PerPlate α) (p q : Plate) (v : α) :
    (x.set p v).get q = if q = p then v else x.get q := by cases p <;> cases q <;> rfl

@[simp] theorem PerPort.get_set {α : Type} (x : PerPort α) (p q : Port) (v : α) :
    (x.set p v).get q = if q = p then v else x.get q := by
  cases p <;> cases q <;> simp [PerPort.set, PerPort.get]

@[simp] theorem PerGear.get_mk {α : Type} (a b : α) :
    (PerGear.mk a b).get .g1 = a ∧ (PerGear.mk a b).get .g2 = b := ⟨rfl, rfl⟩

@[simp] theorem PerPort.get_shaft {α : Type} (x : PerPort α) : x.get .shaft = x.shaft := rfl

theorem PerGear.ext_get {α : Type} {x y : PerGear α} (h : ∀ g, x.get g = y.get g) : x = y := by
  cases x; cases y; have h1 := h .g1; have h2 := h .g2; simp_all [PerGear.get]

theorem PerLane.ext_get {α : Type} {x y : PerLane α} (h : ∀ l, x.get l = y.get l) : x = y := by
  cases x; cases y
  have h1 := h .drive; have h2 := h .steer; have h3 := h .attitude; have h4 := h .slurry
  simp_all [PerLane.get]

theorem PerPort.ext_get {α : Type} {x y : PerPort α} (h : ∀ p, x.get p = y.get p) : x = y := by
  cases x; cases y
  have h1 := h .shaft
  have h2 : ∀ l, _ := fun l => h (.lane l)
  simp only [PerPort.get] at h1 h2
  rw [h1, PerLane.ext_get h2]

@[simp] theorem PerPort.get_of {α : Type} (f : Port → α) (p : Port) : (PerPort.of f).get p = f p := by
  rcases p with _ | l <;> [rfl; cases l <;> rfl]

@[simp] theorem PerPort.get_all {α : Type} (x : α) (p : Port) : (PerPort.all x).get p = x := by
  rcases p with _ | l <;> [rfl; cases l <;> rfl]

@[simp] theorem PerPort.set_set {α : Type} (x : PerPort α) (p : Port) (v w : α) :
    (x.set p v).set p w = x.set p w := by
  rcases p with _ | l <;> [rfl; cases l <;> rfl]

@[simp] theorem Gear.partner_partner (g : Gear) : g.partner.partner = g := by cases g <;> rfl

@[simp] theorem Gear.partner_ne (g : Gear) : g.partner ≠ g := by cases g <;> decide

@[simp] theorem Gear.ne_partner (g : Gear) : g ≠ g.partner := by cases g <;> decide

/-- Two states are equal if each of their fields is. -/
theorem State.ext_fields {s t : State} (h1 : s.pending = t.pending) (h2 : s.now = t.now)
    (h3 : s.draws = t.draws) (h4 : s.inReset = t.inReset) (h5 : s.straps = t.straps)
    (h6 : s.pickup = t.pickup) (h7 : s.drive = t.drive) (h8 : s.selector = t.selector)
    (h9 : s.survey = t.survey) (h10 : s.steering = t.steering) (h11 : s.slurry = t.slurry)
    (h12 : s.lanes = t.lanes) (h13 : s.path = t.path) (h14 : s.orders = t.orders)
    (h15 : s.settings = t.settings) (h16 : s.line = t.line)
    (h17 : s.inputs = t.inputs) : s = t := by
  cases s; cases t; simp_all only

/-! ## The readings that an update of their own part changes -/

@[simp] theorem State.loopOf_onLoop (g h : Gear) (f : DriveLoop → DriveLoop) (s : State) :
    (s.onLoop g f).loopOf h = if h = g then f (s.loopOf g) else s.loopOf h := by
  simp [State.onLoop, State.loopOf]

@[simp] theorem State.pickupOf_onPickup (g h : Gear) (f : Pickup → Pickup) (s : State) :
    (s.onPickup g f).pickupOf h = if h = g then f (s.pickupOf g) else s.pickupOf h := by
  simp [State.onPickup, State.pickupOf]

@[simp] theorem State.laneOf_onLane (l k : Lane) (f : LaneBox → LaneBox) (s : State) :
    (s.onLane l f).laneOf k = if k = l then f (s.laneOf l) else s.laneOf k := by
  simp [State.onLane, State.onLanes, State.laneOf]

@[simp] theorem State.demand_onDemand (ch c : Channel) (f : Demand → Demand) (s : State) :
    (s.onDemand ch f).demand c = if c = ch then f (s.demand ch) else s.demand c := by
  cases ch <;> cases c <;> simp [State.onDemand, State.onLanes, State.demand]

@[simp] theorem State.demand_onLane (l : Lane) (f : LaneBox → LaneBox) (c : Channel) (s : State) :
    (s.onLane l f).demand c = s.demand c := by cases c <;> rfl

@[simp] theorem State.laneOf_onDemand (ch : Channel) (f : Demand → Demand) (k : Lane) (s : State) :
    (s.onDemand ch f).laneOf k = s.laneOf k := by cases ch <;> rfl

@[simp] theorem State.item_onDemand (ch : Channel) (f : Demand → Demand) (k : Lane) (n : Nat)
    (s : State) : (s.onDemand ch f).item k n = s.item k n := by cases ch <;> rfl

@[simp] theorem State.envelope_onLane (l : Lane) (f : LaneBox → LaneBox) (s : State) :
    (s.onLane l f).lanes.envelope = s.lanes.envelope := rfl

@[simp] theorem State.envelope_onDemand (ch : Channel) (f : Demand → Demand) (s : State) :
    (s.onDemand ch f).lanes.envelope = s.lanes.envelope := by cases ch <;> rfl

@[simp] theorem State.queueOf_setQueue (p r : Port) (q : List Queued) (s : State) :
    (s.setQueue p q).queueOf r = if r = p then q else s.queueOf r := by
  simp [State.setQueue, State.onPath, State.queueOf]

@[simp] theorem State.setQueue_path (p : Port) (q : List Queued) (s : State) :
    (s.setQueue p q).path = { s.path with queue := s.path.queue.set p q } := rfl

@[simp] theorem State.txOf_setQueue (p r : Port) (q : List Queued) (s : State) :
    (s.setQueue p q).txOf r = s.txOf r := rfl

@[simp] theorem State.mappedAddress_setQueue (p : Port) (q : List Queued) (l : Lane) (s : State) :
    (s.setQueue p q).mappedAddress l = s.mappedAddress l := rfl

/-! ## The lines into the part -/

/-- A receiver hears levels one piece after the other. -/
theorem LineInput.hear_append (bit : Nat) (a b : List Bool) (x : LineInput) :
    x.hear bit (a ++ b) = (x.hear bit a).hear bit b := by
  induction a generalizing x with
  | nil => rfl
  | cons level rest ih => exact ih _

/-- An idle line leaves a receiver in which nothing is coming as it is. -/
theorem LineInput.hear_idle (bit n : Nat) {x : LineInput} (h : x.receiver = .idle) :
    x.hear bit (List.replicate n true) = x := by
  obtain ⟨incoming, receiver, arrived⟩ := x
  obtain rfl : receiver = .idle := h
  induction n with
  | zero => rfl
  | succ n ih =>
    rw [List.replicate_succ, LineInput.hear]
    simpa [Receiver.tick, Receiver.idleTick, Receiver.idle] using ih

/-- In no time nothing comes on a line. -/
@[simp] theorem LineInput.pass_zero (bit : Nat) (x : LineInput) : x.pass bit 0 = x := by
  simp [LineInput.pass, LineInput.hear, LineInput.ignore]

/-- On a line on which no level is known to come, a receiver in which nothing is coming stays so. -/
theorem LineInput.pass_idle (bit ticks : Nat) (arrived : List Reception) :
    LineInput.pass bit ticks ⟨[], .idle, arrived⟩ = ⟨[], .idle, arrived⟩ := by
  simp [LineInput.pass, LineInput.hear, LineInput.ignore, Receiver.restTicks]

/-- R171: in power-on reset the levels pass and nothing else changes. -/
theorem State.passInputs_inReset {s : State} (h : s.inReset = true) (dt : Nat) (p : Port) :
    (s.passInputs dt).get p = (s.inputs.get p).ignore (dt * microTicks) := by
  simp [State.passInputs, h]

/-- Outside power-on reset each receiver hears its line at its port's rate (R172). -/
theorem State.passInputs_live {s : State} (h : s.inReset = false) (dt : Nat) (p : Port) :
    (s.passInputs dt).get p = (s.inputs.get p).pass (s.bitTicks p) (dt * microTicks) := by
  simp [State.passInputs, h]

/-- In no time nothing changes. -/
@[simp] theorem State.elapse_zero (s : State) : s.elapse 0 = s := by
  have h : s.passInputs 0 = s.inputs := by
    refine PerPort.ext_get fun p => ?_
    cases hr : s.inReset
    · rw [s.passInputs_live hr, Nat.zero_mul, LineInput.pass_zero]
    · rw [s.passInputs_inReset hr]; simp [LineInput.ignore]
  rw [State.elapse, h]; rfl

/-! ## Every other field and reading, update by update -/

namespace State

/-! ### elapse -/

@[simp] theorem elapse_pending (dt : Nat) (s : State) : (s.elapse dt).pending = s.pending := rfl
@[simp] theorem elapse_now (dt : Nat) (s : State) :
    (s.elapse dt).now = s.now + dt := rfl
@[simp] theorem elapse_draws (dt : Nat) (s : State) : (s.elapse dt).draws = s.draws := rfl
@[simp] theorem elapse_inputs (dt : Nat) (s : State) : (s.elapse dt).inputs = s.passInputs dt := rfl
@[simp] theorem elapse_line (dt : Nat) (s : State) : (s.elapse dt).line = s.line := rfl
@[simp] theorem elapse_inReset (dt : Nat) (s : State) : (s.elapse dt).inReset = s.inReset := rfl
@[simp] theorem elapse_straps (dt : Nat) (s : State) : (s.elapse dt).straps = s.straps := rfl
@[simp] theorem elapse_pickup (dt : Nat) (s : State) : (s.elapse dt).pickup = s.pickup := rfl
@[simp] theorem elapse_drive (dt : Nat) (s : State) : (s.elapse dt).drive = s.drive := rfl
@[simp] theorem elapse_selector (dt : Nat) (s : State) : (s.elapse dt).selector = s.selector := rfl
@[simp] theorem elapse_survey (dt : Nat) (s : State) : (s.elapse dt).survey = s.survey := rfl
@[simp] theorem elapse_steering (dt : Nat) (s : State) : (s.elapse dt).steering = s.steering := rfl
@[simp] theorem elapse_slurry (dt : Nat) (s : State) : (s.elapse dt).slurry = s.slurry := rfl
@[simp] theorem elapse_lanes (dt : Nat) (s : State) : (s.elapse dt).lanes = s.lanes := rfl
@[simp] theorem elapse_path (dt : Nat) (s : State) : (s.elapse dt).path = s.path := rfl
@[simp] theorem elapse_orders (dt : Nat) (s : State) : (s.elapse dt).orders = s.orders := rfl
@[simp] theorem elapse_settings (dt : Nat) (s : State) : (s.elapse dt).settings = s.settings := rfl
@[simp] theorem elapse_loopOf (dt : Nat) (h : Gear) (s : State) :
    (s.elapse dt).loopOf h = s.loopOf h := rfl
@[simp] theorem elapse_pickupOf (dt : Nat) (h : Gear) (s : State) :
    (s.elapse dt).pickupOf h = s.pickupOf h := rfl
@[simp] theorem elapse_laneOf (dt : Nat) (k : Lane) (s : State) :
    (s.elapse dt).laneOf k = s.laneOf k := rfl
@[simp] theorem elapse_demand (dt : Nat) (c : Channel) (s : State) :
    (s.elapse dt).demand c = s.demand c := rfl
@[simp] theorem elapse_queueOf (dt : Nat) (r : Port) (s : State) :
    (s.elapse dt).queueOf r = s.queueOf r := rfl
@[simp] theorem elapse_txOf (dt : Nat) (r : Port) (s : State) :
    (s.elapse dt).txOf r = s.txOf r := rfl
@[simp] theorem elapse_setting (dt : Nat) (x : Setting) (s : State) :
    (s.elapse dt).setting x = s.setting x := rfl
@[simp] theorem elapse_classField (dt : Nat) (x : ClassField) (s : State) :
    (s.elapse dt).classField x = s.classField x := rfl
@[simp] theorem elapse_latched (dt : Nat) (k : TripKind) (s : State) :
    (s.elapse dt).latched k = s.latched k := rfl
@[simp] theorem elapse_item (dt : Nat) (k : Lane) (n : Nat) (s : State) :
    (s.elapse dt).item k n = s.item k n := rfl
@[simp] theorem elapse_ownByte (dt : Nat) (s : State) : (s.elapse dt).ownByte = s.ownByte := rfl
@[simp] theorem elapse_mappedAddress (dt : Nat) (k : Lane) (s : State) :
    (s.elapse dt).mappedAddress k = s.mappedAddress k := rfl

/-! ### onLoop -/

@[simp] theorem onLoop_pending (g : Gear) (f : DriveLoop → DriveLoop) (s : State) : (s.onLoop g f).pending = s.pending := rfl
@[simp] theorem onLoop_now (g : Gear) (f : DriveLoop → DriveLoop) (s : State) : (s.onLoop g f).now = s.now := rfl
@[simp] theorem onLoop_draws (g : Gear) (f : DriveLoop → DriveLoop) (s : State) : (s.onLoop g f).draws = s.draws := rfl
@[simp] theorem onLoop_line (g : Gear) (f : DriveLoop → DriveLoop) (s : State) : (s.onLoop g f).line = s.line := rfl
@[simp] theorem onLoop_inputs (g : Gear) (f : DriveLoop → DriveLoop) (s : State) : (s.onLoop g f).inputs = s.inputs := rfl
@[simp] theorem onLoop_inReset (g : Gear) (f : DriveLoop → DriveLoop) (s : State) : (s.onLoop g f).inReset = s.inReset := rfl
@[simp] theorem onLoop_straps (g : Gear) (f : DriveLoop → DriveLoop) (s : State) : (s.onLoop g f).straps = s.straps := rfl
@[simp] theorem onLoop_pickup (g : Gear) (f : DriveLoop → DriveLoop) (s : State) : (s.onLoop g f).pickup = s.pickup := rfl
@[simp] theorem onLoop_drive (g : Gear) (f : DriveLoop → DriveLoop) (s : State) :
    (s.onLoop g f).drive = { s.drive with loop := s.drive.loop.set g (f (s.loopOf g)) } := rfl
@[simp] theorem onLoop_selector (g : Gear) (f : DriveLoop → DriveLoop) (s : State) : (s.onLoop g f).selector = s.selector := rfl
@[simp] theorem onLoop_survey (g : Gear) (f : DriveLoop → DriveLoop) (s : State) : (s.onLoop g f).survey = s.survey := rfl
@[simp] theorem onLoop_steering (g : Gear) (f : DriveLoop → DriveLoop) (s : State) : (s.onLoop g f).steering = s.steering := rfl
@[simp] theorem onLoop_slurry (g : Gear) (f : DriveLoop → DriveLoop) (s : State) : (s.onLoop g f).slurry = s.slurry := rfl
@[simp] theorem onLoop_lanes (g : Gear) (f : DriveLoop → DriveLoop) (s : State) : (s.onLoop g f).lanes = s.lanes := rfl
@[simp] theorem onLoop_path (g : Gear) (f : DriveLoop → DriveLoop) (s : State) : (s.onLoop g f).path = s.path := rfl
@[simp] theorem onLoop_orders (g : Gear) (f : DriveLoop → DriveLoop) (s : State) : (s.onLoop g f).orders = s.orders := rfl
@[simp] theorem onLoop_settings (g : Gear) (f : DriveLoop → DriveLoop) (s : State) : (s.onLoop g f).settings = s.settings := rfl
@[simp] theorem onLoop_pickupOf (g : Gear) (f : DriveLoop → DriveLoop) (h : Gear) (s : State) :
    (s.onLoop g f).pickupOf h = s.pickupOf h := rfl
@[simp] theorem onLoop_laneOf (g : Gear) (f : DriveLoop → DriveLoop) (k : Lane) (s : State) :
    (s.onLoop g f).laneOf k = s.laneOf k := rfl
@[simp] theorem onLoop_demand (g : Gear) (f : DriveLoop → DriveLoop) (c : Channel) (s : State) :
    (s.onLoop g f).demand c = s.demand c := rfl
@[simp] theorem onLoop_queueOf (g : Gear) (f : DriveLoop → DriveLoop) (r : Port) (s : State) :
    (s.onLoop g f).queueOf r = s.queueOf r := rfl
@[simp] theorem onLoop_txOf (g : Gear) (f : DriveLoop → DriveLoop) (r : Port) (s : State) :
    (s.onLoop g f).txOf r = s.txOf r := rfl
@[simp] theorem onLoop_setting (g : Gear) (f : DriveLoop → DriveLoop) (x : Setting) (s : State) :
    (s.onLoop g f).setting x = s.setting x := rfl
@[simp] theorem onLoop_classField (g : Gear) (f : DriveLoop → DriveLoop) (x : ClassField) (s : State) :
    (s.onLoop g f).classField x = s.classField x := rfl
@[simp] theorem onLoop_latched (g : Gear) (f : DriveLoop → DriveLoop) (k : TripKind) (s : State) :
    (s.onLoop g f).latched k = s.latched k := rfl
@[simp] theorem onLoop_item (g : Gear) (f : DriveLoop → DriveLoop) (k : Lane) (n : Nat) (s : State) :
    (s.onLoop g f).item k n = s.item k n := rfl
@[simp] theorem onLoop_ownByte (g : Gear) (f : DriveLoop → DriveLoop) (s : State) :
    (s.onLoop g f).ownByte = s.ownByte := rfl
@[simp] theorem onLoop_mappedAddress (g : Gear) (f : DriveLoop → DriveLoop) (k : Lane) (s : State) :
    (s.onLoop g f).mappedAddress k = s.mappedAddress k := rfl

/-! ### onPickup -/

@[simp] theorem onPickup_pending (g : Gear) (f : Pickup → Pickup) (s : State) : (s.onPickup g f).pending = s.pending := rfl
@[simp] theorem onPickup_now (g : Gear) (f : Pickup → Pickup) (s : State) : (s.onPickup g f).now = s.now := rfl
@[simp] theorem onPickup_draws (g : Gear) (f : Pickup → Pickup) (s : State) : (s.onPickup g f).draws = s.draws := rfl
@[simp] theorem onPickup_line (g : Gear) (f : Pickup → Pickup) (s : State) : (s.onPickup g f).line = s.line := rfl
@[simp] theorem onPickup_inputs (g : Gear) (f : Pickup → Pickup) (s : State) : (s.onPickup g f).inputs = s.inputs := rfl
@[simp] theorem onPickup_inReset (g : Gear) (f : Pickup → Pickup) (s : State) : (s.onPickup g f).inReset = s.inReset := rfl
@[simp] theorem onPickup_straps (g : Gear) (f : Pickup → Pickup) (s : State) : (s.onPickup g f).straps = s.straps := rfl
@[simp] theorem onPickup_pickup (g : Gear) (f : Pickup → Pickup) (s : State) :
    (s.onPickup g f).pickup = s.pickup.set g (f (s.pickupOf g)) := rfl
@[simp] theorem onPickup_drive (g : Gear) (f : Pickup → Pickup) (s : State) : (s.onPickup g f).drive = s.drive := rfl
@[simp] theorem onPickup_selector (g : Gear) (f : Pickup → Pickup) (s : State) : (s.onPickup g f).selector = s.selector := rfl
@[simp] theorem onPickup_survey (g : Gear) (f : Pickup → Pickup) (s : State) : (s.onPickup g f).survey = s.survey := rfl
@[simp] theorem onPickup_steering (g : Gear) (f : Pickup → Pickup) (s : State) : (s.onPickup g f).steering = s.steering := rfl
@[simp] theorem onPickup_slurry (g : Gear) (f : Pickup → Pickup) (s : State) : (s.onPickup g f).slurry = s.slurry := rfl
@[simp] theorem onPickup_lanes (g : Gear) (f : Pickup → Pickup) (s : State) : (s.onPickup g f).lanes = s.lanes := rfl
@[simp] theorem onPickup_path (g : Gear) (f : Pickup → Pickup) (s : State) : (s.onPickup g f).path = s.path := rfl
@[simp] theorem onPickup_orders (g : Gear) (f : Pickup → Pickup) (s : State) : (s.onPickup g f).orders = s.orders := rfl
@[simp] theorem onPickup_settings (g : Gear) (f : Pickup → Pickup) (s : State) : (s.onPickup g f).settings = s.settings := rfl
@[simp] theorem onPickup_loopOf (g : Gear) (f : Pickup → Pickup) (h : Gear) (s : State) :
    (s.onPickup g f).loopOf h = s.loopOf h := rfl
@[simp] theorem onPickup_laneOf (g : Gear) (f : Pickup → Pickup) (k : Lane) (s : State) :
    (s.onPickup g f).laneOf k = s.laneOf k := rfl
@[simp] theorem onPickup_demand (g : Gear) (f : Pickup → Pickup) (c : Channel) (s : State) :
    (s.onPickup g f).demand c = s.demand c := rfl
@[simp] theorem onPickup_queueOf (g : Gear) (f : Pickup → Pickup) (r : Port) (s : State) :
    (s.onPickup g f).queueOf r = s.queueOf r := rfl
@[simp] theorem onPickup_txOf (g : Gear) (f : Pickup → Pickup) (r : Port) (s : State) :
    (s.onPickup g f).txOf r = s.txOf r := rfl
@[simp] theorem onPickup_setting (g : Gear) (f : Pickup → Pickup) (x : Setting) (s : State) :
    (s.onPickup g f).setting x = s.setting x := rfl
@[simp] theorem onPickup_classField (g : Gear) (f : Pickup → Pickup) (x : ClassField) (s : State) :
    (s.onPickup g f).classField x = s.classField x := rfl
@[simp] theorem onPickup_latched (g : Gear) (f : Pickup → Pickup) (k : TripKind) (s : State) :
    (s.onPickup g f).latched k = s.latched k := rfl
@[simp] theorem onPickup_item (g : Gear) (f : Pickup → Pickup) (k : Lane) (n : Nat) (s : State) :
    (s.onPickup g f).item k n = s.item k n := rfl
@[simp] theorem onPickup_ownByte (g : Gear) (f : Pickup → Pickup) (s : State) :
    (s.onPickup g f).ownByte = s.ownByte := rfl
@[simp] theorem onPickup_mappedAddress (g : Gear) (f : Pickup → Pickup) (k : Lane) (s : State) :
    (s.onPickup g f).mappedAddress k = s.mappedAddress k := rfl

/-! ### onSelector -/

@[simp] theorem onSelector_pending (f : Selector → Selector) (s : State) : (s.onSelector f).pending = s.pending := rfl
@[simp] theorem onSelector_now (f : Selector → Selector) (s : State) : (s.onSelector f).now = s.now := rfl
@[simp] theorem onSelector_draws (f : Selector → Selector) (s : State) : (s.onSelector f).draws = s.draws := rfl
@[simp] theorem onSelector_line (f : Selector → Selector) (s : State) : (s.onSelector f).line = s.line := rfl
@[simp] theorem onSelector_inputs (f : Selector → Selector) (s : State) : (s.onSelector f).inputs = s.inputs := rfl
@[simp] theorem onSelector_inReset (f : Selector → Selector) (s : State) : (s.onSelector f).inReset = s.inReset := rfl
@[simp] theorem onSelector_straps (f : Selector → Selector) (s : State) : (s.onSelector f).straps = s.straps := rfl
@[simp] theorem onSelector_pickup (f : Selector → Selector) (s : State) : (s.onSelector f).pickup = s.pickup := rfl
@[simp] theorem onSelector_drive (f : Selector → Selector) (s : State) : (s.onSelector f).drive = s.drive := rfl
@[simp] theorem onSelector_selector (f : Selector → Selector) (s : State) :
    (s.onSelector f).selector = f s.selector := rfl
@[simp] theorem onSelector_survey (f : Selector → Selector) (s : State) : (s.onSelector f).survey = s.survey := rfl
@[simp] theorem onSelector_steering (f : Selector → Selector) (s : State) : (s.onSelector f).steering = s.steering := rfl
@[simp] theorem onSelector_slurry (f : Selector → Selector) (s : State) : (s.onSelector f).slurry = s.slurry := rfl
@[simp] theorem onSelector_lanes (f : Selector → Selector) (s : State) : (s.onSelector f).lanes = s.lanes := rfl
@[simp] theorem onSelector_path (f : Selector → Selector) (s : State) : (s.onSelector f).path = s.path := rfl
@[simp] theorem onSelector_orders (f : Selector → Selector) (s : State) : (s.onSelector f).orders = s.orders := rfl
@[simp] theorem onSelector_settings (f : Selector → Selector) (s : State) : (s.onSelector f).settings = s.settings := rfl
@[simp] theorem onSelector_loopOf (f : Selector → Selector) (h : Gear) (s : State) :
    (s.onSelector f).loopOf h = s.loopOf h := rfl
@[simp] theorem onSelector_pickupOf (f : Selector → Selector) (h : Gear) (s : State) :
    (s.onSelector f).pickupOf h = s.pickupOf h := rfl
@[simp] theorem onSelector_laneOf (f : Selector → Selector) (k : Lane) (s : State) :
    (s.onSelector f).laneOf k = s.laneOf k := rfl
@[simp] theorem onSelector_demand (f : Selector → Selector) (c : Channel) (s : State) :
    (s.onSelector f).demand c = s.demand c := rfl
@[simp] theorem onSelector_queueOf (f : Selector → Selector) (r : Port) (s : State) :
    (s.onSelector f).queueOf r = s.queueOf r := rfl
@[simp] theorem onSelector_txOf (f : Selector → Selector) (r : Port) (s : State) :
    (s.onSelector f).txOf r = s.txOf r := rfl
@[simp] theorem onSelector_setting (f : Selector → Selector) (x : Setting) (s : State) :
    (s.onSelector f).setting x = s.setting x := rfl
@[simp] theorem onSelector_latched (f : Selector → Selector) (k : TripKind) (s : State) :
    (s.onSelector f).latched k = s.latched k := rfl
@[simp] theorem onSelector_item (f : Selector → Selector) (k : Lane) (n : Nat) (s : State) :
    (s.onSelector f).item k n = s.item k n := rfl
@[simp] theorem onSelector_ownByte (f : Selector → Selector) (s : State) :
    (s.onSelector f).ownByte = s.ownByte := rfl
@[simp] theorem onSelector_mappedAddress (f : Selector → Selector) (k : Lane) (s : State) :
    (s.onSelector f).mappedAddress k = s.mappedAddress k := rfl

/-! ### onSurvey -/

@[simp] theorem onSurvey_pending (f : Survey → Survey) (s : State) : (s.onSurvey f).pending = s.pending := rfl
@[simp] theorem onSurvey_now (f : Survey → Survey) (s : State) : (s.onSurvey f).now = s.now := rfl
@[simp] theorem onSurvey_draws (f : Survey → Survey) (s : State) : (s.onSurvey f).draws = s.draws := rfl
@[simp] theorem onSurvey_line (f : Survey → Survey) (s : State) : (s.onSurvey f).line = s.line := rfl
@[simp] theorem onSurvey_inputs (f : Survey → Survey) (s : State) : (s.onSurvey f).inputs = s.inputs := rfl
@[simp] theorem onSurvey_inReset (f : Survey → Survey) (s : State) : (s.onSurvey f).inReset = s.inReset := rfl
@[simp] theorem onSurvey_straps (f : Survey → Survey) (s : State) : (s.onSurvey f).straps = s.straps := rfl
@[simp] theorem onSurvey_pickup (f : Survey → Survey) (s : State) : (s.onSurvey f).pickup = s.pickup := rfl
@[simp] theorem onSurvey_drive (f : Survey → Survey) (s : State) : (s.onSurvey f).drive = s.drive := rfl
@[simp] theorem onSurvey_selector (f : Survey → Survey) (s : State) : (s.onSurvey f).selector = s.selector := rfl
@[simp] theorem onSurvey_survey (f : Survey → Survey) (s : State) :
    (s.onSurvey f).survey = f s.survey := rfl
@[simp] theorem onSurvey_steering (f : Survey → Survey) (s : State) : (s.onSurvey f).steering = s.steering := rfl
@[simp] theorem onSurvey_slurry (f : Survey → Survey) (s : State) : (s.onSurvey f).slurry = s.slurry := rfl
@[simp] theorem onSurvey_lanes (f : Survey → Survey) (s : State) : (s.onSurvey f).lanes = s.lanes := rfl
@[simp] theorem onSurvey_path (f : Survey → Survey) (s : State) : (s.onSurvey f).path = s.path := rfl
@[simp] theorem onSurvey_orders (f : Survey → Survey) (s : State) : (s.onSurvey f).orders = s.orders := rfl
@[simp] theorem onSurvey_settings (f : Survey → Survey) (s : State) : (s.onSurvey f).settings = s.settings := rfl
@[simp] theorem onSurvey_loopOf (f : Survey → Survey) (h : Gear) (s : State) :
    (s.onSurvey f).loopOf h = s.loopOf h := rfl
@[simp] theorem onSurvey_pickupOf (f : Survey → Survey) (h : Gear) (s : State) :
    (s.onSurvey f).pickupOf h = s.pickupOf h := rfl
@[simp] theorem onSurvey_laneOf (f : Survey → Survey) (k : Lane) (s : State) :
    (s.onSurvey f).laneOf k = s.laneOf k := rfl
@[simp] theorem onSurvey_demand (f : Survey → Survey) (c : Channel) (s : State) :
    (s.onSurvey f).demand c = s.demand c := rfl
@[simp] theorem onSurvey_queueOf (f : Survey → Survey) (r : Port) (s : State) :
    (s.onSurvey f).queueOf r = s.queueOf r := rfl
@[simp] theorem onSurvey_txOf (f : Survey → Survey) (r : Port) (s : State) :
    (s.onSurvey f).txOf r = s.txOf r := rfl
@[simp] theorem onSurvey_setting (f : Survey → Survey) (x : Setting) (s : State) :
    (s.onSurvey f).setting x = s.setting x := rfl
@[simp] theorem onSurvey_classField (f : Survey → Survey) (x : ClassField) (s : State) :
    (s.onSurvey f).classField x = s.classField x := rfl
@[simp] theorem onSurvey_latched (f : Survey → Survey) (k : TripKind) (s : State) :
    (s.onSurvey f).latched k = s.latched k := rfl
@[simp] theorem onSurvey_item (f : Survey → Survey) (k : Lane) (n : Nat) (s : State) :
    (s.onSurvey f).item k n = s.item k n := rfl
@[simp] theorem onSurvey_ownByte (f : Survey → Survey) (s : State) :
    (s.onSurvey f).ownByte = s.ownByte := rfl
@[simp] theorem onSurvey_mappedAddress (f : Survey → Survey) (k : Lane) (s : State) :
    (s.onSurvey f).mappedAddress k = s.mappedAddress k := rfl

/-! ### onSteering -/

@[simp] theorem onSteering_pending (f : Steering → Steering) (s : State) : (s.onSteering f).pending = s.pending := rfl
@[simp] theorem onSteering_now (f : Steering → Steering) (s : State) : (s.onSteering f).now = s.now := rfl
@[simp] theorem onSteering_draws (f : Steering → Steering) (s : State) : (s.onSteering f).draws = s.draws := rfl
@[simp] theorem onSteering_line (f : Steering → Steering) (s : State) : (s.onSteering f).line = s.line := rfl
@[simp] theorem onSteering_inputs (f : Steering → Steering) (s : State) : (s.onSteering f).inputs = s.inputs := rfl
@[simp] theorem onSteering_inReset (f : Steering → Steering) (s : State) : (s.onSteering f).inReset = s.inReset := rfl
@[simp] theorem onSteering_straps (f : Steering → Steering) (s : State) : (s.onSteering f).straps = s.straps := rfl
@[simp] theorem onSteering_pickup (f : Steering → Steering) (s : State) : (s.onSteering f).pickup = s.pickup := rfl
@[simp] theorem onSteering_drive (f : Steering → Steering) (s : State) : (s.onSteering f).drive = s.drive := rfl
@[simp] theorem onSteering_selector (f : Steering → Steering) (s : State) : (s.onSteering f).selector = s.selector := rfl
@[simp] theorem onSteering_survey (f : Steering → Steering) (s : State) : (s.onSteering f).survey = s.survey := rfl
@[simp] theorem onSteering_steering (f : Steering → Steering) (s : State) :
    (s.onSteering f).steering = f s.steering := rfl
@[simp] theorem onSteering_slurry (f : Steering → Steering) (s : State) : (s.onSteering f).slurry = s.slurry := rfl
@[simp] theorem onSteering_lanes (f : Steering → Steering) (s : State) : (s.onSteering f).lanes = s.lanes := rfl
@[simp] theorem onSteering_path (f : Steering → Steering) (s : State) : (s.onSteering f).path = s.path := rfl
@[simp] theorem onSteering_orders (f : Steering → Steering) (s : State) : (s.onSteering f).orders = s.orders := rfl
@[simp] theorem onSteering_settings (f : Steering → Steering) (s : State) : (s.onSteering f).settings = s.settings := rfl
@[simp] theorem onSteering_loopOf (f : Steering → Steering) (h : Gear) (s : State) :
    (s.onSteering f).loopOf h = s.loopOf h := rfl
@[simp] theorem onSteering_pickupOf (f : Steering → Steering) (h : Gear) (s : State) :
    (s.onSteering f).pickupOf h = s.pickupOf h := rfl
@[simp] theorem onSteering_laneOf (f : Steering → Steering) (k : Lane) (s : State) :
    (s.onSteering f).laneOf k = s.laneOf k := rfl
@[simp] theorem onSteering_demand (f : Steering → Steering) (c : Channel) (s : State) :
    (s.onSteering f).demand c = s.demand c := rfl
@[simp] theorem onSteering_queueOf (f : Steering → Steering) (r : Port) (s : State) :
    (s.onSteering f).queueOf r = s.queueOf r := rfl
@[simp] theorem onSteering_txOf (f : Steering → Steering) (r : Port) (s : State) :
    (s.onSteering f).txOf r = s.txOf r := rfl
@[simp] theorem onSteering_setting (f : Steering → Steering) (x : Setting) (s : State) :
    (s.onSteering f).setting x = s.setting x := rfl
@[simp] theorem onSteering_classField (f : Steering → Steering) (x : ClassField) (s : State) :
    (s.onSteering f).classField x = s.classField x := rfl
@[simp] theorem onSteering_latched (f : Steering → Steering) (k : TripKind) (s : State) :
    (s.onSteering f).latched k = s.latched k := rfl
@[simp] theorem onSteering_item (f : Steering → Steering) (k : Lane) (n : Nat) (s : State) :
    (s.onSteering f).item k n = s.item k n := rfl
@[simp] theorem onSteering_ownByte (f : Steering → Steering) (s : State) :
    (s.onSteering f).ownByte = s.ownByte := rfl
@[simp] theorem onSteering_mappedAddress (f : Steering → Steering) (k : Lane) (s : State) :
    (s.onSteering f).mappedAddress k = s.mappedAddress k := rfl

/-! ### onSlurry -/

@[simp] theorem onSlurry_pending (f : Slurry → Slurry) (s : State) : (s.onSlurry f).pending = s.pending := rfl
@[simp] theorem onSlurry_now (f : Slurry → Slurry) (s : State) : (s.onSlurry f).now = s.now := rfl
@[simp] theorem onSlurry_draws (f : Slurry → Slurry) (s : State) : (s.onSlurry f).draws = s.draws := rfl
@[simp] theorem onSlurry_line (f : Slurry → Slurry) (s : State) : (s.onSlurry f).line = s.line := rfl
@[simp] theorem onSlurry_inputs (f : Slurry → Slurry) (s : State) : (s.onSlurry f).inputs = s.inputs := rfl
@[simp] theorem onSlurry_inReset (f : Slurry → Slurry) (s : State) : (s.onSlurry f).inReset = s.inReset := rfl
@[simp] theorem onSlurry_straps (f : Slurry → Slurry) (s : State) : (s.onSlurry f).straps = s.straps := rfl
@[simp] theorem onSlurry_pickup (f : Slurry → Slurry) (s : State) : (s.onSlurry f).pickup = s.pickup := rfl
@[simp] theorem onSlurry_drive (f : Slurry → Slurry) (s : State) : (s.onSlurry f).drive = s.drive := rfl
@[simp] theorem onSlurry_selector (f : Slurry → Slurry) (s : State) : (s.onSlurry f).selector = s.selector := rfl
@[simp] theorem onSlurry_survey (f : Slurry → Slurry) (s : State) : (s.onSlurry f).survey = s.survey := rfl
@[simp] theorem onSlurry_steering (f : Slurry → Slurry) (s : State) : (s.onSlurry f).steering = s.steering := rfl
@[simp] theorem onSlurry_slurry (f : Slurry → Slurry) (s : State) :
    (s.onSlurry f).slurry = f s.slurry := rfl
@[simp] theorem onSlurry_lanes (f : Slurry → Slurry) (s : State) : (s.onSlurry f).lanes = s.lanes := rfl
@[simp] theorem onSlurry_path (f : Slurry → Slurry) (s : State) : (s.onSlurry f).path = s.path := rfl
@[simp] theorem onSlurry_orders (f : Slurry → Slurry) (s : State) : (s.onSlurry f).orders = s.orders := rfl
@[simp] theorem onSlurry_settings (f : Slurry → Slurry) (s : State) : (s.onSlurry f).settings = s.settings := rfl
@[simp] theorem onSlurry_loopOf (f : Slurry → Slurry) (h : Gear) (s : State) :
    (s.onSlurry f).loopOf h = s.loopOf h := rfl
@[simp] theorem onSlurry_pickupOf (f : Slurry → Slurry) (h : Gear) (s : State) :
    (s.onSlurry f).pickupOf h = s.pickupOf h := rfl
@[simp] theorem onSlurry_laneOf (f : Slurry → Slurry) (k : Lane) (s : State) :
    (s.onSlurry f).laneOf k = s.laneOf k := rfl
@[simp] theorem onSlurry_demand (f : Slurry → Slurry) (c : Channel) (s : State) :
    (s.onSlurry f).demand c = s.demand c := rfl
@[simp] theorem onSlurry_queueOf (f : Slurry → Slurry) (r : Port) (s : State) :
    (s.onSlurry f).queueOf r = s.queueOf r := rfl
@[simp] theorem onSlurry_txOf (f : Slurry → Slurry) (r : Port) (s : State) :
    (s.onSlurry f).txOf r = s.txOf r := rfl
@[simp] theorem onSlurry_setting (f : Slurry → Slurry) (x : Setting) (s : State) :
    (s.onSlurry f).setting x = s.setting x := rfl
@[simp] theorem onSlurry_classField (f : Slurry → Slurry) (x : ClassField) (s : State) :
    (s.onSlurry f).classField x = s.classField x := rfl
@[simp] theorem onSlurry_latched (f : Slurry → Slurry) (k : TripKind) (s : State) :
    (s.onSlurry f).latched k = s.latched k := rfl
@[simp] theorem onSlurry_item (f : Slurry → Slurry) (k : Lane) (n : Nat) (s : State) :
    (s.onSlurry f).item k n = s.item k n := rfl
@[simp] theorem onSlurry_ownByte (f : Slurry → Slurry) (s : State) :
    (s.onSlurry f).ownByte = s.ownByte := rfl
@[simp] theorem onSlurry_mappedAddress (f : Slurry → Slurry) (k : Lane) (s : State) :
    (s.onSlurry f).mappedAddress k = s.mappedAddress k := rfl

/-! ### onLanes -/

@[simp] theorem onLanes_pending (f : LaneBlock → LaneBlock) (s : State) : (s.onLanes f).pending = s.pending := rfl
@[simp] theorem onLanes_now (f : LaneBlock → LaneBlock) (s : State) : (s.onLanes f).now = s.now := rfl
@[simp] theorem onLanes_draws (f : LaneBlock → LaneBlock) (s : State) : (s.onLanes f).draws = s.draws := rfl
@[simp] theorem onLanes_line (f : LaneBlock → LaneBlock) (s : State) : (s.onLanes f).line = s.line := rfl
@[simp] theorem onLanes_inputs (f : LaneBlock → LaneBlock) (s : State) : (s.onLanes f).inputs = s.inputs := rfl
@[simp] theorem onLanes_inReset (f : LaneBlock → LaneBlock) (s : State) : (s.onLanes f).inReset = s.inReset := rfl
@[simp] theorem onLanes_straps (f : LaneBlock → LaneBlock) (s : State) : (s.onLanes f).straps = s.straps := rfl
@[simp] theorem onLanes_pickup (f : LaneBlock → LaneBlock) (s : State) : (s.onLanes f).pickup = s.pickup := rfl
@[simp] theorem onLanes_drive (f : LaneBlock → LaneBlock) (s : State) : (s.onLanes f).drive = s.drive := rfl
@[simp] theorem onLanes_selector (f : LaneBlock → LaneBlock) (s : State) : (s.onLanes f).selector = s.selector := rfl
@[simp] theorem onLanes_survey (f : LaneBlock → LaneBlock) (s : State) : (s.onLanes f).survey = s.survey := rfl
@[simp] theorem onLanes_steering (f : LaneBlock → LaneBlock) (s : State) : (s.onLanes f).steering = s.steering := rfl
@[simp] theorem onLanes_slurry (f : LaneBlock → LaneBlock) (s : State) : (s.onLanes f).slurry = s.slurry := rfl
@[simp] theorem onLanes_lanes (f : LaneBlock → LaneBlock) (s : State) :
    (s.onLanes f).lanes = f s.lanes := rfl
@[simp] theorem onLanes_path (f : LaneBlock → LaneBlock) (s : State) : (s.onLanes f).path = s.path := rfl
@[simp] theorem onLanes_orders (f : LaneBlock → LaneBlock) (s : State) : (s.onLanes f).orders = s.orders := rfl
@[simp] theorem onLanes_settings (f : LaneBlock → LaneBlock) (s : State) : (s.onLanes f).settings = s.settings := rfl
@[simp] theorem onLanes_loopOf (f : LaneBlock → LaneBlock) (h : Gear) (s : State) :
    (s.onLanes f).loopOf h = s.loopOf h := rfl
@[simp] theorem onLanes_pickupOf (f : LaneBlock → LaneBlock) (h : Gear) (s : State) :
    (s.onLanes f).pickupOf h = s.pickupOf h := rfl
@[simp] theorem onLanes_queueOf (f : LaneBlock → LaneBlock) (r : Port) (s : State) :
    (s.onLanes f).queueOf r = s.queueOf r := rfl
@[simp] theorem onLanes_txOf (f : LaneBlock → LaneBlock) (r : Port) (s : State) :
    (s.onLanes f).txOf r = s.txOf r := rfl
@[simp] theorem onLanes_setting (f : LaneBlock → LaneBlock) (x : Setting) (s : State) :
    (s.onLanes f).setting x = s.setting x := rfl
@[simp] theorem onLanes_classField (f : LaneBlock → LaneBlock) (x : ClassField) (s : State) :
    (s.onLanes f).classField x = s.classField x := rfl
@[simp] theorem onLanes_latched (f : LaneBlock → LaneBlock) (k : TripKind) (s : State) :
    (s.onLanes f).latched k = s.latched k := rfl
@[simp] theorem onLanes_ownByte (f : LaneBlock → LaneBlock) (s : State) :
    (s.onLanes f).ownByte = s.ownByte := rfl
@[simp] theorem onLanes_mappedAddress (f : LaneBlock → LaneBlock) (k : Lane) (s : State) :
    (s.onLanes f).mappedAddress k = s.mappedAddress k := rfl

/-! ### onPath -/

@[simp] theorem onPath_pending (f : FramePath → FramePath) (s : State) : (s.onPath f).pending = s.pending := rfl
@[simp] theorem onPath_now (f : FramePath → FramePath) (s : State) : (s.onPath f).now = s.now := rfl
@[simp] theorem onPath_draws (f : FramePath → FramePath) (s : State) : (s.onPath f).draws = s.draws := rfl
@[simp] theorem onPath_line (f : FramePath → FramePath) (s : State) : (s.onPath f).line = s.line := rfl
@[simp] theorem onPath_inputs (f : FramePath → FramePath) (s : State) : (s.onPath f).inputs = s.inputs := rfl
@[simp] theorem onPath_inReset (f : FramePath → FramePath) (s : State) : (s.onPath f).inReset = s.inReset := rfl
@[simp] theorem onPath_straps (f : FramePath → FramePath) (s : State) : (s.onPath f).straps = s.straps := rfl
@[simp] theorem onPath_pickup (f : FramePath → FramePath) (s : State) : (s.onPath f).pickup = s.pickup := rfl
@[simp] theorem onPath_drive (f : FramePath → FramePath) (s : State) : (s.onPath f).drive = s.drive := rfl
@[simp] theorem onPath_selector (f : FramePath → FramePath) (s : State) : (s.onPath f).selector = s.selector := rfl
@[simp] theorem onPath_survey (f : FramePath → FramePath) (s : State) : (s.onPath f).survey = s.survey := rfl
@[simp] theorem onPath_steering (f : FramePath → FramePath) (s : State) : (s.onPath f).steering = s.steering := rfl
@[simp] theorem onPath_slurry (f : FramePath → FramePath) (s : State) : (s.onPath f).slurry = s.slurry := rfl
@[simp] theorem onPath_lanes (f : FramePath → FramePath) (s : State) : (s.onPath f).lanes = s.lanes := rfl
@[simp] theorem onPath_path (f : FramePath → FramePath) (s : State) :
    (s.onPath f).path = f s.path := rfl
@[simp] theorem onPath_orders (f : FramePath → FramePath) (s : State) : (s.onPath f).orders = s.orders := rfl
@[simp] theorem onPath_settings (f : FramePath → FramePath) (s : State) : (s.onPath f).settings = s.settings := rfl
@[simp] theorem onPath_loopOf (f : FramePath → FramePath) (h : Gear) (s : State) :
    (s.onPath f).loopOf h = s.loopOf h := rfl
@[simp] theorem onPath_pickupOf (f : FramePath → FramePath) (h : Gear) (s : State) :
    (s.onPath f).pickupOf h = s.pickupOf h := rfl
@[simp] theorem onPath_laneOf (f : FramePath → FramePath) (k : Lane) (s : State) :
    (s.onPath f).laneOf k = s.laneOf k := rfl
@[simp] theorem onPath_demand (f : FramePath → FramePath) (c : Channel) (s : State) :
    (s.onPath f).demand c = s.demand c := rfl
@[simp] theorem onPath_setting (f : FramePath → FramePath) (x : Setting) (s : State) :
    (s.onPath f).setting x = s.setting x := rfl
@[simp] theorem onPath_classField (f : FramePath → FramePath) (x : ClassField) (s : State) :
    (s.onPath f).classField x = s.classField x := rfl
@[simp] theorem onPath_latched (f : FramePath → FramePath) (k : TripKind) (s : State) :
    (s.onPath f).latched k = s.latched k := rfl
@[simp] theorem onPath_item (f : FramePath → FramePath) (k : Lane) (n : Nat) (s : State) :
    (s.onPath f).item k n = s.item k n := rfl
@[simp] theorem onPath_ownByte (f : FramePath → FramePath) (s : State) :
    (s.onPath f).ownByte = s.ownByte := rfl

/-! ### onOrders -/

@[simp] theorem onOrders_pending (f : Orders → Orders) (s : State) : (s.onOrders f).pending = s.pending := rfl
@[simp] theorem onOrders_now (f : Orders → Orders) (s : State) : (s.onOrders f).now = s.now := rfl
@[simp] theorem onOrders_draws (f : Orders → Orders) (s : State) : (s.onOrders f).draws = s.draws := rfl
@[simp] theorem onOrders_line (f : Orders → Orders) (s : State) : (s.onOrders f).line = s.line := rfl
@[simp] theorem onOrders_inputs (f : Orders → Orders) (s : State) : (s.onOrders f).inputs = s.inputs := rfl
@[simp] theorem onOrders_inReset (f : Orders → Orders) (s : State) : (s.onOrders f).inReset = s.inReset := rfl
@[simp] theorem onOrders_straps (f : Orders → Orders) (s : State) : (s.onOrders f).straps = s.straps := rfl
@[simp] theorem onOrders_pickup (f : Orders → Orders) (s : State) : (s.onOrders f).pickup = s.pickup := rfl
@[simp] theorem onOrders_drive (f : Orders → Orders) (s : State) : (s.onOrders f).drive = s.drive := rfl
@[simp] theorem onOrders_selector (f : Orders → Orders) (s : State) : (s.onOrders f).selector = s.selector := rfl
@[simp] theorem onOrders_survey (f : Orders → Orders) (s : State) : (s.onOrders f).survey = s.survey := rfl
@[simp] theorem onOrders_steering (f : Orders → Orders) (s : State) : (s.onOrders f).steering = s.steering := rfl
@[simp] theorem onOrders_slurry (f : Orders → Orders) (s : State) : (s.onOrders f).slurry = s.slurry := rfl
@[simp] theorem onOrders_lanes (f : Orders → Orders) (s : State) : (s.onOrders f).lanes = s.lanes := rfl
@[simp] theorem onOrders_path (f : Orders → Orders) (s : State) : (s.onOrders f).path = s.path := rfl
@[simp] theorem onOrders_orders (f : Orders → Orders) (s : State) :
    (s.onOrders f).orders = f s.orders := rfl
@[simp] theorem onOrders_settings (f : Orders → Orders) (s : State) : (s.onOrders f).settings = s.settings := rfl
@[simp] theorem onOrders_loopOf (f : Orders → Orders) (h : Gear) (s : State) :
    (s.onOrders f).loopOf h = s.loopOf h := rfl
@[simp] theorem onOrders_pickupOf (f : Orders → Orders) (h : Gear) (s : State) :
    (s.onOrders f).pickupOf h = s.pickupOf h := rfl
@[simp] theorem onOrders_laneOf (f : Orders → Orders) (k : Lane) (s : State) :
    (s.onOrders f).laneOf k = s.laneOf k := rfl
@[simp] theorem onOrders_demand (f : Orders → Orders) (c : Channel) (s : State) :
    (s.onOrders f).demand c = s.demand c := rfl
@[simp] theorem onOrders_queueOf (f : Orders → Orders) (r : Port) (s : State) :
    (s.onOrders f).queueOf r = s.queueOf r := rfl
@[simp] theorem onOrders_txOf (f : Orders → Orders) (r : Port) (s : State) :
    (s.onOrders f).txOf r = s.txOf r := rfl
@[simp] theorem onOrders_setting (f : Orders → Orders) (x : Setting) (s : State) :
    (s.onOrders f).setting x = s.setting x := rfl
@[simp] theorem onOrders_classField (f : Orders → Orders) (x : ClassField) (s : State) :
    (s.onOrders f).classField x = s.classField x := rfl
@[simp] theorem onOrders_item (f : Orders → Orders) (k : Lane) (n : Nat) (s : State) :
    (s.onOrders f).item k n = s.item k n := rfl
@[simp] theorem onOrders_ownByte (f : Orders → Orders) (s : State) :
    (s.onOrders f).ownByte = s.ownByte := rfl
@[simp] theorem onOrders_mappedAddress (f : Orders → Orders) (k : Lane) (s : State) :
    (s.onOrders f).mappedAddress k = s.mappedAddress k := rfl

/-! ### onLane -/

@[simp] theorem onLane_pending (l : Lane) (f : LaneBox → LaneBox) (s : State) : (s.onLane l f).pending = s.pending := rfl
@[simp] theorem onLane_now (l : Lane) (f : LaneBox → LaneBox) (s : State) : (s.onLane l f).now = s.now := rfl
@[simp] theorem onLane_draws (l : Lane) (f : LaneBox → LaneBox) (s : State) : (s.onLane l f).draws = s.draws := rfl
@[simp] theorem onLane_line (l : Lane) (f : LaneBox → LaneBox) (s : State) : (s.onLane l f).line = s.line := rfl
@[simp] theorem onLane_inputs (l : Lane) (f : LaneBox → LaneBox) (s : State) : (s.onLane l f).inputs = s.inputs := rfl
@[simp] theorem onLane_inReset (l : Lane) (f : LaneBox → LaneBox) (s : State) : (s.onLane l f).inReset = s.inReset := rfl
@[simp] theorem onLane_straps (l : Lane) (f : LaneBox → LaneBox) (s : State) : (s.onLane l f).straps = s.straps := rfl
@[simp] theorem onLane_pickup (l : Lane) (f : LaneBox → LaneBox) (s : State) : (s.onLane l f).pickup = s.pickup := rfl
@[simp] theorem onLane_drive (l : Lane) (f : LaneBox → LaneBox) (s : State) : (s.onLane l f).drive = s.drive := rfl
@[simp] theorem onLane_selector (l : Lane) (f : LaneBox → LaneBox) (s : State) : (s.onLane l f).selector = s.selector := rfl
@[simp] theorem onLane_survey (l : Lane) (f : LaneBox → LaneBox) (s : State) : (s.onLane l f).survey = s.survey := rfl
@[simp] theorem onLane_steering (l : Lane) (f : LaneBox → LaneBox) (s : State) : (s.onLane l f).steering = s.steering := rfl
@[simp] theorem onLane_slurry (l : Lane) (f : LaneBox → LaneBox) (s : State) : (s.onLane l f).slurry = s.slurry := rfl
@[simp] theorem onLane_path (l : Lane) (f : LaneBox → LaneBox) (s : State) : (s.onLane l f).path = s.path := rfl
@[simp] theorem onLane_orders (l : Lane) (f : LaneBox → LaneBox) (s : State) : (s.onLane l f).orders = s.orders := rfl
@[simp] theorem onLane_settings (l : Lane) (f : LaneBox → LaneBox) (s : State) : (s.onLane l f).settings = s.settings := rfl
@[simp] theorem onLane_loopOf (l : Lane) (f : LaneBox → LaneBox) (h : Gear) (s : State) :
    (s.onLane l f).loopOf h = s.loopOf h := rfl
@[simp] theorem onLane_pickupOf (l : Lane) (f : LaneBox → LaneBox) (h : Gear) (s : State) :
    (s.onLane l f).pickupOf h = s.pickupOf h := rfl
@[simp] theorem onLane_queueOf (l : Lane) (f : LaneBox → LaneBox) (r : Port) (s : State) :
    (s.onLane l f).queueOf r = s.queueOf r := rfl
@[simp] theorem onLane_txOf (l : Lane) (f : LaneBox → LaneBox) (r : Port) (s : State) :
    (s.onLane l f).txOf r = s.txOf r := rfl
@[simp] theorem onLane_setting (l : Lane) (f : LaneBox → LaneBox) (x : Setting) (s : State) :
    (s.onLane l f).setting x = s.setting x := rfl
@[simp] theorem onLane_classField (l : Lane) (f : LaneBox → LaneBox) (x : ClassField) (s : State) :
    (s.onLane l f).classField x = s.classField x := rfl
@[simp] theorem onLane_latched (l : Lane) (f : LaneBox → LaneBox) (k : TripKind) (s : State) :
    (s.onLane l f).latched k = s.latched k := rfl
@[simp] theorem onLane_ownByte (l : Lane) (f : LaneBox → LaneBox) (s : State) :
    (s.onLane l f).ownByte = s.ownByte := rfl
@[simp] theorem onLane_mappedAddress (l : Lane) (f : LaneBox → LaneBox) (k : Lane) (s : State) :
    (s.onLane l f).mappedAddress k = s.mappedAddress k := rfl

/-! ### onDemand -/

@[simp] theorem onDemand_pending (ch : Channel) (f : Demand → Demand) (s : State) : (s.onDemand ch f).pending = s.pending := rfl
@[simp] theorem onDemand_now (ch : Channel) (f : Demand → Demand) (s : State) : (s.onDemand ch f).now = s.now := rfl
@[simp] theorem onDemand_draws (ch : Channel) (f : Demand → Demand) (s : State) : (s.onDemand ch f).draws = s.draws := rfl
@[simp] theorem onDemand_line (ch : Channel) (f : Demand → Demand) (s : State) : (s.onDemand ch f).line = s.line := rfl
@[simp] theorem onDemand_inputs (ch : Channel) (f : Demand → Demand) (s : State) : (s.onDemand ch f).inputs = s.inputs := rfl
@[simp] theorem onDemand_inReset (ch : Channel) (f : Demand → Demand) (s : State) : (s.onDemand ch f).inReset = s.inReset := rfl
@[simp] theorem onDemand_straps (ch : Channel) (f : Demand → Demand) (s : State) : (s.onDemand ch f).straps = s.straps := rfl
@[simp] theorem onDemand_pickup (ch : Channel) (f : Demand → Demand) (s : State) : (s.onDemand ch f).pickup = s.pickup := rfl
@[simp] theorem onDemand_drive (ch : Channel) (f : Demand → Demand) (s : State) : (s.onDemand ch f).drive = s.drive := rfl
@[simp] theorem onDemand_selector (ch : Channel) (f : Demand → Demand) (s : State) : (s.onDemand ch f).selector = s.selector := rfl
@[simp] theorem onDemand_survey (ch : Channel) (f : Demand → Demand) (s : State) : (s.onDemand ch f).survey = s.survey := rfl
@[simp] theorem onDemand_steering (ch : Channel) (f : Demand → Demand) (s : State) : (s.onDemand ch f).steering = s.steering := rfl
@[simp] theorem onDemand_slurry (ch : Channel) (f : Demand → Demand) (s : State) : (s.onDemand ch f).slurry = s.slurry := rfl
@[simp] theorem onDemand_path (ch : Channel) (f : Demand → Demand) (s : State) : (s.onDemand ch f).path = s.path := rfl
@[simp] theorem onDemand_orders (ch : Channel) (f : Demand → Demand) (s : State) : (s.onDemand ch f).orders = s.orders := rfl
@[simp] theorem onDemand_settings (ch : Channel) (f : Demand → Demand) (s : State) : (s.onDemand ch f).settings = s.settings := rfl
@[simp] theorem onDemand_loopOf (ch : Channel) (f : Demand → Demand) (h : Gear) (s : State) :
    (s.onDemand ch f).loopOf h = s.loopOf h := rfl
@[simp] theorem onDemand_pickupOf (ch : Channel) (f : Demand → Demand) (h : Gear) (s : State) :
    (s.onDemand ch f).pickupOf h = s.pickupOf h := rfl
@[simp] theorem onDemand_queueOf (ch : Channel) (f : Demand → Demand) (r : Port) (s : State) :
    (s.onDemand ch f).queueOf r = s.queueOf r := rfl
@[simp] theorem onDemand_txOf (ch : Channel) (f : Demand → Demand) (r : Port) (s : State) :
    (s.onDemand ch f).txOf r = s.txOf r := rfl
@[simp] theorem onDemand_setting (ch : Channel) (f : Demand → Demand) (x : Setting) (s : State) :
    (s.onDemand ch f).setting x = s.setting x := rfl
@[simp] theorem onDemand_classField (ch : Channel) (f : Demand → Demand) (x : ClassField) (s : State) :
    (s.onDemand ch f).classField x = s.classField x := rfl
@[simp] theorem onDemand_latched (ch : Channel) (f : Demand → Demand) (k : TripKind) (s : State) :
    (s.onDemand ch f).latched k = s.latched k := rfl
@[simp] theorem onDemand_ownByte (ch : Channel) (f : Demand → Demand) (s : State) :
    (s.onDemand ch f).ownByte = s.ownByte := rfl
@[simp] theorem onDemand_mappedAddress (ch : Channel) (f : Demand → Demand) (k : Lane) (s : State) :
    (s.onDemand ch f).mappedAddress k = s.mappedAddress k := rfl

/-! ### setQueue -/

@[simp] theorem setQueue_pending (p : Port) (q : List Queued) (s : State) : (s.setQueue p q).pending = s.pending := rfl
@[simp] theorem setQueue_now (p : Port) (q : List Queued) (s : State) : (s.setQueue p q).now = s.now := rfl
@[simp] theorem setQueue_draws (p : Port) (q : List Queued) (s : State) : (s.setQueue p q).draws = s.draws := rfl
@[simp] theorem setQueue_line (p : Port) (q : List Queued) (s : State) : (s.setQueue p q).line = s.line := rfl
@[simp] theorem setQueue_inputs (p : Port) (q : List Queued) (s : State) : (s.setQueue p q).inputs = s.inputs := rfl
@[simp] theorem setQueue_inReset (p : Port) (q : List Queued) (s : State) : (s.setQueue p q).inReset = s.inReset := rfl
@[simp] theorem setQueue_straps (p : Port) (q : List Queued) (s : State) : (s.setQueue p q).straps = s.straps := rfl
@[simp] theorem setQueue_pickup (p : Port) (q : List Queued) (s : State) : (s.setQueue p q).pickup = s.pickup := rfl
@[simp] theorem setQueue_drive (p : Port) (q : List Queued) (s : State) : (s.setQueue p q).drive = s.drive := rfl
@[simp] theorem setQueue_selector (p : Port) (q : List Queued) (s : State) : (s.setQueue p q).selector = s.selector := rfl
@[simp] theorem setQueue_survey (p : Port) (q : List Queued) (s : State) : (s.setQueue p q).survey = s.survey := rfl
@[simp] theorem setQueue_steering (p : Port) (q : List Queued) (s : State) : (s.setQueue p q).steering = s.steering := rfl
@[simp] theorem setQueue_slurry (p : Port) (q : List Queued) (s : State) : (s.setQueue p q).slurry = s.slurry := rfl
@[simp] theorem setQueue_lanes (p : Port) (q : List Queued) (s : State) : (s.setQueue p q).lanes = s.lanes := rfl
@[simp] theorem setQueue_orders (p : Port) (q : List Queued) (s : State) : (s.setQueue p q).orders = s.orders := rfl
@[simp] theorem setQueue_settings (p : Port) (q : List Queued) (s : State) : (s.setQueue p q).settings = s.settings := rfl
@[simp] theorem setQueue_loopOf (p : Port) (q : List Queued) (h : Gear) (s : State) :
    (s.setQueue p q).loopOf h = s.loopOf h := rfl
@[simp] theorem setQueue_pickupOf (p : Port) (q : List Queued) (h : Gear) (s : State) :
    (s.setQueue p q).pickupOf h = s.pickupOf h := rfl
@[simp] theorem setQueue_laneOf (p : Port) (q : List Queued) (k : Lane) (s : State) :
    (s.setQueue p q).laneOf k = s.laneOf k := rfl
@[simp] theorem setQueue_demand (p : Port) (q : List Queued) (c : Channel) (s : State) :
    (s.setQueue p q).demand c = s.demand c := rfl
@[simp] theorem setQueue_setting (p : Port) (q : List Queued) (x : Setting) (s : State) :
    (s.setQueue p q).setting x = s.setting x := rfl
@[simp] theorem setQueue_classField (p : Port) (q : List Queued) (x : ClassField) (s : State) :
    (s.setQueue p q).classField x = s.classField x := rfl
@[simp] theorem setQueue_latched (p : Port) (q : List Queued) (k : TripKind) (s : State) :
    (s.setQueue p q).latched k = s.latched k := rfl
@[simp] theorem setQueue_item (p : Port) (q : List Queued) (k : Lane) (n : Nat) (s : State) :
    (s.setQueue p q).item k n = s.item k n := rfl
@[simp] theorem setQueue_ownByte (p : Port) (q : List Queued) (s : State) :
    (s.setQueue p q).ownByte = s.ownByte := rfl

end State

end Sys2Proof.Machine
end

