-- ==== Sys2Proof/Laws/Ops.lean ====
section
/-! SUPPORT. What each shared operation can change: the parts of the state that it leaves, and, of the
lanes and the frame path, everything but the demand records, the refresh timers, the pending
compositions, the free list and the lane queues. -/

namespace Sys2Proof.Machine

/-! ## Receive areas (R134) -/

@[simp] theorem ReceiveArea.take_received (a : ReceiveArea) (c : Byte) :
    (a.take c).received = a.received + 1 := rfl

@[simp] theorem ReceiveArea.take_stopLow (a : ReceiveArea) (c : Byte) :
    (a.take c).stopLow = a.stopLow := rfl

theorem ReceiveArea.foldl_take_received (cs : List Byte) (a : ReceiveArea) :
    (cs.foldl ReceiveArea.take a).received = a.received + cs.length := by
  induction cs generalizing a with
  | nil => rfl
  | cons c cs ih => rw [List.foldl_cons, ih]; simp; omega

theorem ReceiveArea.foldl_take_stored (cs : List Byte) (a : ReceiveArea)
    (h : a.stored.length ≤ receiveLimit) :
    (cs.foldl ReceiveArea.take a).stored = (a.stored ++ cs).take receiveLimit := by
  induction cs generalizing a with
  | nil => simp [List.take_of_length_le h]
  | cons c cs ih =>
    rw [List.foldl_cons]
    by_cases hl : a.stored.length < receiveLimit
    · have hs : (a.take c).stored = a.stored ++ [c] := by simp [ReceiveArea.take, hl]
      rw [ih _ (by rw [hs]; simp; omega), hs]; simp
    · have hs : (a.take c).stored = a.stored := by simp [ReceiveArea.take, hl]
      have he : a.stored.length = receiveLimit := by omega
      rw [ih _ (by rw [hs]; exact h), hs, List.take_append_of_le_length (by omega),
        List.take_append_of_le_length (by omega)]

/-- What an empty receive area holds once characters have come: the first 54 of them, how many they
were, and the flag for a low stop bit. -/
theorem received_eq (rx : Reception) :
    received rx = ⟨rx.chars.take receiveLimit, rx.chars.length, rx.stopLow⟩ := by
  have hs := ReceiveArea.foldl_take_stored rx.chars .empty (by decide)
  have hr := ReceiveArea.foldl_take_received rx.chars .empty
  simp only [received, ReceiveArea.gather, ReceiveArea.mk.injEq]
  exact ⟨by simpa [ReceiveArea.empty] using hs, by simpa [ReceiveArea.empty] using hr, rfl⟩

/-- The arrival of characters that the part discards leaves what emptying the area leaves. -/
@[simp] theorem emptyArea_storeChars (p : Port) (rx : Reception) (s : State) :
    emptyArea p (storeChars p rx s) = emptyArea p s := by
  simp [emptyArea, storeChars, State.onPath]

/-- `t` is as `s` but for demand records (their last sent values apart), refresh timers, pending
compositions, the free list and the lane queues: what compositions can change in lanes and path. -/
structure LanesKept (s t : State) : Prop where
  lane : ∀ l, t.laneOf l = { s.laneOf l with
    refresh := (t.laneOf l).refresh, compose := (t.laneOf l).compose }
  envelope : t.lanes.envelope = s.lanes.envelope
  path : t.path = { s.path with free := t.path.free, queue := t.path.queue }
  upper : t.queueOf .shaft = s.queueOf .shaft
  sent : ∀ ch, (t.demand ch).lastSent = (s.demand ch).lastSent

theorem LanesKept.refl (s : State) : LanesKept s s := ⟨fun _ => rfl, rfl, rfl, rfl, fun _ => rfl⟩

theorem LanesKept.of_eq {s t : State} (hl : t.lanes = s.lanes) (hp : t.path = s.path) :
    LanesKept s t := by
  refine ⟨fun l => ?_, by rw [hl], by rw [hp], ?_, fun ch => ?_⟩
  · simp [State.laneOf, hl]
  · simp [State.queueOf, hp]
  · cases ch <;> simp [State.demand, hl]

theorem LanesKept.trans {s t u : State} (h : LanesKept s t) (k : LanesKept t u) :
    LanesKept s u := by
  refine ⟨fun l => ?_, k.envelope.trans h.envelope, ?_, k.upper.trans h.upper,
    fun ch => (k.sent ch).trans (h.sent ch)⟩
  · rw [k.lane l, h.lane l]
  · rw [k.path, h.path]

theorem LanesKept.item {s t : State} (h : LanesKept s t) (l : Lane) (n : Nat) :
    t.item l n = s.item l n := by rw [State.item, State.item, h.lane l]

theorem LanesKept.laneState {s t : State} (h : LanesKept s t) (l : Lane) :
    (t.laneOf l).state = (s.laneOf l).state := by rw [h.lane l]

theorem LanesKept.fresh {s t : State} (h : LanesKept s t) (l : Lane) :
    (t.laneOf l).fresh = (s.laneOf l).fresh := by rw [h.lane l]

theorem LanesKept.pressure {s t : State} (h : LanesKept s t) (g : Gear) :
    t.pressure g = s.pressure g := by cases g <;> exact h.item _ _

theorem LanesKept.mappedAddress {s t : State} (h : LanesKept s t) (l : Lane) :
    t.mappedAddress l = s.mappedAddress l := by rw [State.mappedAddress, State.mappedAddress, h.path]

theorem LanesKept.txOf {s t : State} (h : LanesKept s t) (p : Port) : t.txOf p = s.txOf p := by
  rw [State.txOf, State.txOf, h.path]

/-! ## Compositions of DEMAND frames -/

theorem enqueue_eq (p : Port) (tag : Tag) (f : Frame) (s : State) :
    enqueue p tag f s = { s with path := (enqueue p tag f s).path } := by
  unfold enqueue; split <;> rfl

@[simp] theorem enqueue_pending (p : Port) (tag : Tag) (f : Frame) (s : State) :
    (enqueue p tag f s).pending = s.pending := by rw [enqueue_eq]
@[simp] theorem enqueue_now (p : Port) (tag : Tag) (f : Frame) (s : State) :
    (enqueue p tag f s).now = s.now := by rw [enqueue_eq]
@[simp] theorem enqueue_draws (p : Port) (tag : Tag) (f : Frame) (s : State) :
    (enqueue p tag f s).draws = s.draws := by rw [enqueue_eq]
@[simp] theorem enqueue_line (p : Port) (tag : Tag) (f : Frame) (s : State) :
    (enqueue p tag f s).line = s.line := by rw [enqueue_eq]
@[simp] theorem enqueue_inputs (p : Port) (tag : Tag) (f : Frame) (s : State) :
    (enqueue p tag f s).inputs = s.inputs := by rw [enqueue_eq]
@[simp] theorem enqueue_inReset (p : Port) (tag : Tag) (f : Frame) (s : State) :
    (enqueue p tag f s).inReset = s.inReset := by rw [enqueue_eq]
@[simp] theorem enqueue_straps (p : Port) (tag : Tag) (f : Frame) (s : State) :
    (enqueue p tag f s).straps = s.straps := by rw [enqueue_eq]
@[simp] theorem enqueue_pickup (p : Port) (tag : Tag) (f : Frame) (s : State) :
    (enqueue p tag f s).pickup = s.pickup := by rw [enqueue_eq]
@[simp] theorem enqueue_drive (p : Port) (tag : Tag) (f : Frame) (s : State) :
    (enqueue p tag f s).drive = s.drive := by rw [enqueue_eq]
@[simp] theorem enqueue_selector (p : Port) (tag : Tag) (f : Frame) (s : State) :
    (enqueue p tag f s).selector = s.selector := by rw [enqueue_eq]
@[simp] theorem enqueue_survey (p : Port) (tag : Tag) (f : Frame) (s : State) :
    (enqueue p tag f s).survey = s.survey := by rw [enqueue_eq]
@[simp] theorem enqueue_steering (p : Port) (tag : Tag) (f : Frame) (s : State) :
    (enqueue p tag f s).steering = s.steering := by rw [enqueue_eq]
@[simp] theorem enqueue_slurry (p : Port) (tag : Tag) (f : Frame) (s : State) :
    (enqueue p tag f s).slurry = s.slurry := by rw [enqueue_eq]
@[simp] theorem enqueue_lanes (p : Port) (tag : Tag) (f : Frame) (s : State) :
    (enqueue p tag f s).lanes = s.lanes := by rw [enqueue_eq]
@[simp] theorem enqueue_orders (p : Port) (tag : Tag) (f : Frame) (s : State) :
    (enqueue p tag f s).orders = s.orders := by rw [enqueue_eq]
@[simp] theorem enqueue_settings (p : Port) (tag : Tag) (f : Frame) (s : State) :
    (enqueue p tag f s).settings = s.settings := by rw [enqueue_eq]
@[simp] theorem enqueue_loopOf (p : Port) (tag : Tag) (f : Frame) (h : Gear) (s : State) :
    (enqueue p tag f s).loopOf h = s.loopOf h := by rw [enqueue_eq]; rfl
@[simp] theorem enqueue_pickupOf (p : Port) (tag : Tag) (f : Frame) (h : Gear) (s : State) :
    (enqueue p tag f s).pickupOf h = s.pickupOf h := by rw [enqueue_eq]; rfl
@[simp] theorem enqueue_setting (p : Port) (tag : Tag) (f : Frame) (x : Setting) (s : State) :
    (enqueue p tag f s).setting x = s.setting x := by rw [enqueue_eq]; rfl
@[simp] theorem enqueue_classField (p : Port) (tag : Tag) (f : Frame) (x : ClassField) (s : State) :
    (enqueue p tag f s).classField x = s.classField x := by rw [enqueue_eq]; rfl
@[simp] theorem enqueue_latched (p : Port) (tag : Tag) (f : Frame) (x : TripKind) (s : State) :
    (enqueue p tag f s).latched x = s.latched x := by rw [enqueue_eq]; rfl
@[simp] theorem enqueue_ownByte (p : Port) (tag : Tag) (f : Frame) (s : State) :
    (enqueue p tag f s).ownByte = s.ownByte := by rw [enqueue_eq]; rfl

/-- With a buffer free, the frame takes the one at the head and goes to the tail. -/
theorem enqueue_cons {p : Port} {tag : Tag} {f : Frame} {s : State} {b : Nat} {rest : List Nat}
    (h : s.path.free = b :: rest) :
    enqueue p tag f s = s.onPath fun x =>
      { x with free := rest, queue := x.queue.set p (x.queue.get p ++ [⟨b, tag, f⟩]) } := by
  simp [enqueue, h]

theorem enqueue_lane_kept (l : Lane) (tag : Tag) (f : Frame) (s : State) :
    LanesKept s (enqueue (.lane l) tag f s) := by
  unfold enqueue; split
  · exact .refl s
  · exact ⟨fun _ => rfl, rfl, rfl, rfl, fun ch => by cases ch <;> rfl⟩

theorem refreshWaiting_eq (p : Port) (tag : Tag) (f : Frame) (s : State) :
    refreshWaiting p tag f s = { s with path := (refreshWaiting p tag f s).path } := rfl

@[simp] theorem refreshWaiting_pending (p : Port) (tag : Tag) (f : Frame) (s : State) :
    (refreshWaiting p tag f s).pending = s.pending := by rw [refreshWaiting_eq]
@[simp] theorem refreshWaiting_now (p : Port) (tag : Tag) (f : Frame) (s : State) :
    (refreshWaiting p tag f s).now = s.now := by rw [refreshWaiting_eq]
@[simp] theorem refreshWaiting_draws (p : Port) (tag : Tag) (f : Frame) (s : State) :
    (refreshWaiting p tag f s).draws = s.draws := by rw [refreshWaiting_eq]
@[simp] theorem refreshWaiting_line (p : Port) (tag : Tag) (f : Frame) (s : State) :
    (refreshWaiting p tag f s).line = s.line := by rw [refreshWaiting_eq]
@[simp] theorem refreshWaiting_inputs (p : Port) (tag : Tag) (f : Frame) (s : State) :
    (refreshWaiting p tag f s).inputs = s.inputs := by rw [refreshWaiting_eq]
@[simp] theorem refreshWaiting_inReset (p : Port) (tag : Tag) (f : Frame) (s : State) :
    (refreshWaiting p tag f s).inReset = s.inReset := by rw [refreshWaiting_eq]
@[simp] theorem refreshWaiting_straps (p : Port) (tag : Tag) (f : Frame) (s : State) :
    (refreshWaiting p tag f s).straps = s.straps := by rw [refreshWaiting_eq]
@[simp] theorem refreshWaiting_pickup (p : Port) (tag : Tag) (f : Frame) (s : State) :
    (refreshWaiting p tag f s).pickup = s.pickup := by rw [refreshWaiting_eq]
@[simp] theorem refreshWaiting_drive (p : Port) (tag : Tag) (f : Frame) (s : State) :
    (refreshWaiting p tag f s).drive = s.drive := by rw [refreshWaiting_eq]
@[simp] theorem refreshWaiting_selector (p : Port) (tag : Tag) (f : Frame) (s : State) :
    (refreshWaiting p tag f s).selector = s.selector := by rw [refreshWaiting_eq]
@[simp] theorem refreshWaiting_survey (p : Port) (tag : Tag) (f : Frame) (s : State) :
    (refreshWaiting p tag f s).survey = s.survey := by rw [refreshWaiting_eq]
@[simp] theorem refreshWaiting_steering (p : Port) (tag : Tag) (f : Frame) (s : State) :
    (refreshWaiting p tag f s).steering = s.steering := by rw [refreshWaiting_eq]
@[simp] theorem refreshWaiting_slurry (p : Port) (tag : Tag) (f : Frame) (s : State) :
    (refreshWaiting p tag f s).slurry = s.slurry := by rw [refreshWaiting_eq]
@[simp] theorem refreshWaiting_lanes (p : Port) (tag : Tag) (f : Frame) (s : State) :
    (refreshWaiting p tag f s).lanes = s.lanes := by rw [refreshWaiting_eq]
@[simp] theorem refreshWaiting_orders (p : Port) (tag : Tag) (f : Frame) (s : State) :
    (refreshWaiting p tag f s).orders = s.orders := by rw [refreshWaiting_eq]
@[simp] theorem refreshWaiting_settings (p : Port) (tag : Tag) (f : Frame) (s : State) :
    (refreshWaiting p tag f s).settings = s.settings := by rw [refreshWaiting_eq]
@[simp] theorem refreshWaiting_loopOf (p : Port) (tag : Tag) (f : Frame) (h : Gear) (s : State) :
    (refreshWaiting p tag f s).loopOf h = s.loopOf h := by rw [refreshWaiting_eq]; rfl
@[simp] theorem refreshWaiting_pickupOf (p : Port) (tag : Tag) (f : Frame) (h : Gear) (s : State) :
    (refreshWaiting p tag f s).pickupOf h = s.pickupOf h := by rw [refreshWaiting_eq]; rfl
@[simp] theorem refreshWaiting_setting (p : Port) (tag : Tag) (f : Frame) (x : Setting) (s : State) :
    (refreshWaiting p tag f s).setting x = s.setting x := by rw [refreshWaiting_eq]; rfl
@[simp] theorem refreshWaiting_classField (p : Port) (tag : Tag) (f : Frame) (x : ClassField) (s : State) :
    (refreshWaiting p tag f s).classField x = s.classField x := by rw [refreshWaiting_eq]; rfl
@[simp] theorem refreshWaiting_latched (p : Port) (tag : Tag) (f : Frame) (x : TripKind) (s : State) :
    (refreshWaiting p tag f s).latched x = s.latched x := by rw [refreshWaiting_eq]; rfl
@[simp] theorem refreshWaiting_ownByte (p : Port) (tag : Tag) (f : Frame) (s : State) :
    (refreshWaiting p tag f s).ownByte = s.ownByte := by rw [refreshWaiting_eq]; rfl

theorem refreshWaiting_lane_kept (l : Lane) (tag : Tag) (f : Frame) (s : State) :
    LanesKept s (refreshWaiting (.lane l) tag f s) :=
  ⟨fun _ => rfl, rfl, rfl, rfl, fun ch => by cases ch <;> rfl⟩

/-- Steps that each change the lane block alone change it alone together. -/
theorem foldl_lanes_eq {α : Type} {g : State → α → State}
    (hg : ∀ t a, ∃ b, g t a = { t with lanes := b }) :
    ∀ (as : List α) (s : State), ∃ b, as.foldl g s = { s with lanes := b }
  | [], s => ⟨s.lanes, rfl⟩
  | a :: as, s => by
    obtain ⟨b, hb⟩ := foldl_lanes_eq hg as (g s a)
    obtain ⟨c, hc⟩ := hg s a
    exact ⟨b, by rw [List.foldl_cons, hb, hc]⟩

theorem markClamped_eq (l : Lane) (s : State) :
    markClamped l s = { s with lanes := (markClamped l s).lanes } := by
  obtain ⟨b, hb⟩ := foldl_lanes_eq (g := fun t ch => t.onDemand ch fun d =>
    { d with clamped := s.outsideEnvelope ch }) (fun _ _ => ⟨_, rfl⟩) (laneChannels l) s
  rw [show markClamped l s = { s with lanes := b } from hb]

@[simp] theorem markClamped_pending (l : Lane) (s : State) :
    (markClamped l s).pending = s.pending := by rw [markClamped_eq]
@[simp] theorem markClamped_now (l : Lane) (s : State) :
    (markClamped l s).now = s.now := by rw [markClamped_eq]
@[simp] theorem markClamped_draws (l : Lane) (s : State) :
    (markClamped l s).draws = s.draws := by rw [markClamped_eq]
@[simp] theorem markClamped_line (l : Lane) (s : State) :
    (markClamped l s).line = s.line := by rw [markClamped_eq]
@[simp] theorem markClamped_inputs (l : Lane) (s : State) :
    (markClamped l s).inputs = s.inputs := by rw [markClamped_eq]
@[simp] theorem markClamped_inReset (l : Lane) (s : State) :
    (markClamped l s).inReset = s.inReset := by rw [markClamped_eq]
@[simp] theorem markClamped_straps (l : Lane) (s : State) :
    (markClamped l s).straps = s.straps := by rw [markClamped_eq]
@[simp] theorem markClamped_pickup (l : Lane) (s : State) :
    (markClamped l s).pickup = s.pickup := by rw [markClamped_eq]
@[simp] theorem markClamped_drive (l : Lane) (s : State) :
    (markClamped l s).drive = s.drive := by rw [markClamped_eq]
@[simp] theorem markClamped_selector (l : Lane) (s : State) :
    (markClamped l s).selector = s.selector := by rw [markClamped_eq]
@[simp] theorem markClamped_survey (l : Lane) (s : State) :
    (markClamped l s).survey = s.survey := by rw [markClamped_eq]
@[simp] theorem markClamped_steering (l : Lane) (s : State) :
    (markClamped l s).steering = s.steering := by rw [markClamped_eq]
@[simp] theorem markClamped_slurry (l : Lane) (s : State) :
    (markClamped l s).slurry = s.slurry := by rw [markClamped_eq]
@[simp] theorem markClamped_path (l : Lane) (s : State) :
    (markClamped l s).path = s.path := by rw [markClamped_eq]
@[simp] theorem markClamped_orders (l : Lane) (s : State) :
    (markClamped l s).orders = s.orders := by rw [markClamped_eq]
@[simp] theorem markClamped_settings (l : Lane) (s : State) :
    (markClamped l s).settings = s.settings := by rw [markClamped_eq]
@[simp] theorem markClamped_loopOf (l : Lane) (h : Gear) (s : State) :
    (markClamped l s).loopOf h = s.loopOf h := by rw [markClamped_eq]; rfl
@[simp] theorem markClamped_pickupOf (l : Lane) (h : Gear) (s : State) :
    (markClamped l s).pickupOf h = s.pickupOf h := by rw [markClamped_eq]; rfl
@[simp] theorem markClamped_setting (l : Lane) (x : Setting) (s : State) :
    (markClamped l s).setting x = s.setting x := by rw [markClamped_eq]; rfl
@[simp] theorem markClamped_classField (l : Lane) (x : ClassField) (s : State) :
    (markClamped l s).classField x = s.classField x := by rw [markClamped_eq]; rfl
@[simp] theorem markClamped_latched (l : Lane) (x : TripKind) (s : State) :
    (markClamped l s).latched x = s.latched x := by rw [markClamped_eq]; rfl
@[simp] theorem markClamped_ownByte (l : Lane) (s : State) :
    (markClamped l s).ownByte = s.ownByte := by rw [markClamped_eq]; rfl

/-- The clamped flags of the lane's channels are set or cleared; nothing else changes. -/
theorem markClamped_demand (l : Lane) (s : State) (ch : Channel) :
    (markClamped l s).demand ch =
      if ch ∈ laneChannels l then { s.demand ch with clamped := s.outsideEnvelope ch }
      else s.demand ch := by
  cases l <;> rcases ch with g | p | _ <;> (try cases g) <;> (try cases p) <;> rfl

theorem markClamped_kept (l : Lane) (s : State) : LanesKept s (markClamped l s) := by
  refine ⟨fun k => ?_, ?_, by simp, by simp [State.queueOf], fun ch => ?_⟩
  · cases l <;> cases k <;> rfl
  · cases l <;> rfl
  · rw [markClamped_demand]; split <;> rfl

theorem sendDemand_eq (l : Lane) (a : Nat) (s : State) :
    sendDemand l a s = { s with lanes := (sendDemand l a s).lanes
                                path := (sendDemand l a s).path } := by
  unfold sendDemand
  simp only
  split
  · rw [refreshWaiting_eq, markClamped_eq]; rfl
  · rw [enqueue_eq, markClamped_eq]; rfl

theorem onLane_timers_kept (l : Lane) (r : LaneBox → Timer) (c : LaneBox → Bool) (s : State) :
    LanesKept s (s.onLane l fun b => { b with refresh := r b, compose := c b }) := by
  refine ⟨fun k => ?_, rfl, rfl, rfl, fun ch => by simp⟩
  rw [State.laneOf_onLane]; split <;> simp_all

theorem sendDemand_kept (l : Lane) (a : Nat) (s : State) : LanesKept s (sendDemand l a s) := by
  unfold sendDemand
  simp only
  refine .trans ?_ (onLane_timers_kept l (fun _ => s.startMs .refreshInterval) LaneBox.compose _)
  split
  · exact (markClamped_kept l s).trans (refreshWaiting_lane_kept ..)
  · exact (markClamped_kept l s).trans (enqueue_lane_kept ..)

theorem composeDue_eq (l : Lane) (s : State) :
    composeDue l s = { s with lanes := (composeDue l s).lanes, path := (composeDue l s).path } := by
  unfold composeDue
  split
  · rfl
  · split
    · rfl
    · split
      · rfl
      · rw [sendDemand_eq]

@[simp] theorem composeDue_pending (l : Lane) (s : State) :
    (composeDue l s).pending = s.pending := by rw [composeDue_eq]
@[simp] theorem composeDue_now (l : Lane) (s : State) :
    (composeDue l s).now = s.now := by rw [composeDue_eq]
@[simp] theorem composeDue_draws (l : Lane) (s : State) :
    (composeDue l s).draws = s.draws := by rw [composeDue_eq]
@[simp] theorem composeDue_line (l : Lane) (s : State) :
    (composeDue l s).line = s.line := by rw [composeDue_eq]
@[simp] theorem composeDue_inputs (l : Lane) (s : State) :
    (composeDue l s).inputs = s.inputs := by rw [composeDue_eq]
@[simp] theorem composeDue_inReset (l : Lane) (s : State) :
    (composeDue l s).inReset = s.inReset := by rw [composeDue_eq]
@[simp] theorem composeDue_straps (l : Lane) (s : State) :
    (composeDue l s).straps = s.straps := by rw [composeDue_eq]
@[simp] theorem composeDue_pickup (l : Lane) (s : State) :
    (composeDue l s).pickup = s.pickup := by rw [composeDue_eq]
@[simp] theorem composeDue_drive (l : Lane) (s : State) :
    (composeDue l s).drive = s.drive := by rw [composeDue_eq]
@[simp] theorem composeDue_selector (l : Lane) (s : State) :
    (composeDue l s).selector = s.selector := by rw [composeDue_eq]
@[simp] theorem composeDue_survey (l : Lane) (s : State) :
    (composeDue l s).survey = s.survey := by rw [composeDue_eq]
@[simp] theorem composeDue_steering (l : Lane) (s : State) :
    (composeDue l s).steering = s.steering := by rw [composeDue_eq]
@[simp] theorem composeDue_slurry (l : Lane) (s : State) :
    (composeDue l s).slurry = s.slurry := by rw [composeDue_eq]
@[simp] theorem composeDue_orders (l : Lane) (s : State) :
    (composeDue l s).orders = s.orders := by rw [composeDue_eq]
@[simp] theorem composeDue_settings (l : Lane) (s : State) :
    (composeDue l s).settings = s.settings := by rw [composeDue_eq]
@[simp] theorem composeDue_loopOf (l : Lane) (h : Gear) (s : State) :
    (composeDue l s).loopOf h = s.loopOf h := by rw [composeDue_eq]; rfl
@[simp] theorem composeDue_pickupOf (l : Lane) (h : Gear) (s : State) :
    (composeDue l s).pickupOf h = s.pickupOf h := by rw [composeDue_eq]; rfl
@[simp] theorem composeDue_setting (l : Lane) (x : Setting) (s : State) :
    (composeDue l s).setting x = s.setting x := by rw [composeDue_eq]; rfl
@[simp] theorem composeDue_classField (l : Lane) (x : ClassField) (s : State) :
    (composeDue l s).classField x = s.classField x := by rw [composeDue_eq]; rfl
@[simp] theorem composeDue_latched (l : Lane) (x : TripKind) (s : State) :
    (composeDue l s).latched x = s.latched x := by rw [composeDue_eq]; rfl
@[simp] theorem composeDue_ownByte (l : Lane) (s : State) :
    (composeDue l s).ownByte = s.ownByte := by rw [composeDue_eq]; rfl

theorem composeDue_kept (l : Lane) (s : State) : LanesKept s (composeDue l s) := by
  unfold composeDue
  split
  · exact .refl s
  · split
    · exact .refl s
    · split
      · exact onLane_timers_kept l LaneBox.refresh (fun _ => true) s
      · exact sendDemand_kept ..

/-- A composition changes of a demand record only the clamped flag. -/
theorem composeDue_demand (l : Lane) (s : State) (ch : Channel) :
    (composeDue l s).demand ch =
      { s.demand ch with clamped := ((composeDue l s).demand ch).clamped } := by
  have key : ∀ a, (sendDemand l a s).demand ch =
      { s.demand ch with clamped := ((sendDemand l a s).demand ch).clamped } := by
    intro a
    have h : (sendDemand l a s).demand ch = (markClamped l s).demand ch := by
      unfold sendDemand
      simp only [State.demand_onLane]
      split
      · cases ch <;> rfl
      · unfold enqueue; split <;> cases ch <;> rfl
    rw [h, markClamped_demand]; split <;> rfl
  unfold composeDue
  split
  · rfl
  · split
    · rfl
    · split
      · simp
      · exact key _

@[simp] theorem composeDue_requested (l : Lane) (s : State) (ch : Channel) :
    ((composeDue l s).demand ch).requested = (s.demand ch).requested := by rw [composeDue_demand]

@[simp] theorem composeDue_owner (l : Lane) (s : State) (ch : Channel) :
    ((composeDue l s).demand ch).owner = (s.demand ch).owner := by rw [composeDue_demand]

@[simp] theorem composeDue_deadman (l : Lane) (s : State) (ch : Channel) :
    ((composeDue l s).demand ch).deadman = (s.demand ch).deadman := by rw [composeDue_demand]

/-! ## Requested values and owners -/

theorem setRequested_eq (ch : Channel) (v : Int) (s : State) :
    setRequested ch v s = { s with lanes := (setRequested ch v s).lanes
                                   path := (setRequested ch v s).path } := by
  unfold setRequested
  split
  · rfl
  · rw [composeDue_eq]; rfl

@[simp] theorem setRequested_pending (ch : Channel) (v : Int) (s : State) :
    (setRequested ch v s).pending = s.pending := by rw [setRequested_eq]
@[simp] theorem setRequested_now (ch : Channel) (v : Int) (s : State) :
    (setRequested ch v s).now = s.now := by rw [setRequested_eq]
@[simp] theorem setRequested_draws (ch : Channel) (v : Int) (s : State) :
    (setRequested ch v s).draws = s.draws := by rw [setRequested_eq]
@[simp] theorem setRequested_line (ch : Channel) (v : Int) (s : State) :
    (setRequested ch v s).line = s.line := by rw [setRequested_eq]
@[simp] theorem setRequested_inputs (ch : Channel) (v : Int) (s : State) :
    (setRequested ch v s).inputs = s.inputs := by rw [setRequested_eq]
@[simp] theorem setRequested_inReset (ch : Channel) (v : Int) (s : State) :
    (setRequested ch v s).inReset = s.inReset := by rw [setRequested_eq]
@[simp] theorem setRequested_straps (ch : Channel) (v : Int) (s : State) :
    (setRequested ch v s).straps = s.straps := by rw [setRequested_eq]
@[simp] theorem setRequested_pickup (ch : Channel) (v : Int) (s : State) :
    (setRequested ch v s).pickup = s.pickup := by rw [setRequested_eq]
@[simp] theorem setRequested_drive (ch : Channel) (v : Int) (s : State) :
    (setRequested ch v s).drive = s.drive := by rw [setRequested_eq]
@[simp] theorem setRequested_selector (ch : Channel) (v : Int) (s : State) :
    (setRequested ch v s).selector = s.selector := by rw [setRequested_eq]
@[simp] theorem setRequested_survey (ch : Channel) (v : Int) (s : State) :
    (setRequested ch v s).survey = s.survey := by rw [setRequested_eq]
@[simp] theorem setRequested_steering (ch : Channel) (v : Int) (s : State) :
    (setRequested ch v s).steering = s.steering := by rw [setRequested_eq]
@[simp] theorem setRequested_slurry (ch : Channel) (v : Int) (s : State) :
    (setRequested ch v s).slurry = s.slurry := by rw [setRequested_eq]
@[simp] theorem setRequested_orders (ch : Channel) (v : Int) (s : State) :
    (setRequested ch v s).orders = s.orders := by rw [setRequested_eq]
@[simp] theorem setRequested_settings (ch : Channel) (v : Int) (s : State) :
    (setRequested ch v s).settings = s.settings := by rw [setRequested_eq]
@[simp] theorem setRequested_loopOf (ch : Channel) (v : Int) (h : Gear) (s : State) :
    (setRequested ch v s).loopOf h = s.loopOf h := by rw [setRequested_eq]; rfl
@[simp] theorem setRequested_pickupOf (ch : Channel) (v : Int) (h : Gear) (s : State) :
    (setRequested ch v s).pickupOf h = s.pickupOf h := by rw [setRequested_eq]; rfl
@[simp] theorem setRequested_setting (ch : Channel) (v : Int) (x : Setting) (s : State) :
    (setRequested ch v s).setting x = s.setting x := by rw [setRequested_eq]; rfl
@[simp] theorem setRequested_classField (ch : Channel) (v : Int) (x : ClassField) (s : State) :
    (setRequested ch v s).classField x = s.classField x := by rw [setRequested_eq]; rfl
@[simp] theorem setRequested_latched (ch : Channel) (v : Int) (x : TripKind) (s : State) :
    (setRequested ch v s).latched x = s.latched x := by rw [setRequested_eq]; rfl
@[simp] theorem setRequested_ownByte (ch : Channel) (v : Int) (s : State) :
    (setRequested ch v s).ownByte = s.ownByte := by rw [setRequested_eq]; rfl

theorem onDemand_kept (ch : Channel) (f : Demand → Demand) (s : State)
    (h : ∀ d, (f d).lastSent = d.lastSent) : LanesKept s (s.onDemand ch f) := by
  refine ⟨fun k => by simp, by simp, rfl, rfl, fun c => ?_⟩
  rw [State.demand_onDemand]; split
  · rw [h]; simp_all
  · rfl

theorem setRequested_kept (ch : Channel) (v : Int) (s : State) :
    LanesKept s (setRequested ch v s) := by
  unfold setRequested
  split
  · exact .refl s
  · exact (onDemand_kept ch (fun d => { d with requested := v }) s fun _ => rfl).trans
      (composeDue_kept ..)

@[simp] theorem setRequested_requested (ch c : Channel) (v : Int) (s : State) :
    ((setRequested ch v s).demand c).requested =
      if c = ch then v else (s.demand c).requested := by
  unfold setRequested
  split
  · split <;> simp_all
  · simp; split <;> simp_all

@[simp] theorem setRequested_owner (ch c : Channel) (v : Int) (s : State) :
    ((setRequested ch v s).demand c).owner = (s.demand c).owner := by
  unfold setRequested
  split
  · rfl
  · simp; split <;> simp_all

@[simp] theorem setRequested_deadman (ch c : Channel) (v : Int) (s : State) :
    ((setRequested ch v s).demand c).deadman = (s.demand c).deadman := by
  unfold setRequested
  split
  · rfl
  · simp; split <;> simp_all

theorem setOwner_eq (ch : Channel) (o : Owner) (s : State) :
    setOwner ch o s = { s with lanes := (setOwner ch o s).lanes } := by
  unfold setOwner; split <;> rfl

@[simp] theorem setOwner_pending (ch : Channel) (o : Owner) (s : State) :
    (setOwner ch o s).pending = s.pending := by rw [setOwner_eq]
@[simp] theorem setOwner_now (ch : Channel) (o : Owner) (s : State) :
    (setOwner ch o s).now = s.now := by rw [setOwner_eq]
@[simp] theorem setOwner_draws (ch : Channel) (o : Owner) (s : State) :
    (setOwner ch o s).draws = s.draws := by rw [setOwner_eq]
@[simp] theorem setOwner_line (ch : Channel) (o : Owner) (s : State) :
    (setOwner ch o s).line = s.line := by rw [setOwner_eq]
@[simp] theorem setOwner_inputs (ch : Channel) (o : Owner) (s : State) :
    (setOwner ch o s).inputs = s.inputs := by rw [setOwner_eq]
@[simp] theorem setOwner_inReset (ch : Channel) (o : Owner) (s : State) :
    (setOwner ch o s).inReset = s.inReset := by rw [setOwner_eq]
@[simp] theorem setOwner_straps (ch : Channel) (o : Owner) (s : State) :
    (setOwner ch o s).straps = s.straps := by rw [setOwner_eq]
@[simp] theorem setOwner_pickup (ch : Channel) (o : Owner) (s : State) :
    (setOwner ch o s).pickup = s.pickup := by rw [setOwner_eq]
@[simp] theorem setOwner_drive (ch : Channel) (o : Owner) (s : State) :
    (setOwner ch o s).drive = s.drive := by rw [setOwner_eq]
@[simp] theorem setOwner_selector (ch : Channel) (o : Owner) (s : State) :
    (setOwner ch o s).selector = s.selector := by rw [setOwner_eq]
@[simp] theorem setOwner_survey (ch : Channel) (o : Owner) (s : State) :
    (setOwner ch o s).survey = s.survey := by rw [setOwner_eq]
@[simp] theorem setOwner_steering (ch : Channel) (o : Owner) (s : State) :
    (setOwner ch o s).steering = s.steering := by rw [setOwner_eq]
@[simp] theorem setOwner_slurry (ch : Channel) (o : Owner) (s : State) :
    (setOwner ch o s).slurry = s.slurry := by rw [setOwner_eq]
@[simp] theorem setOwner_path (ch : Channel) (o : Owner) (s : State) :
    (setOwner ch o s).path = s.path := by rw [setOwner_eq]
@[simp] theorem setOwner_orders (ch : Channel) (o : Owner) (s : State) :
    (setOwner ch o s).orders = s.orders := by rw [setOwner_eq]
@[simp] theorem setOwner_settings (ch : Channel) (o : Owner) (s : State) :
    (setOwner ch o s).settings = s.settings := by rw [setOwner_eq]
@[simp] theorem setOwner_loopOf (ch : Channel) (o : Owner) (h : Gear) (s : State) :
    (setOwner ch o s).loopOf h = s.loopOf h := by rw [setOwner_eq]; rfl
@[simp] theorem setOwner_pickupOf (ch : Channel) (o : Owner) (h : Gear) (s : State) :
    (setOwner ch o s).pickupOf h = s.pickupOf h := by rw [setOwner_eq]; rfl
@[simp] theorem setOwner_setting (ch : Channel) (o : Owner) (x : Setting) (s : State) :
    (setOwner ch o s).setting x = s.setting x := by rw [setOwner_eq]; rfl
@[simp] theorem setOwner_classField (ch : Channel) (o : Owner) (x : ClassField) (s : State) :
    (setOwner ch o s).classField x = s.classField x := by rw [setOwner_eq]; rfl
@[simp] theorem setOwner_latched (ch : Channel) (o : Owner) (x : TripKind) (s : State) :
    (setOwner ch o s).latched x = s.latched x := by rw [setOwner_eq]; rfl
@[simp] theorem setOwner_ownByte (ch : Channel) (o : Owner) (s : State) :
    (setOwner ch o s).ownByte = s.ownByte := by rw [setOwner_eq]; rfl

theorem setOwner_kept (ch : Channel) (o : Owner) (s : State) : LanesKept s (setOwner ch o s) := by
  unfold setOwner
  split
  · exact .refl s
  · exact onDemand_kept _ _ _ fun _ => rfl

@[simp] theorem setOwner_requested (ch c : Channel) (o : Owner) (s : State) :
    ((setOwner ch o s).demand c).requested = (s.demand c).requested := by
  unfold setOwner
  split
  · rfl
  · simp; split <;> simp_all

@[simp] theorem setOwner_owner (ch c : Channel) (o : Owner) (s : State) :
    ((setOwner ch o s).demand c).owner = if c = ch then o else (s.demand c).owner := by
  unfold setOwner
  split
  · split <;> simp_all
  · simp; split <;> simp_all

/-! ## The pump demand and the slurry entries -/

theorem writePump_eq (v : Int) (s : State) :
    writePump v s = { s with slurry := { s.slurry with output := v }
                             lanes := (writePump v s).lanes, path := (writePump v s).path } := by
  unfold writePump; rw [setRequested_eq]; rfl

@[simp] theorem writePump_slurry (v : Int) (s : State) :
    (writePump v s).slurry = { s.slurry with output := v } := by rw [writePump_eq]

@[simp] theorem writePump_pending (v : Int) (s : State) :
    (writePump v s).pending = s.pending := by rw [writePump_eq]
@[simp] theorem writePump_now (v : Int) (s : State) :
    (writePump v s).now = s.now := by rw [writePump_eq]
@[simp] theorem writePump_draws (v : Int) (s : State) :
    (writePump v s).draws = s.draws := by rw [writePump_eq]
@[simp] theorem writePump_line (v : Int) (s : State) :
    (writePump v s).line = s.line := by rw [writePump_eq]
@[simp] theorem writePump_inputs (v : Int) (s : State) :
    (writePump v s).inputs = s.inputs := by rw [writePump_eq]
@[simp] theorem writePump_inReset (v : Int) (s : State) :
    (writePump v s).inReset = s.inReset := by rw [writePump_eq]
@[simp] theorem writePump_straps (v : Int) (s : State) :
    (writePump v s).straps = s.straps := by rw [writePump_eq]
@[simp] theorem writePump_pickup (v : Int) (s : State) :
    (writePump v s).pickup = s.pickup := by rw [writePump_eq]
@[simp] theorem writePump_drive (v : Int) (s : State) :
    (writePump v s).drive = s.drive := by rw [writePump_eq]
@[simp] theorem writePump_selector (v : Int) (s : State) :
    (writePump v s).selector = s.selector := by rw [writePump_eq]
@[simp] theorem writePump_survey (v : Int) (s : State) :
    (writePump v s).survey = s.survey := by rw [writePump_eq]
@[simp] theorem writePump_steering (v : Int) (s : State) :
    (writePump v s).steering = s.steering := by rw [writePump_eq]
@[simp] theorem writePump_orders (v : Int) (s : State) :
    (writePump v s).orders = s.orders := by rw [writePump_eq]
@[simp] theorem writePump_settings (v : Int) (s : State) :
    (writePump v s).settings = s.settings := by rw [writePump_eq]
@[simp] theorem writePump_loopOf (v : Int) (h : Gear) (s : State) :
    (writePump v s).loopOf h = s.loopOf h := by rw [writePump_eq]; rfl
@[simp] theorem writePump_pickupOf (v : Int) (h : Gear) (s : State) :
    (writePump v s).pickupOf h = s.pickupOf h := by rw [writePump_eq]; rfl
@[simp] theorem writePump_setting (v : Int) (x : Setting) (s : State) :
    (writePump v s).setting x = s.setting x := by rw [writePump_eq]; rfl
@[simp] theorem writePump_classField (v : Int) (x : ClassField) (s : State) :
    (writePump v s).classField x = s.classField x := by rw [writePump_eq]; rfl
@[simp] theorem writePump_latched (v : Int) (x : TripKind) (s : State) :
    (writePump v s).latched x = s.latched x := by rw [writePump_eq]; rfl
@[simp] theorem writePump_ownByte (v : Int) (s : State) :
    (writePump v s).ownByte = s.ownByte := by rw [writePump_eq]; rfl

theorem LanesKept.onSlurry (f : Slurry → Slurry) (s : State) : LanesKept s (s.onSlurry f) :=
  .of_eq rfl rfl

theorem LanesKept.onSteering (f : Steering → Steering) (s : State) :
    LanesKept s (s.onSteering f) := .of_eq rfl rfl

theorem writePump_kept (v : Int) (s : State) : LanesKept s (writePump v s) :=
  (LanesKept.onSlurry _ s).trans (setRequested_kept ..)

@[simp] theorem writePump_requested (v : Int) (s : State) (ch : Channel) :
    ((writePump v s).demand ch).requested =
      if ch = .pump then v else (s.demand ch).requested := by
  unfold writePump; rw [setRequested_requested]; cases ch <;> rfl

@[simp] theorem writePump_owner (v : Int) (s : State) (ch : Channel) :
    ((writePump v s).demand ch).owner = (s.demand ch).owner := by
  unfold writePump; rw [setRequested_owner]; cases ch <;> rfl

theorem enterSlurryRun_eq (v : Int) (s : State) :
    enterSlurryRun v s = { s with
      slurry := { s.slurry with
        state := .run, output := v, integ := v, suctionCount := 0, detectCount := 0
        dwellCount := 0, phase := .none, phaseTimer := .idle
        holdDelay := if s.bothLoops .stopped then s.startSec .holdDelay else s.slurry.holdDelay }
      lanes := (enterSlurryRun v s).lanes, path := (enterSlurryRun v s).path } := by
  have hb : ∀ f : Slurry → Slurry, (writePump v (setOwner .pump .loop (s.onSlurry f))).bothLoops
      .stopped = s.bothLoops .stopped := fun f => by simp [State.bothLoops]
  by_cases h : s.bothLoops .stopped = true <;>
    refine State.ext_fields ?_ ?_ ?_ ?_ ?_ ?_ ?_ ?_ ?_ ?_ ?_ ?_ ?_ ?_ ?_ ?_ ?_ <;>
    simp [enterSlurryRun, startHoldDelay, State.startSec, State.startTimer, hb, h]

@[simp] theorem enterSlurryRun_slurry (v : Int) (s : State) :
    (enterSlurryRun v s).slurry = { s.slurry with
      state := .run, output := v, integ := v, suctionCount := 0, detectCount := 0
      dwellCount := 0, phase := .none, phaseTimer := .idle
      holdDelay := if s.bothLoops .stopped then s.startSec .holdDelay
        else s.slurry.holdDelay } := by
  rw [enterSlurryRun_eq]

@[simp] theorem enterSlurryRun_pending (v : Int) (s : State) :
    (enterSlurryRun v s).pending = s.pending := by rw [enterSlurryRun_eq]
@[simp] theorem enterSlurryRun_now (v : Int) (s : State) :
    (enterSlurryRun v s).now = s.now := by rw [enterSlurryRun_eq]
@[simp] theorem enterSlurryRun_draws (v : Int) (s : State) :
    (enterSlurryRun v s).draws = s.draws := by rw [enterSlurryRun_eq]
@[simp] theorem enterSlurryRun_line (v : Int) (s : State) :
    (enterSlurryRun v s).line = s.line := by rw [enterSlurryRun_eq]
@[simp] theorem enterSlurryRun_inputs (v : Int) (s : State) :
    (enterSlurryRun v s).inputs = s.inputs := by rw [enterSlurryRun_eq]
@[simp] theorem enterSlurryRun_inReset (v : Int) (s : State) :
    (enterSlurryRun v s).inReset = s.inReset := by rw [enterSlurryRun_eq]
@[simp] theorem enterSlurryRun_straps (v : Int) (s : State) :
    (enterSlurryRun v s).straps = s.straps := by rw [enterSlurryRun_eq]
@[simp] theorem enterSlurryRun_pickup (v : Int) (s : State) :
    (enterSlurryRun v s).pickup = s.pickup := by rw [enterSlurryRun_eq]
@[simp] theorem enterSlurryRun_drive (v : Int) (s : State) :
    (enterSlurryRun v s).drive = s.drive := by rw [enterSlurryRun_eq]
@[simp] theorem enterSlurryRun_selector (v : Int) (s : State) :
    (enterSlurryRun v s).selector = s.selector := by rw [enterSlurryRun_eq]
@[simp] theorem enterSlurryRun_survey (v : Int) (s : State) :
    (enterSlurryRun v s).survey = s.survey := by rw [enterSlurryRun_eq]
@[simp] theorem enterSlurryRun_steering (v : Int) (s : State) :
    (enterSlurryRun v s).steering = s.steering := by rw [enterSlurryRun_eq]
@[simp] theorem enterSlurryRun_orders (v : Int) (s : State) :
    (enterSlurryRun v s).orders = s.orders := by rw [enterSlurryRun_eq]
@[simp] theorem enterSlurryRun_settings (v : Int) (s : State) :
    (enterSlurryRun v s).settings = s.settings := by rw [enterSlurryRun_eq]
@[simp] theorem enterSlurryRun_loopOf (v : Int) (h : Gear) (s : State) :
    (enterSlurryRun v s).loopOf h = s.loopOf h := by rw [enterSlurryRun_eq]; rfl
@[simp] theorem enterSlurryRun_pickupOf (v : Int) (h : Gear) (s : State) :
    (enterSlurryRun v s).pickupOf h = s.pickupOf h := by rw [enterSlurryRun_eq]; rfl
@[simp] theorem enterSlurryRun_setting (v : Int) (x : Setting) (s : State) :
    (enterSlurryRun v s).setting x = s.setting x := by rw [enterSlurryRun_eq]; rfl
@[simp] theorem enterSlurryRun_classField (v : Int) (x : ClassField) (s : State) :
    (enterSlurryRun v s).classField x = s.classField x := by rw [enterSlurryRun_eq]; rfl
@[simp] theorem enterSlurryRun_latched (v : Int) (x : TripKind) (s : State) :
    (enterSlurryRun v s).latched x = s.latched x := by rw [enterSlurryRun_eq]; rfl
@[simp] theorem enterSlurryRun_ownByte (v : Int) (s : State) :
    (enterSlurryRun v s).ownByte = s.ownByte := by rw [enterSlurryRun_eq]; rfl

theorem enterSlurryRun_kept (v : Int) (s : State) : LanesKept s (enterSlurryRun v s) := by
  unfold enterSlurryRun startHoldDelay
  simp only
  have h : LanesKept s (writePump v (setOwner .pump .loop (s.onSlurry fun x =>
      { x with state := .run, integ := v, suctionCount := 0, detectCount := 0, dwellCount := 0
               phase := .none, phaseTimer := .idle }))) :=
    (LanesKept.onSlurry _ s).trans ((setOwner_kept ..).trans (writePump_kept ..))
  split
  · exact h.trans (.onSlurry ..)
  · exact h

theorem enterFlush_eq (s : State) :
    enterFlush s = { s with
      slurry := { s.slurry with
        state := .flush, phase := .none, phaseTimer := s.startSec .flushTime
        output := s.setting .circDemand }
      lanes := (enterFlush s).lanes, path := (enterFlush s).path } := by
  unfold enterFlush; rw [writePump_eq]; rfl

theorem enterFlush_kept (s : State) : LanesKept s (enterFlush s) :=
  (LanesKept.onSlurry _ s).trans (writePump_kept ..)

theorem agitationExit_eq (s : State) :
    agitationExit s = { s with slurry := (agitationExit s).slurry
                               lanes := (agitationExit s).lanes, path := (agitationExit s).path } := by
  unfold agitationExit
  split
  · rfl
  · split
    · rw [enterSlurryRun_eq]
    · rw [enterFlush_eq]

@[simp] theorem agitationExit_pending  (s : State) :
    (agitationExit s).pending = s.pending := by rw [agitationExit_eq]
@[simp] theorem agitationExit_now  (s : State) :
    (agitationExit s).now = s.now := by rw [agitationExit_eq]
@[simp] theorem agitationExit_draws  (s : State) :
    (agitationExit s).draws = s.draws := by rw [agitationExit_eq]
@[simp] theorem agitationExit_line  (s : State) :
    (agitationExit s).line = s.line := by rw [agitationExit_eq]
@[simp] theorem agitationExit_inputs  (s : State) :
    (agitationExit s).inputs = s.inputs := by rw [agitationExit_eq]
@[simp] theorem agitationExit_inReset  (s : State) :
    (agitationExit s).inReset = s.inReset := by rw [agitationExit_eq]
@[simp] theorem agitationExit_straps  (s : State) :
    (agitationExit s).straps = s.straps := by rw [agitationExit_eq]
@[simp] theorem agitationExit_pickup  (s : State) :
    (agitationExit s).pickup = s.pickup := by rw [agitationExit_eq]
@[simp] theorem agitationExit_drive  (s : State) :
    (agitationExit s).drive = s.drive := by rw [agitationExit_eq]
@[simp] theorem agitationExit_selector  (s : State) :
    (agitationExit s).selector = s.selector := by rw [agitationExit_eq]
@[simp] theorem agitationExit_survey  (s : State) :
    (agitationExit s).survey = s.survey := by rw [agitationExit_eq]
@[simp] theorem agitationExit_steering  (s : State) :
    (agitationExit s).steering = s.steering := by rw [agitationExit_eq]
@[simp] theorem agitationExit_orders  (s : State) :
    (agitationExit s).orders = s.orders := by rw [agitationExit_eq]
@[simp] theorem agitationExit_settings  (s : State) :
    (agitationExit s).settings = s.settings := by rw [agitationExit_eq]
@[simp] theorem agitationExit_loopOf (h : Gear) (s : State) :
    (agitationExit s).loopOf h = s.loopOf h := by rw [agitationExit_eq]; rfl
@[simp] theorem agitationExit_pickupOf (h : Gear) (s : State) :
    (agitationExit s).pickupOf h = s.pickupOf h := by rw [agitationExit_eq]; rfl
@[simp] theorem agitationExit_setting (x : Setting) (s : State) :
    (agitationExit s).setting x = s.setting x := by rw [agitationExit_eq]; rfl
@[simp] theorem agitationExit_classField (x : ClassField) (s : State) :
    (agitationExit s).classField x = s.classField x := by rw [agitationExit_eq]; rfl
@[simp] theorem agitationExit_latched (x : TripKind) (s : State) :
    (agitationExit s).latched x = s.latched x := by rw [agitationExit_eq]; rfl
@[simp] theorem agitationExit_ownByte  (s : State) :
    (agitationExit s).ownByte = s.ownByte := by rw [agitationExit_eq]; rfl

theorem agitationExit_kept (s : State) : LanesKept s (agitationExit s) := by
  unfold agitationExit
  split
  · exact .refl s
  · split
    · exact enterSlurryRun_kept ..
    · exact enterFlush_kept ..

/-- R111: a loop's departure from STOPPED takes AGITATE to RUN or FLUSH and no other state anywhere. -/
theorem agitationExit_state (s : State) :
    (agitationExit s).slurry.state =
      if s.slurry.state = .agitate then (if s.slurry.phase = .burst then .run else .flush)
      else s.slurry.state := by
  unfold agitationExit
  split
  · simp_all
  · split
    · simp_all
    · rw [enterFlush_eq]; simp_all

theorem zeroSlurry_eq (new : SlurryState) (s : State) :
    zeroSlurry new s = { s with
      slurry := { s.slurry with
        state := new, output := 0, integ := 0, detectCount := 0, dwellCount := 0
        suctionCount := 0, phase := .none, phaseTimer := .idle }
      lanes := (zeroSlurry new s).lanes, path := (zeroSlurry new s).path } := by
  unfold zeroSlurry; rw [writePump_eq, setOwner_eq]; rfl

@[simp] theorem zeroSlurry_slurry (new : SlurryState) (s : State) :
    (zeroSlurry new s).slurry = { s.slurry with
      state := new, output := 0, integ := 0, detectCount := 0, dwellCount := 0
      suctionCount := 0, phase := .none, phaseTimer := .idle } := by rw [zeroSlurry_eq]

@[simp] theorem zeroSlurry_pending (new : SlurryState) (s : State) :
    (zeroSlurry new s).pending = s.pending := by rw [zeroSlurry_eq]
@[simp] theorem zeroSlurry_now (new : SlurryState) (s : State) :
    (zeroSlurry new s).now = s.now := by rw [zeroSlurry_eq]
@[simp] theorem zeroSlurry_draws (new : SlurryState) (s : State) :
    (zeroSlurry new s).draws = s.draws := by rw [zeroSlurry_eq]
@[simp] theorem zeroSlurry_line (new : SlurryState) (s : State) :
    (zeroSlurry new s).line = s.line := by rw [zeroSlurry_eq]
@[simp] theorem zeroSlurry_inputs (new : SlurryState) (s : State) :
    (zeroSlurry new s).inputs = s.inputs := by rw [zeroSlurry_eq]
@[simp] theorem zeroSlurry_inReset (new : SlurryState) (s : State) :
    (zeroSlurry new s).inReset = s.inReset := by rw [zeroSlurry_eq]
@[simp] theorem zeroSlurry_straps (new : SlurryState) (s : State) :
    (zeroSlurry new s).straps = s.straps := by rw [zeroSlurry_eq]
@[simp] theorem zeroSlurry_pickup (new : SlurryState) (s : State) :
    (zeroSlurry new s).pickup = s.pickup := by rw [zeroSlurry_eq]
@[simp] theorem zeroSlurry_drive (new : SlurryState) (s : State) :
    (zeroSlurry new s).drive = s.drive := by rw [zeroSlurry_eq]
@[simp] theorem zeroSlurry_selector (new : SlurryState) (s : State) :
    (zeroSlurry new s).selector = s.selector := by rw [zeroSlurry_eq]
@[simp] theorem zeroSlurry_survey (new : SlurryState) (s : State) :
    (zeroSlurry new s).survey = s.survey := by rw [zeroSlurry_eq]
@[simp] theorem zeroSlurry_steering (new : SlurryState) (s : State) :
    (zeroSlurry new s).steering = s.steering := by rw [zeroSlurry_eq]
@[simp] theorem zeroSlurry_orders (new : SlurryState) (s : State) :
    (zeroSlurry new s).orders = s.orders := by rw [zeroSlurry_eq]
@[simp] theorem zeroSlurry_settings (new : SlurryState) (s : State) :
    (zeroSlurry new s).settings = s.settings := by rw [zeroSlurry_eq]
@[simp] theorem zeroSlurry_loopOf (new : SlurryState) (h : Gear) (s : State) :
    (zeroSlurry new s).loopOf h = s.loopOf h := by rw [zeroSlurry_eq]; rfl
@[simp] theorem zeroSlurry_pickupOf (new : SlurryState) (h : Gear) (s : State) :
    (zeroSlurry new s).pickupOf h = s.pickupOf h := by rw [zeroSlurry_eq]; rfl
@[simp] theorem zeroSlurry_setting (new : SlurryState) (x : Setting) (s : State) :
    (zeroSlurry new s).setting x = s.setting x := by rw [zeroSlurry_eq]; rfl
@[simp] theorem zeroSlurry_classField (new : SlurryState) (x : ClassField) (s : State) :
    (zeroSlurry new s).classField x = s.classField x := by rw [zeroSlurry_eq]; rfl
@[simp] theorem zeroSlurry_latched (new : SlurryState) (x : TripKind) (s : State) :
    (zeroSlurry new s).latched x = s.latched x := by rw [zeroSlurry_eq]; rfl
@[simp] theorem zeroSlurry_ownByte (new : SlurryState) (s : State) :
    (zeroSlurry new s).ownByte = s.ownByte := by rw [zeroSlurry_eq]; rfl

theorem zeroSlurry_kept (new : SlurryState) (s : State) : LanesKept s (zeroSlurry new s) :=
  (LanesKept.onSlurry _ s).trans ((setOwner_kept ..).trans (writePump_kept ..))

theorem startAgitation_eq (p : AgitationPhase) (d t : Setting) (s : State) :
    startAgitation p d t s = { s with
      slurry := { s.slurry with
        state := .agitate, phase := p, phaseTimer := s.startSec t, output := s.setting d }
      lanes := (startAgitation p d t s).lanes, path := (startAgitation p d t s).path } := by
  unfold startAgitation; rw [writePump_eq]; rfl

theorem startAgitation_kept (p : AgitationPhase) (d t : Setting) (s : State) :
    LanesKept s (startAgitation p d t s) :=
  (LanesKept.onSlurry _ s).trans (writePump_kept ..)

/-! ## Steering entries -/

theorem zeroPlates_eq (o : Owner) (s : State) :
    zeroPlates o s = { s with lanes := (zeroPlates o s).lanes, path := (zeroPlates o s).path } := by
  have one : ∀ p t, ∃ l q, setRequested (.plate p) 0 (setOwner (.plate p) o t) =
      { t with lanes := l, path := q } := fun p t => by
    rw [setRequested_eq, setOwner_eq]; exact ⟨_, _, rfl⟩
  obtain ⟨l1, q1, h1⟩ := one .p1 s
  obtain ⟨l2, q2, h2⟩ := one .p2 { s with lanes := l1, path := q1 }
  obtain ⟨l3, q3, h3⟩ := one .p3 { s with lanes := l2, path := q2 }
  obtain ⟨l4, q4, h4⟩ := one .p4 { s with lanes := l3, path := q3 }
  simp only [zeroPlates, allPlates, List.foldl, h1, h2, h3, h4]

@[simp] theorem zeroPlates_pending (o : Owner) (s : State) :
    (zeroPlates o s).pending = s.pending := by rw [zeroPlates_eq]
@[simp] theorem zeroPlates_now (o : Owner) (s : State) :
    (zeroPlates o s).now = s.now := by rw [zeroPlates_eq]
@[simp] theorem zeroPlates_draws (o : Owner) (s : State) :
    (zeroPlates o s).draws = s.draws := by rw [zeroPlates_eq]
@[simp] theorem zeroPlates_line (o : Owner) (s : State) :
    (zeroPlates o s).line = s.line := by rw [zeroPlates_eq]
@[simp] theorem zeroPlates_inputs (o : Owner) (s : State) :
    (zeroPlates o s).inputs = s.inputs := by rw [zeroPlates_eq]
@[simp] theorem zeroPlates_inReset (o : Owner) (s : State) :
    (zeroPlates o s).inReset = s.inReset := by rw [zeroPlates_eq]
@[simp] theorem zeroPlates_straps (o : Owner) (s : State) :
    (zeroPlates o s).straps = s.straps := by rw [zeroPlates_eq]
@[simp] theorem zeroPlates_pickup (o : Owner) (s : State) :
    (zeroPlates o s).pickup = s.pickup := by rw [zeroPlates_eq]
@[simp] theorem zeroPlates_drive (o : Owner) (s : State) :
    (zeroPlates o s).drive = s.drive := by rw [zeroPlates_eq]
@[simp] theorem zeroPlates_selector (o : Owner) (s : State) :
    (zeroPlates o s).selector = s.selector := by rw [zeroPlates_eq]
@[simp] theorem zeroPlates_survey (o : Owner) (s : State) :
    (zeroPlates o s).survey = s.survey := by rw [zeroPlates_eq]
@[simp] theorem zeroPlates_steering (o : Owner) (s : State) :
    (zeroPlates o s).steering = s.steering := by rw [zeroPlates_eq]
@[simp] theorem zeroPlates_slurry (o : Owner) (s : State) :
    (zeroPlates o s).slurry = s.slurry := by rw [zeroPlates_eq]
@[simp] theorem zeroPlates_orders (o : Owner) (s : State) :
    (zeroPlates o s).orders = s.orders := by rw [zeroPlates_eq]
@[simp] theorem zeroPlates_settings (o : Owner) (s : State) :
    (zeroPlates o s).settings = s.settings := by rw [zeroPlates_eq]
@[simp] theorem zeroPlates_loopOf (o : Owner) (h : Gear) (s : State) :
    (zeroPlates o s).loopOf h = s.loopOf h := by rw [zeroPlates_eq]; rfl
@[simp] theorem zeroPlates_pickupOf (o : Owner) (h : Gear) (s : State) :
    (zeroPlates o s).pickupOf h = s.pickupOf h := by rw [zeroPlates_eq]; rfl
@[simp] theorem zeroPlates_setting (o : Owner) (x : Setting) (s : State) :
    (zeroPlates o s).setting x = s.setting x := by rw [zeroPlates_eq]; rfl
@[simp] theorem zeroPlates_classField (o : Owner) (x : ClassField) (s : State) :
    (zeroPlates o s).classField x = s.classField x := by rw [zeroPlates_eq]; rfl
@[simp] theorem zeroPlates_latched (o : Owner) (x : TripKind) (s : State) :
    (zeroPlates o s).latched x = s.latched x := by rw [zeroPlates_eq]; rfl
@[simp] theorem zeroPlates_ownByte (o : Owner) (s : State) :
    (zeroPlates o s).ownByte = s.ownByte := by rw [zeroPlates_eq]; rfl

theorem zeroPlates_kept (o : Owner) (s : State) : LanesKept s (zeroPlates o s) := by
  have one : ∀ p t, LanesKept t (setRequested (.plate p) 0 (setOwner (.plate p) o t)) :=
    fun p t => (setOwner_kept ..).trans (setRequested_kept ..)
  exact (((one .p1 s).trans (one .p2 _)).trans (one .p3 _)).trans (one .p4 _)

@[simp] theorem zeroPlates_requested (o : Owner) (s : State) (ch : Channel) :
    ((zeroPlates o s).demand ch).requested =
      match ch with
      | .plate _ => 0
      | _ => (s.demand ch).requested := by
  simp only [zeroPlates, allPlates, List.foldl, setRequested_requested, setOwner_requested]
  rcases ch with g | p | _ <;> (try cases p) <;> simp

@[simp] theorem zeroPlates_owner (o : Owner) (s : State) (ch : Channel) :
    ((zeroPlates o s).demand ch).owner =
      match ch with
      | .plate _ => o
      | _ => (s.demand ch).owner := by
  simp only [zeroPlates, allPlates, List.foldl, setRequested_owner, setOwner_owner]
  rcases ch with g | p | _ <;> (try cases p) <;> simp

theorem enterSteeringClear_eq (new : SteerState) (o : Owner) (s : State) :
    enterSteeringClear new o s = { s with
      steering := { s.steering with
        state := new, projX := none, projY := none, targets := ⟨0, 0, 0, 0⟩, trim := 0 }
      lanes := (enterSteeringClear new o s).lanes, path := (enterSteeringClear new o s).path } := by
  unfold enterSteeringClear; rw [zeroPlates_eq]; rfl

@[simp] theorem enterSteeringClear_steering (new : SteerState) (o : Owner) (s : State) :
    (enterSteeringClear new o s).steering = { s.steering with
      state := new, projX := none, projY := none, targets := ⟨0, 0, 0, 0⟩, trim := 0 } := by
  rw [enterSteeringClear_eq]

@[simp] theorem enterSteeringClear_pending (new : SteerState) (o : Owner) (s : State) :
    (enterSteeringClear new o s).pending = s.pending := by rw [enterSteeringClear_eq]
@[simp] theorem enterSteeringClear_now (new : SteerState) (o : Owner) (s : State) :
    (enterSteeringClear new o s).now = s.now := by rw [enterSteeringClear_eq]
@[simp] theorem enterSteeringClear_draws (new : SteerState) (o : Owner) (s : State) :
    (enterSteeringClear new o s).draws = s.draws := by rw [enterSteeringClear_eq]
@[simp] theorem enterSteeringClear_line (new : SteerState) (o : Owner) (s : State) :
    (enterSteeringClear new o s).line = s.line := by rw [enterSteeringClear_eq]
@[simp] theorem enterSteeringClear_inputs (new : SteerState) (o : Owner) (s : State) :
    (enterSteeringClear new o s).inputs = s.inputs := by rw [enterSteeringClear_eq]
@[simp] theorem enterSteeringClear_inReset (new : SteerState) (o : Owner) (s : State) :
    (enterSteeringClear new o s).inReset = s.inReset := by rw [enterSteeringClear_eq]
@[simp] theorem enterSteeringClear_straps (new : SteerState) (o : Owner) (s : State) :
    (enterSteeringClear new o s).straps = s.straps := by rw [enterSteeringClear_eq]
@[simp] theorem enterSteeringClear_pickup (new : SteerState) (o : Owner) (s : State) :
    (enterSteeringClear new o s).pickup = s.pickup := by rw [enterSteeringClear_eq]
@[simp] theorem enterSteeringClear_drive (new : SteerState) (o : Owner) (s : State) :
    (enterSteeringClear new o s).drive = s.drive := by rw [enterSteeringClear_eq]
@[simp] theorem enterSteeringClear_selector (new : SteerState) (o : Owner) (s : State) :
    (enterSteeringClear new o s).selector = s.selector := by rw [enterSteeringClear_eq]
@[simp] theorem enterSteeringClear_survey (new : SteerState) (o : Owner) (s : State) :
    (enterSteeringClear new o s).survey = s.survey := by rw [enterSteeringClear_eq]
@[simp] theorem enterSteeringClear_slurry (new : SteerState) (o : Owner) (s : State) :
    (enterSteeringClear new o s).slurry = s.slurry := by rw [enterSteeringClear_eq]
@[simp] theorem enterSteeringClear_orders (new : SteerState) (o : Owner) (s : State) :
    (enterSteeringClear new o s).orders = s.orders := by rw [enterSteeringClear_eq]
@[simp] theorem enterSteeringClear_settings (new : SteerState) (o : Owner) (s : State) :
    (enterSteeringClear new o s).settings = s.settings := by rw [enterSteeringClear_eq]
@[simp] theorem enterSteeringClear_loopOf (new : SteerState) (o : Owner) (h : Gear) (s : State) :
    (enterSteeringClear new o s).loopOf h = s.loopOf h := by rw [enterSteeringClear_eq]; rfl
@[simp] theorem enterSteeringClear_pickupOf (new : SteerState) (o : Owner) (h : Gear) (s : State) :
    (enterSteeringClear new o s).pickupOf h = s.pickupOf h := by rw [enterSteeringClear_eq]; rfl
@[simp] theorem enterSteeringClear_setting (new : SteerState) (o : Owner) (x : Setting) (s : State) :
    (enterSteeringClear new o s).setting x = s.setting x := by rw [enterSteeringClear_eq]; rfl
@[simp] theorem enterSteeringClear_classField (new : SteerState) (o : Owner) (x : ClassField) (s : State) :
    (enterSteeringClear new o s).classField x = s.classField x := by rw [enterSteeringClear_eq]; rfl
@[simp] theorem enterSteeringClear_latched (new : SteerState) (o : Owner) (x : TripKind) (s : State) :
    (enterSteeringClear new o s).latched x = s.latched x := by rw [enterSteeringClear_eq]; rfl
@[simp] theorem enterSteeringClear_ownByte (new : SteerState) (o : Owner) (s : State) :
    (enterSteeringClear new o s).ownByte = s.ownByte := by rw [enterSteeringClear_eq]; rfl

theorem enterSteeringClear_kept (new : SteerState) (o : Owner) (s : State) :
    LanesKept s (enterSteeringClear new o s) :=
  (LanesKept.onSteering _ s).trans (zeroPlates_kept ..)

/-! ## Own frames up the shaft link -/

theorem sendReport_eq (tag : Tag) (s : State) :
    sendReport tag s = { s with path := (sendReport tag s).path } := by
  unfold sendReport; simp only; split
  · rw [refreshWaiting_eq]
  · rw [enqueue_eq]

@[simp] theorem sendReport_pending (tag : Tag) (s : State) :
    (sendReport tag s).pending = s.pending := by rw [sendReport_eq]
@[simp] theorem sendReport_now (tag : Tag) (s : State) :
    (sendReport tag s).now = s.now := by rw [sendReport_eq]
@[simp] theorem sendReport_draws (tag : Tag) (s : State) :
    (sendReport tag s).draws = s.draws := by rw [sendReport_eq]
@[simp] theorem sendReport_line (tag : Tag) (s : State) :
    (sendReport tag s).line = s.line := by rw [sendReport_eq]
@[simp] theorem sendReport_inputs (tag : Tag) (s : State) :
    (sendReport tag s).inputs = s.inputs := by rw [sendReport_eq]
@[simp] theorem sendReport_inReset (tag : Tag) (s : State) :
    (sendReport tag s).inReset = s.inReset := by rw [sendReport_eq]
@[simp] theorem sendReport_straps (tag : Tag) (s : State) :
    (sendReport tag s).straps = s.straps := by rw [sendReport_eq]
@[simp] theorem sendReport_pickup (tag : Tag) (s : State) :
    (sendReport tag s).pickup = s.pickup := by rw [sendReport_eq]
@[simp] theorem sendReport_drive (tag : Tag) (s : State) :
    (sendReport tag s).drive = s.drive := by rw [sendReport_eq]
@[simp] theorem sendReport_selector (tag : Tag) (s : State) :
    (sendReport tag s).selector = s.selector := by rw [sendReport_eq]
@[simp] theorem sendReport_survey (tag : Tag) (s : State) :
    (sendReport tag s).survey = s.survey := by rw [sendReport_eq]
@[simp] theorem sendReport_steering (tag : Tag) (s : State) :
    (sendReport tag s).steering = s.steering := by rw [sendReport_eq]
@[simp] theorem sendReport_slurry (tag : Tag) (s : State) :
    (sendReport tag s).slurry = s.slurry := by rw [sendReport_eq]
@[simp] theorem sendReport_lanes (tag : Tag) (s : State) :
    (sendReport tag s).lanes = s.lanes := by rw [sendReport_eq]
@[simp] theorem sendReport_orders (tag : Tag) (s : State) :
    (sendReport tag s).orders = s.orders := by rw [sendReport_eq]
@[simp] theorem sendReport_settings (tag : Tag) (s : State) :
    (sendReport tag s).settings = s.settings := by rw [sendReport_eq]
@[simp] theorem sendReport_loopOf (tag : Tag) (h : Gear) (s : State) :
    (sendReport tag s).loopOf h = s.loopOf h := by rw [sendReport_eq]; rfl
@[simp] theorem sendReport_pickupOf (tag : Tag) (h : Gear) (s : State) :
    (sendReport tag s).pickupOf h = s.pickupOf h := by rw [sendReport_eq]; rfl
@[simp] theorem sendReport_setting (tag : Tag) (x : Setting) (s : State) :
    (sendReport tag s).setting x = s.setting x := by rw [sendReport_eq]; rfl
@[simp] theorem sendReport_classField (tag : Tag) (x : ClassField) (s : State) :
    (sendReport tag s).classField x = s.classField x := by rw [sendReport_eq]; rfl
@[simp] theorem sendReport_latched (tag : Tag) (x : TripKind) (s : State) :
    (sendReport tag s).latched x = s.latched x := by rw [sendReport_eq]; rfl
@[simp] theorem sendReport_ownByte (tag : Tag) (s : State) :
    (sendReport tag s).ownByte = s.ownByte := by rw [sendReport_eq]; rfl

theorem reply_eq (items : List Word) (s : State) :
    reply items s = { s with path := (reply items s).path } := enqueue_eq ..

@[simp] theorem reply_pending (items : List Word) (s : State) :
    (reply items s).pending = s.pending := by rw [reply_eq]
@[simp] theorem reply_now (items : List Word) (s : State) :
    (reply items s).now = s.now := by rw [reply_eq]
@[simp] theorem reply_draws (items : List Word) (s : State) :
    (reply items s).draws = s.draws := by rw [reply_eq]
@[simp] theorem reply_line (items : List Word) (s : State) :
    (reply items s).line = s.line := by rw [reply_eq]
@[simp] theorem reply_inputs (items : List Word) (s : State) :
    (reply items s).inputs = s.inputs := by rw [reply_eq]
@[simp] theorem reply_inReset (items : List Word) (s : State) :
    (reply items s).inReset = s.inReset := by rw [reply_eq]
@[simp] theorem reply_straps (items : List Word) (s : State) :
    (reply items s).straps = s.straps := by rw [reply_eq]
@[simp] theorem reply_pickup (items : List Word) (s : State) :
    (reply items s).pickup = s.pickup := by rw [reply_eq]
@[simp] theorem reply_drive (items : List Word) (s : State) :
    (reply items s).drive = s.drive := by rw [reply_eq]
@[simp] theorem reply_selector (items : List Word) (s : State) :
    (reply items s).selector = s.selector := by rw [reply_eq]
@[simp] theorem reply_survey (items : List Word) (s : State) :
    (reply items s).survey = s.survey := by rw [reply_eq]
@[simp] theorem reply_steering (items : List Word) (s : State) :
    (reply items s).steering = s.steering := by rw [reply_eq]
@[simp] theorem reply_slurry (items : List Word) (s : State) :
    (reply items s).slurry = s.slurry := by rw [reply_eq]
@[simp] theorem reply_lanes (items : List Word) (s : State) :
    (reply items s).lanes = s.lanes := by rw [reply_eq]
@[simp] theorem reply_orders (items : List Word) (s : State) :
    (reply items s).orders = s.orders := by rw [reply_eq]
@[simp] theorem reply_settings (items : List Word) (s : State) :
    (reply items s).settings = s.settings := by rw [reply_eq]
@[simp] theorem reply_loopOf (items : List Word) (h : Gear) (s : State) :
    (reply items s).loopOf h = s.loopOf h := by rw [reply_eq]; rfl
@[simp] theorem reply_pickupOf (items : List Word) (h : Gear) (s : State) :
    (reply items s).pickupOf h = s.pickupOf h := by rw [reply_eq]; rfl
@[simp] theorem reply_setting (items : List Word) (x : Setting) (s : State) :
    (reply items s).setting x = s.setting x := by rw [reply_eq]; rfl
@[simp] theorem reply_classField (items : List Word) (x : ClassField) (s : State) :
    (reply items s).classField x = s.classField x := by rw [reply_eq]; rfl
@[simp] theorem reply_latched (items : List Word) (x : TripKind) (s : State) :
    (reply items s).latched x = s.latched x := by rw [reply_eq]; rfl
@[simp] theorem reply_ownByte (items : List Word) (s : State) :
    (reply items s).ownByte = s.ownByte := by rw [reply_eq]; rfl

end Sys2Proof.Machine
end

