-- ==== Sys2Proof/Laws/Loops.lean ====
section
/-! SUPPORT. What the changes of state of the loops and of the order link do, what a latch does, and
what taking an order does: the parts that each leaves, and the states that it reaches. -/

namespace Sys2Proof.Machine

/-! ## A drive loop enters a state -/

theorem valveEntry_eq (g : Gear) (new : LoopState) (s : State) :
    valveEntry g new s = { s with lanes := (valveEntry g new s).lanes
                                  path := (valveEntry g new s).path } := by
  cases new <;> first | rfl | (simp only [valveEntry]; rw [setRequested_eq, setOwner_eq])

@[simp] theorem valveEntry_pending (g : Gear) (new : LoopState) (s : State) :
    (valveEntry g new s).pending = s.pending := by rw [valveEntry_eq]
@[simp] theorem valveEntry_now (g : Gear) (new : LoopState) (s : State) :
    (valveEntry g new s).now = s.now := by rw [valveEntry_eq]
@[simp] theorem valveEntry_draws (g : Gear) (new : LoopState) (s : State) :
    (valveEntry g new s).draws = s.draws := by rw [valveEntry_eq]
@[simp] theorem valveEntry_line (g : Gear) (new : LoopState) (s : State) :
    (valveEntry g new s).line = s.line := by rw [valveEntry_eq]
@[simp] theorem valveEntry_inputs (g : Gear) (new : LoopState) (s : State) :
    (valveEntry g new s).inputs = s.inputs := by rw [valveEntry_eq]
@[simp] theorem valveEntry_inReset (g : Gear) (new : LoopState) (s : State) :
    (valveEntry g new s).inReset = s.inReset := by rw [valveEntry_eq]
@[simp] theorem valveEntry_straps (g : Gear) (new : LoopState) (s : State) :
    (valveEntry g new s).straps = s.straps := by rw [valveEntry_eq]
@[simp] theorem valveEntry_pickup (g : Gear) (new : LoopState) (s : State) :
    (valveEntry g new s).pickup = s.pickup := by rw [valveEntry_eq]
@[simp] theorem valveEntry_drive (g : Gear) (new : LoopState) (s : State) :
    (valveEntry g new s).drive = s.drive := by rw [valveEntry_eq]
@[simp] theorem valveEntry_selector (g : Gear) (new : LoopState) (s : State) :
    (valveEntry g new s).selector = s.selector := by rw [valveEntry_eq]
@[simp] theorem valveEntry_survey (g : Gear) (new : LoopState) (s : State) :
    (valveEntry g new s).survey = s.survey := by rw [valveEntry_eq]
@[simp] theorem valveEntry_steering (g : Gear) (new : LoopState) (s : State) :
    (valveEntry g new s).steering = s.steering := by rw [valveEntry_eq]
@[simp] theorem valveEntry_slurry (g : Gear) (new : LoopState) (s : State) :
    (valveEntry g new s).slurry = s.slurry := by rw [valveEntry_eq]
@[simp] theorem valveEntry_orders (g : Gear) (new : LoopState) (s : State) :
    (valveEntry g new s).orders = s.orders := by rw [valveEntry_eq]
@[simp] theorem valveEntry_settings (g : Gear) (new : LoopState) (s : State) :
    (valveEntry g new s).settings = s.settings := by rw [valveEntry_eq]
@[simp] theorem valveEntry_loopOf (g : Gear) (new : LoopState) (h : Gear) (s : State) :
    (valveEntry g new s).loopOf h = s.loopOf h := by rw [valveEntry_eq]; rfl
@[simp] theorem valveEntry_pickupOf (g : Gear) (new : LoopState) (h : Gear) (s : State) :
    (valveEntry g new s).pickupOf h = s.pickupOf h := by rw [valveEntry_eq]; rfl
@[simp] theorem valveEntry_setting (g : Gear) (new : LoopState) (x : Setting) (s : State) :
    (valveEntry g new s).setting x = s.setting x := by rw [valveEntry_eq]; rfl
@[simp] theorem valveEntry_classField (g : Gear) (new : LoopState) (x : ClassField) (s : State) :
    (valveEntry g new s).classField x = s.classField x := by rw [valveEntry_eq]; rfl
@[simp] theorem valveEntry_latched (g : Gear) (new : LoopState) (x : TripKind) (s : State) :
    (valveEntry g new s).latched x = s.latched x := by rw [valveEntry_eq]; rfl
@[simp] theorem valveEntry_ownByte (g : Gear) (new : LoopState) (s : State) :
    (valveEntry g new s).ownByte = s.ownByte := by rw [valveEntry_eq]; rfl

theorem valveEntry_kept (g : Gear) (new : LoopState) (s : State) :
    LanesKept s (valveEntry g new s) := by
  cases new <;> first | exact .refl s | exact (setOwner_kept ..).trans (setRequested_kept ..)

theorem formFeed_eq (s : State) : formFeed s = { s with
    slurry := { s.slurry with feed := s.feedLimit } } := rfl

@[simp] theorem formFeed_slurry (s : State) :
    (formFeed s).slurry = { s.slurry with feed := s.feedLimit } := rfl

@[simp] theorem formFeed_pending  (s : State) :
    (formFeed s).pending = s.pending := by rw [formFeed_eq]
@[simp] theorem formFeed_now  (s : State) : (formFeed s).now = s.now := by rw [formFeed_eq]
@[simp] theorem formFeed_draws  (s : State) : (formFeed s).draws = s.draws := by rw [formFeed_eq]
@[simp] theorem formFeed_line  (s : State) : (formFeed s).line = s.line := by rw [formFeed_eq]
@[simp] theorem formFeed_inputs  (s : State) : (formFeed s).inputs = s.inputs := by rw [formFeed_eq]
@[simp] theorem formFeed_inReset  (s : State) :
    (formFeed s).inReset = s.inReset := by rw [formFeed_eq]
@[simp] theorem formFeed_straps  (s : State) : (formFeed s).straps = s.straps := by rw [formFeed_eq]
@[simp] theorem formFeed_pickup  (s : State) : (formFeed s).pickup = s.pickup := by rw [formFeed_eq]
@[simp] theorem formFeed_drive  (s : State) : (formFeed s).drive = s.drive := by rw [formFeed_eq]
@[simp] theorem formFeed_selector  (s : State) :
    (formFeed s).selector = s.selector := by rw [formFeed_eq]
@[simp] theorem formFeed_survey  (s : State) : (formFeed s).survey = s.survey := by rw [formFeed_eq]
@[simp] theorem formFeed_steering  (s : State) :
    (formFeed s).steering = s.steering := by rw [formFeed_eq]
@[simp] theorem formFeed_lanes  (s : State) : (formFeed s).lanes = s.lanes := by rw [formFeed_eq]
@[simp] theorem formFeed_path  (s : State) : (formFeed s).path = s.path := by rw [formFeed_eq]
@[simp] theorem formFeed_orders  (s : State) : (formFeed s).orders = s.orders := by rw [formFeed_eq]
@[simp] theorem formFeed_settings  (s : State) :
    (formFeed s).settings = s.settings := by rw [formFeed_eq]
@[simp] theorem formFeed_loopOf (h : Gear) (s : State) :
    (formFeed s).loopOf h = s.loopOf h := by rw [formFeed_eq]; rfl
@[simp] theorem formFeed_pickupOf (h : Gear) (s : State) :
    (formFeed s).pickupOf h = s.pickupOf h := by rw [formFeed_eq]; rfl
@[simp] theorem formFeed_setting (x : Setting) (s : State) :
    (formFeed s).setting x = s.setting x := by rw [formFeed_eq]; rfl
@[simp] theorem formFeed_classField (x : ClassField) (s : State) :
    (formFeed s).classField x = s.classField x := by rw [formFeed_eq]; rfl
@[simp] theorem formFeed_latched (x : TripKind) (s : State) :
    (formFeed s).latched x = s.latched x := by rw [formFeed_eq]; rfl
@[simp] theorem formFeed_ownByte  (s : State) :
    (formFeed s).ownByte = s.ownByte := by rw [formFeed_eq]; rfl

theorem formFeed_kept (s : State) : LanesKept s (formFeed s) := .onSlurry ..

theorem startHoldDelay_eq (s : State) : startHoldDelay s = { s with
    slurry := { s.slurry with holdDelay := s.startSec .holdDelay } } := rfl

@[simp] theorem startHoldDelay_slurry (s : State) :
    (startHoldDelay s).slurry = { s.slurry with holdDelay := s.startSec .holdDelay } := rfl

@[simp] theorem startHoldDelay_pending  (s : State) :
    (startHoldDelay s).pending = s.pending := by rw [startHoldDelay_eq]
@[simp] theorem startHoldDelay_now  (s : State) :
    (startHoldDelay s).now = s.now := by rw [startHoldDelay_eq]
@[simp] theorem startHoldDelay_draws  (s : State) :
    (startHoldDelay s).draws = s.draws := by rw [startHoldDelay_eq]
@[simp] theorem startHoldDelay_line  (s : State) :
    (startHoldDelay s).line = s.line := by rw [startHoldDelay_eq]
@[simp] theorem startHoldDelay_inputs  (s : State) :
    (startHoldDelay s).inputs = s.inputs := by rw [startHoldDelay_eq]
@[simp] theorem startHoldDelay_inReset  (s : State) :
    (startHoldDelay s).inReset = s.inReset := by rw [startHoldDelay_eq]
@[simp] theorem startHoldDelay_straps  (s : State) :
    (startHoldDelay s).straps = s.straps := by rw [startHoldDelay_eq]
@[simp] theorem startHoldDelay_pickup  (s : State) :
    (startHoldDelay s).pickup = s.pickup := by rw [startHoldDelay_eq]
@[simp] theorem startHoldDelay_drive  (s : State) :
    (startHoldDelay s).drive = s.drive := by rw [startHoldDelay_eq]
@[simp] theorem startHoldDelay_selector  (s : State) :
    (startHoldDelay s).selector = s.selector := by rw [startHoldDelay_eq]
@[simp] theorem startHoldDelay_survey  (s : State) :
    (startHoldDelay s).survey = s.survey := by rw [startHoldDelay_eq]
@[simp] theorem startHoldDelay_steering  (s : State) :
    (startHoldDelay s).steering = s.steering := by rw [startHoldDelay_eq]
@[simp] theorem startHoldDelay_lanes  (s : State) :
    (startHoldDelay s).lanes = s.lanes := by rw [startHoldDelay_eq]
@[simp] theorem startHoldDelay_path  (s : State) :
    (startHoldDelay s).path = s.path := by rw [startHoldDelay_eq]
@[simp] theorem startHoldDelay_orders  (s : State) :
    (startHoldDelay s).orders = s.orders := by rw [startHoldDelay_eq]
@[simp] theorem startHoldDelay_settings  (s : State) :
    (startHoldDelay s).settings = s.settings := by rw [startHoldDelay_eq]
@[simp] theorem startHoldDelay_loopOf (h : Gear) (s : State) :
    (startHoldDelay s).loopOf h = s.loopOf h := by rw [startHoldDelay_eq]; rfl
@[simp] theorem startHoldDelay_pickupOf (h : Gear) (s : State) :
    (startHoldDelay s).pickupOf h = s.pickupOf h := by rw [startHoldDelay_eq]; rfl
@[simp] theorem startHoldDelay_setting (x : Setting) (s : State) :
    (startHoldDelay s).setting x = s.setting x := by rw [startHoldDelay_eq]; rfl
@[simp] theorem startHoldDelay_classField (x : ClassField) (s : State) :
    (startHoldDelay s).classField x = s.classField x := by rw [startHoldDelay_eq]; rfl
@[simp] theorem startHoldDelay_latched (x : TripKind) (s : State) :
    (startHoldDelay s).latched x = s.latched x := by rw [startHoldDelay_eq]; rfl
@[simp] theorem startHoldDelay_ownByte  (s : State) :
    (startHoldDelay s).ownByte = s.ownByte := by rw [startHoldDelay_eq]; rfl

theorem startHoldDelay_kept (s : State) : LanesKept s (startHoldDelay s) := .onSlurry ..

theorem loopMoved_eq (g : Gear) (old : LoopState) (s : State) :
    loopMoved g old s = { s with slurry := (loopMoved g old s).slurry
                                 lanes := (loopMoved g old s).lanes
                                 path := (loopMoved g old s).path } := by
  unfold loopMoved
  split
  · rfl
  · split
    · rw [formFeed_eq, agitationExit_eq, startHoldDelay_eq]
    · split <;> rfl

@[simp] theorem loopMoved_pending (g : Gear) (old : LoopState) (s : State) :
    (loopMoved g old s).pending = s.pending := by rw [loopMoved_eq]
@[simp] theorem loopMoved_now (g : Gear) (old : LoopState) (s : State) :
    (loopMoved g old s).now = s.now := by rw [loopMoved_eq]
@[simp] theorem loopMoved_draws (g : Gear) (old : LoopState) (s : State) :
    (loopMoved g old s).draws = s.draws := by rw [loopMoved_eq]
@[simp] theorem loopMoved_line (g : Gear) (old : LoopState) (s : State) :
    (loopMoved g old s).line = s.line := by rw [loopMoved_eq]
@[simp] theorem loopMoved_inputs (g : Gear) (old : LoopState) (s : State) :
    (loopMoved g old s).inputs = s.inputs := by rw [loopMoved_eq]
@[simp] theorem loopMoved_inReset (g : Gear) (old : LoopState) (s : State) :
    (loopMoved g old s).inReset = s.inReset := by rw [loopMoved_eq]
@[simp] theorem loopMoved_straps (g : Gear) (old : LoopState) (s : State) :
    (loopMoved g old s).straps = s.straps := by rw [loopMoved_eq]
@[simp] theorem loopMoved_pickup (g : Gear) (old : LoopState) (s : State) :
    (loopMoved g old s).pickup = s.pickup := by rw [loopMoved_eq]
@[simp] theorem loopMoved_drive (g : Gear) (old : LoopState) (s : State) :
    (loopMoved g old s).drive = s.drive := by rw [loopMoved_eq]
@[simp] theorem loopMoved_selector (g : Gear) (old : LoopState) (s : State) :
    (loopMoved g old s).selector = s.selector := by rw [loopMoved_eq]
@[simp] theorem loopMoved_survey (g : Gear) (old : LoopState) (s : State) :
    (loopMoved g old s).survey = s.survey := by rw [loopMoved_eq]
@[simp] theorem loopMoved_steering (g : Gear) (old : LoopState) (s : State) :
    (loopMoved g old s).steering = s.steering := by rw [loopMoved_eq]
@[simp] theorem loopMoved_orders (g : Gear) (old : LoopState) (s : State) :
    (loopMoved g old s).orders = s.orders := by rw [loopMoved_eq]
@[simp] theorem loopMoved_settings (g : Gear) (old : LoopState) (s : State) :
    (loopMoved g old s).settings = s.settings := by rw [loopMoved_eq]
@[simp] theorem loopMoved_loopOf (g : Gear) (old : LoopState) (h : Gear) (s : State) :
    (loopMoved g old s).loopOf h = s.loopOf h := by rw [loopMoved_eq]; rfl
@[simp] theorem loopMoved_pickupOf (g : Gear) (old : LoopState) (h : Gear) (s : State) :
    (loopMoved g old s).pickupOf h = s.pickupOf h := by rw [loopMoved_eq]; rfl
@[simp] theorem loopMoved_setting (g : Gear) (old : LoopState) (x : Setting) (s : State) :
    (loopMoved g old s).setting x = s.setting x := by rw [loopMoved_eq]; rfl
@[simp] theorem loopMoved_classField (g : Gear) (old : LoopState) (x : ClassField) (s : State) :
    (loopMoved g old s).classField x = s.classField x := by rw [loopMoved_eq]; rfl
@[simp] theorem loopMoved_latched (g : Gear) (old : LoopState) (x : TripKind) (s : State) :
    (loopMoved g old s).latched x = s.latched x := by rw [loopMoved_eq]; rfl
@[simp] theorem loopMoved_ownByte (g : Gear) (old : LoopState) (s : State) :
    (loopMoved g old s).ownByte = s.ownByte := by rw [loopMoved_eq]; rfl

theorem loopMoved_kept (g : Gear) (old : LoopState) (s : State) :
    LanesKept s (loopMoved g old s) := by
  unfold loopMoved
  split
  · exact .refl s
  · split
    · exact ((startHoldDelay_kept s).trans (agitationExit_kept _)).trans (formFeed_kept _)
    · split
      · exact (startHoldDelay_kept s).trans (formFeed_kept _)
      · exact formFeed_kept s

/-- A departure from STOPPED may end an agitation; no other change of a loop moves the slurry loop. -/
theorem loopMoved_state (g : Gear) (old : LoopState) (s : State) :
    (loopMoved g old s).slurry.state =
      if (s.loopOf g).state ≠ old ∧ old = .stopped then (agitationExit s).slurry.state
      else s.slurry.state := by
  unfold loopMoved
  by_cases h1 : (s.loopOf g).state = old
  · simp [h1]
  · by_cases h2 : old = .stopped
    · subst h2; simp [h1, agitationExit_state]; rfl
    · simp only [h1, h2, if_false, and_false]; split <;> rfl

/-- A change of state forms the feed limit (R116). -/
theorem loopMoved_feed {g : Gear} {old : LoopState} {s : State} (h : (s.loopOf g).state ≠ old) :
    (loopMoved g old s).slurry.feed = (loopMoved g old s).feedLimit := by
  unfold loopMoved
  simp only [h, if_false]
  split
  · rfl
  · split <;> rfl

@[simp] theorem loopEntry_state (s : State) (new : LoopState) (l : DriveLoop) :
    (loopEntry s new l).state = new := by
  cases new <;> simp only [loopEntry] <;> first | rfl | (split <;> rfl)

theorem enterLoop_eq (g : Gear) (new : LoopState) (s : State) :
    enterLoop g new s = { s with
      drive := { s.drive with loop := s.drive.loop.set g (loopEntry s new (s.loopOf g)) }
      slurry := (enterLoop g new s).slurry, lanes := (enterLoop g new s).lanes
      path := (enterLoop g new s).path } := by
  unfold enterLoop; rw [loopMoved_eq, valveEntry_eq]; rfl

@[simp] theorem enterLoop_drive (g : Gear) (new : LoopState) (s : State) :
    (enterLoop g new s).drive =
      { s.drive with loop := s.drive.loop.set g (loopEntry s new (s.loopOf g)) } := by
  rw [enterLoop_eq]

@[simp] theorem enterLoop_loopOf (g h : Gear) (new : LoopState) (s : State) :
    (enterLoop g new s).loopOf h =
      if h = g then loopEntry s new (s.loopOf g) else s.loopOf h := by
  simp [State.loopOf]

@[simp] theorem enterLoop_pending (g : Gear) (new : LoopState) (s : State) :
    (enterLoop g new s).pending = s.pending := by rw [enterLoop_eq]
@[simp] theorem enterLoop_now (g : Gear) (new : LoopState) (s : State) :
    (enterLoop g new s).now = s.now := by rw [enterLoop_eq]
@[simp] theorem enterLoop_draws (g : Gear) (new : LoopState) (s : State) :
    (enterLoop g new s).draws = s.draws := by rw [enterLoop_eq]
@[simp] theorem enterLoop_line (g : Gear) (new : LoopState) (s : State) :
    (enterLoop g new s).line = s.line := by rw [enterLoop_eq]
@[simp] theorem enterLoop_inputs (g : Gear) (new : LoopState) (s : State) :
    (enterLoop g new s).inputs = s.inputs := by rw [enterLoop_eq]
@[simp] theorem enterLoop_inReset (g : Gear) (new : LoopState) (s : State) :
    (enterLoop g new s).inReset = s.inReset := by rw [enterLoop_eq]
@[simp] theorem enterLoop_straps (g : Gear) (new : LoopState) (s : State) :
    (enterLoop g new s).straps = s.straps := by rw [enterLoop_eq]
@[simp] theorem enterLoop_pickup (g : Gear) (new : LoopState) (s : State) :
    (enterLoop g new s).pickup = s.pickup := by rw [enterLoop_eq]
@[simp] theorem enterLoop_selector (g : Gear) (new : LoopState) (s : State) :
    (enterLoop g new s).selector = s.selector := by rw [enterLoop_eq]
@[simp] theorem enterLoop_survey (g : Gear) (new : LoopState) (s : State) :
    (enterLoop g new s).survey = s.survey := by rw [enterLoop_eq]
@[simp] theorem enterLoop_steering (g : Gear) (new : LoopState) (s : State) :
    (enterLoop g new s).steering = s.steering := by rw [enterLoop_eq]
@[simp] theorem enterLoop_orders (g : Gear) (new : LoopState) (s : State) :
    (enterLoop g new s).orders = s.orders := by rw [enterLoop_eq]
@[simp] theorem enterLoop_settings (g : Gear) (new : LoopState) (s : State) :
    (enterLoop g new s).settings = s.settings := by rw [enterLoop_eq]
@[simp] theorem enterLoop_pickupOf (g : Gear) (new : LoopState) (h : Gear) (s : State) :
    (enterLoop g new s).pickupOf h = s.pickupOf h := by rw [enterLoop_eq]; rfl
@[simp] theorem enterLoop_setting (g : Gear) (new : LoopState) (x : Setting) (s : State) :
    (enterLoop g new s).setting x = s.setting x := by rw [enterLoop_eq]; rfl
@[simp] theorem enterLoop_classField (g : Gear) (new : LoopState) (x : ClassField) (s : State) :
    (enterLoop g new s).classField x = s.classField x := by rw [enterLoop_eq]; rfl
@[simp] theorem enterLoop_latched (g : Gear) (new : LoopState) (x : TripKind) (s : State) :
    (enterLoop g new s).latched x = s.latched x := by rw [enterLoop_eq]; rfl
@[simp] theorem enterLoop_ownByte (g : Gear) (new : LoopState) (s : State) :
    (enterLoop g new s).ownByte = s.ownByte := by rw [enterLoop_eq]; rfl

theorem LanesKept.onLoop (g : Gear) (f : DriveLoop → DriveLoop) (s : State) :
    LanesKept s (s.onLoop g f) := .of_eq rfl rfl

theorem enterLoop_kept (g : Gear) (new : LoopState) (s : State) :
    LanesKept s (enterLoop g new s) :=
  (LanesKept.onLoop g _ s).trans ((valveEntry_kept ..).trans (loopMoved_kept ..))

/-- Entering a state ends an agitation only on a departure from STOPPED (R111). -/
theorem enterLoop_slurryState (g : Gear) (new : LoopState) (s : State) :
    (enterLoop g new s).slurry.state =
      if (s.loopOf g).state = .stopped ∧ new ≠ .stopped then
        (if s.slurry.state = .agitate then (if s.slurry.phase = .burst then .run else .flush)
          else s.slurry.state)
      else s.slurry.state := by
  unfold enterLoop
  rw [loopMoved_state, agitationExit_state]
  simp
  by_cases h1 : (s.loopOf g).state = .stopped <;> by_cases h2 : new = .stopped <;>
    simp [h1, h2]

theorem enterLoop_feed {g : Gear} {new : LoopState} {s : State} (h : (s.loopOf g).state ≠ new) :
    (enterLoop g new s).slurry.feed = (enterLoop g new s).feedLimit := by
  unfold enterLoop
  exact loopMoved_feed (by simpa using fun e => h e.symm)

/-- A move between two states other than STOPPED that touches no valve channel changes the loop and
the feed limit alone. -/
theorem enterLoop_plain {g : Gear} {new : LoopState} {s : State} (h1 : (s.loopOf g).state ≠ new)
    (h2 : (s.loopOf g).state ≠ .stopped) (h3 : ∀ t, valveEntry g new t = t)
    (h4 : new ≠ .stopped) :
    enterLoop g new s = formFeed (s.onLoop g (loopEntry s new)) := by
  unfold enterLoop loopMoved
  have h5 : (s.onLoop g (loopEntry s new)).bothLoops .stopped = false := by
    cases g <;> simp [State.bothLoops, h4]
  simp [h3, h2, h5, Ne.symm h1]

/-! ## Loops are stopped, held and released -/

theorem enterStopping_kept (g : Gear) (s : State) : LanesKept s (enterStopping g s) := by
  unfold enterStopping; simp only; split
  · exact (enterLoop_kept ..).trans (enterLoop_kept ..)
  · exact enterLoop_kept ..

theorem enterStopping_eq (g : Gear) (s : State) :
    enterStopping g s = { s with drive := (enterStopping g s).drive
                                 slurry := (enterStopping g s).slurry
                                 lanes := (enterStopping g s).lanes
                                 path := (enterStopping g s).path } := by
  unfold enterStopping; simp only; split
  · rw [enterLoop_eq, enterLoop_eq g .stopping]
  · rw [enterLoop_eq]

theorem stopLoop_eq (g : Gear) (s : State) :
    stopLoop g s = { s with drive := (stopLoop g s).drive, slurry := (stopLoop g s).slurry
                            lanes := (stopLoop g s).lanes, path := (stopLoop g s).path } := by
  unfold stopLoop
  split <;> first | rfl | rw [enterLoop_eq] | rw [enterStopping_eq]

@[simp] theorem stopLoop_pending (g : Gear) (s : State) :
    (stopLoop g s).pending = s.pending := by rw [stopLoop_eq]
@[simp] theorem stopLoop_now (g : Gear) (s : State) :
    (stopLoop g s).now = s.now := by rw [stopLoop_eq]
@[simp] theorem stopLoop_draws (g : Gear) (s : State) :
    (stopLoop g s).draws = s.draws := by rw [stopLoop_eq]
@[simp] theorem stopLoop_line (g : Gear) (s : State) :
    (stopLoop g s).line = s.line := by rw [stopLoop_eq]
@[simp] theorem stopLoop_inputs (g : Gear) (s : State) :
    (stopLoop g s).inputs = s.inputs := by rw [stopLoop_eq]
@[simp] theorem stopLoop_inReset (g : Gear) (s : State) :
    (stopLoop g s).inReset = s.inReset := by rw [stopLoop_eq]
@[simp] theorem stopLoop_straps (g : Gear) (s : State) :
    (stopLoop g s).straps = s.straps := by rw [stopLoop_eq]
@[simp] theorem stopLoop_pickup (g : Gear) (s : State) :
    (stopLoop g s).pickup = s.pickup := by rw [stopLoop_eq]
@[simp] theorem stopLoop_selector (g : Gear) (s : State) :
    (stopLoop g s).selector = s.selector := by rw [stopLoop_eq]
@[simp] theorem stopLoop_survey (g : Gear) (s : State) :
    (stopLoop g s).survey = s.survey := by rw [stopLoop_eq]
@[simp] theorem stopLoop_steering (g : Gear) (s : State) :
    (stopLoop g s).steering = s.steering := by rw [stopLoop_eq]
@[simp] theorem stopLoop_orders (g : Gear) (s : State) :
    (stopLoop g s).orders = s.orders := by rw [stopLoop_eq]
@[simp] theorem stopLoop_settings (g : Gear) (s : State) :
    (stopLoop g s).settings = s.settings := by rw [stopLoop_eq]
@[simp] theorem stopLoop_pickupOf (g : Gear) (h : Gear) (s : State) :
    (stopLoop g s).pickupOf h = s.pickupOf h := by rw [stopLoop_eq]; rfl
@[simp] theorem stopLoop_setting (g : Gear) (x : Setting) (s : State) :
    (stopLoop g s).setting x = s.setting x := by rw [stopLoop_eq]; rfl
@[simp] theorem stopLoop_classField (g : Gear) (x : ClassField) (s : State) :
    (stopLoop g s).classField x = s.classField x := by rw [stopLoop_eq]; rfl
@[simp] theorem stopLoop_latched (g : Gear) (x : TripKind) (s : State) :
    (stopLoop g s).latched x = s.latched x := by rw [stopLoop_eq]; rfl
@[simp] theorem stopLoop_ownByte (g : Gear) (s : State) :
    (stopLoop g s).ownByte = s.ownByte := by rw [stopLoop_eq]; rfl

theorem stopLoop_kept (g : Gear) (s : State) : LanesKept s (stopLoop g s) := by
  unfold stopLoop
  split <;> first | exact .refl s | exact enterLoop_kept .. | exact enterStopping_kept ..

/-- R25, R29: the state that a stopped loop goes to. -/
@[simp] theorem stopLoop_state (g : Gear) (s : State) :
    ((stopLoop g s).loopOf g).state = s.stopOutcome g := by
  unfold stopLoop State.stopOutcome enterStopping
  cases h : (s.loopOf g).state <;> simp [h] <;>
    by_cases hf : (s.pickupOf g).health = .fault <;> simp [hf]

@[simp] theorem stopLoop_partner (g : Gear) (s : State) :
    (stopLoop g s).loopOf g.partner = s.loopOf g.partner := by
  unfold stopLoop enterStopping
  cases h : (s.loopOf g).state <;> simp <;>
    by_cases hf : (s.pickupOf g).health = .fault <;> simp [hf]

@[simp] theorem stopLoop_base (g : Gear) (s : State) :
    (stopLoop g s).drive.base = s.drive.base := by
  unfold stopLoop enterStopping
  cases h : (s.loopOf g).state <;> simp <;>
    by_cases hf : (s.pickupOf g).health = .fault <;> simp [hf]

@[simp] theorem stopLoop_slurryState (g : Gear) (s : State) :
    (stopLoop g s).slurry.state = s.slurry.state := by
  unfold stopLoop enterStopping
  cases h : (s.loopOf g).state <;> simp [h, enterLoop_slurryState] <;>
    by_cases hf : (s.pickupOf g).health = .fault <;> simp [hf, h, enterLoop_slurryState]

theorem stopBoth_eq (s : State) :
    stopBoth s = { s with drive := (stopBoth s).drive, slurry := (stopBoth s).slurry
                          lanes := (stopBoth s).lanes, path := (stopBoth s).path } := by
  unfold stopBoth; rw [stopLoop_eq, stopLoop_eq .g1]

@[simp] theorem stopBoth_pending  (s : State) :
    (stopBoth s).pending = s.pending := by rw [stopBoth_eq]
@[simp] theorem stopBoth_now  (s : State) : (stopBoth s).now = s.now := by rw [stopBoth_eq]
@[simp] theorem stopBoth_draws  (s : State) : (stopBoth s).draws = s.draws := by rw [stopBoth_eq]
@[simp] theorem stopBoth_line  (s : State) : (stopBoth s).line = s.line := by rw [stopBoth_eq]
@[simp] theorem stopBoth_inputs  (s : State) : (stopBoth s).inputs = s.inputs := by rw [stopBoth_eq]
@[simp] theorem stopBoth_inReset  (s : State) :
    (stopBoth s).inReset = s.inReset := by rw [stopBoth_eq]
@[simp] theorem stopBoth_straps  (s : State) : (stopBoth s).straps = s.straps := by rw [stopBoth_eq]
@[simp] theorem stopBoth_pickup  (s : State) : (stopBoth s).pickup = s.pickup := by rw [stopBoth_eq]
@[simp] theorem stopBoth_selector  (s : State) :
    (stopBoth s).selector = s.selector := by rw [stopBoth_eq]
@[simp] theorem stopBoth_survey  (s : State) : (stopBoth s).survey = s.survey := by rw [stopBoth_eq]
@[simp] theorem stopBoth_steering  (s : State) :
    (stopBoth s).steering = s.steering := by rw [stopBoth_eq]
@[simp] theorem stopBoth_orders  (s : State) : (stopBoth s).orders = s.orders := by rw [stopBoth_eq]
@[simp] theorem stopBoth_settings  (s : State) :
    (stopBoth s).settings = s.settings := by rw [stopBoth_eq]
@[simp] theorem stopBoth_pickupOf (h : Gear) (s : State) :
    (stopBoth s).pickupOf h = s.pickupOf h := by rw [stopBoth_eq]; rfl
@[simp] theorem stopBoth_setting (x : Setting) (s : State) :
    (stopBoth s).setting x = s.setting x := by rw [stopBoth_eq]; rfl
@[simp] theorem stopBoth_classField (x : ClassField) (s : State) :
    (stopBoth s).classField x = s.classField x := by rw [stopBoth_eq]; rfl
@[simp] theorem stopBoth_latched (x : TripKind) (s : State) :
    (stopBoth s).latched x = s.latched x := by rw [stopBoth_eq]; rfl
@[simp] theorem stopBoth_ownByte  (s : State) :
    (stopBoth s).ownByte = s.ownByte := by rw [stopBoth_eq]; rfl

theorem stopBoth_kept (s : State) : LanesKept s (stopBoth s) :=
  (stopLoop_kept .g1 s).trans (stopLoop_kept ..)

/-- Stopping one loop leaves what the other would be stopped to. -/
theorem stopLoop_stopOutcome (g : Gear) (s : State) :
    (stopLoop g s).stopOutcome g.partner = s.stopOutcome g.partner := by
  unfold State.stopOutcome; rw [stopLoop_partner]; simp

@[simp] theorem stopBoth_state (g : Gear) (s : State) :
    ((stopBoth s).loopOf g).state = s.stopOutcome g := by
  unfold stopBoth
  cases g
  · rw [show Gear.g1 = Gear.g2.partner from rfl, stopLoop_partner]
    exact stopLoop_state .g1 s
  · rw [stopLoop_state]; exact stopLoop_stopOutcome .g1 s

@[simp] theorem stopBoth_slurryState (s : State) :
    (stopBoth s).slurry.state = s.slurry.state := by simp [stopBoth]

@[simp] theorem stopBoth_base (s : State) : (stopBoth s).drive.base = s.drive.base := by
  simp [stopBoth]

/-- A loop in RUN that is held changes its state alone. -/
theorem holdLoop_loopOf (g h : Gear) (s : State) :
    (holdLoop g s).loopOf h =
      if h = g ∧ (s.loopOf g).state = .run then { s.loopOf g with state := .held }
      else s.loopOf h := by
  unfold holdLoop
  by_cases hr : (s.loopOf g).state = .run
  · by_cases hg : h = g <;> simp [hr, hg, loopEntry]
  · simp [hr]

theorem holdLoop_eq (g : Gear) (s : State) :
    holdLoop g s = { s with
      drive := (holdLoop g s).drive
      slurry := { s.slurry with feed := (holdLoop g s).slurry.feed } } := by
  unfold holdLoop; split
  · rename_i h
    rw [enterLoop_plain (by simp [h]) (by simp [h]) (fun _ => rfl) (by decide)]; rfl
  · rfl

@[simp] theorem holdLoop_pending (g : Gear) (s : State) :
    (holdLoop g s).pending = s.pending := by rw [holdLoop_eq]
@[simp] theorem holdLoop_now (g : Gear) (s : State) :
    (holdLoop g s).now = s.now := by rw [holdLoop_eq]
@[simp] theorem holdLoop_draws (g : Gear) (s : State) :
    (holdLoop g s).draws = s.draws := by rw [holdLoop_eq]
@[simp] theorem holdLoop_line (g : Gear) (s : State) :
    (holdLoop g s).line = s.line := by rw [holdLoop_eq]
@[simp] theorem holdLoop_inputs (g : Gear) (s : State) :
    (holdLoop g s).inputs = s.inputs := by rw [holdLoop_eq]
@[simp] theorem holdLoop_inReset (g : Gear) (s : State) :
    (holdLoop g s).inReset = s.inReset := by rw [holdLoop_eq]
@[simp] theorem holdLoop_straps (g : Gear) (s : State) :
    (holdLoop g s).straps = s.straps := by rw [holdLoop_eq]
@[simp] theorem holdLoop_pickup (g : Gear) (s : State) :
    (holdLoop g s).pickup = s.pickup := by rw [holdLoop_eq]
@[simp] theorem holdLoop_selector (g : Gear) (s : State) :
    (holdLoop g s).selector = s.selector := by rw [holdLoop_eq]
@[simp] theorem holdLoop_survey (g : Gear) (s : State) :
    (holdLoop g s).survey = s.survey := by rw [holdLoop_eq]
@[simp] theorem holdLoop_steering (g : Gear) (s : State) :
    (holdLoop g s).steering = s.steering := by rw [holdLoop_eq]
@[simp] theorem holdLoop_lanes (g : Gear) (s : State) :
    (holdLoop g s).lanes = s.lanes := by rw [holdLoop_eq]
@[simp] theorem holdLoop_path (g : Gear) (s : State) :
    (holdLoop g s).path = s.path := by rw [holdLoop_eq]
@[simp] theorem holdLoop_orders (g : Gear) (s : State) :
    (holdLoop g s).orders = s.orders := by rw [holdLoop_eq]
@[simp] theorem holdLoop_settings (g : Gear) (s : State) :
    (holdLoop g s).settings = s.settings := by rw [holdLoop_eq]
@[simp] theorem holdLoop_pickupOf (g : Gear) (h : Gear) (s : State) :
    (holdLoop g s).pickupOf h = s.pickupOf h := by rw [holdLoop_eq]; rfl
@[simp] theorem holdLoop_setting (g : Gear) (x : Setting) (s : State) :
    (holdLoop g s).setting x = s.setting x := by rw [holdLoop_eq]; rfl
@[simp] theorem holdLoop_classField (g : Gear) (x : ClassField) (s : State) :
    (holdLoop g s).classField x = s.classField x := by rw [holdLoop_eq]; rfl
@[simp] theorem holdLoop_latched (g : Gear) (x : TripKind) (s : State) :
    (holdLoop g s).latched x = s.latched x := by rw [holdLoop_eq]; rfl
@[simp] theorem holdLoop_ownByte (g : Gear) (s : State) :
    (holdLoop g s).ownByte = s.ownByte := by rw [holdLoop_eq]; rfl

theorem holdLoop_base (g : Gear) (s : State) : (holdLoop g s).drive.base = s.drive.base := by
  unfold holdLoop; split <;> simp

/-- A loop in HELD without a HELD cause changes its state alone. -/
theorem unholdLoop_loopOf (g h : Gear) (s : State) :
    (unholdLoop g s).loopOf h =
      if h = g ∧ (s.loopOf g).state = .held ∧ s.heldCause g = false then
        { s.loopOf g with state := .run }
      else s.loopOf h := by
  unfold unholdLoop
  by_cases hr : (s.loopOf g).state = .held ∧ s.heldCause g = false
  · by_cases hg : h = g <;> simp [hr, hg, loopEntry]
  · simp [hr]

theorem unholdLoop_eq (g : Gear) (s : State) :
    unholdLoop g s = { s with
      drive := (unholdLoop g s).drive
      slurry := { s.slurry with feed := (unholdLoop g s).slurry.feed } } := by
  unfold unholdLoop; split
  · rename_i h
    rw [enterLoop_plain (by simp [h]) (by simp [h]) (fun _ => rfl) (by decide)]; rfl
  · rfl

@[simp] theorem unholdLoop_pending (g : Gear) (s : State) :
    (unholdLoop g s).pending = s.pending := by rw [unholdLoop_eq]
@[simp] theorem unholdLoop_now (g : Gear) (s : State) :
    (unholdLoop g s).now = s.now := by rw [unholdLoop_eq]
@[simp] theorem unholdLoop_draws (g : Gear) (s : State) :
    (unholdLoop g s).draws = s.draws := by rw [unholdLoop_eq]
@[simp] theorem unholdLoop_line (g : Gear) (s : State) :
    (unholdLoop g s).line = s.line := by rw [unholdLoop_eq]
@[simp] theorem unholdLoop_inputs (g : Gear) (s : State) :
    (unholdLoop g s).inputs = s.inputs := by rw [unholdLoop_eq]
@[simp] theorem unholdLoop_inReset (g : Gear) (s : State) :
    (unholdLoop g s).inReset = s.inReset := by rw [unholdLoop_eq]
@[simp] theorem unholdLoop_straps (g : Gear) (s : State) :
    (unholdLoop g s).straps = s.straps := by rw [unholdLoop_eq]
@[simp] theorem unholdLoop_pickup (g : Gear) (s : State) :
    (unholdLoop g s).pickup = s.pickup := by rw [unholdLoop_eq]
@[simp] theorem unholdLoop_selector (g : Gear) (s : State) :
    (unholdLoop g s).selector = s.selector := by rw [unholdLoop_eq]
@[simp] theorem unholdLoop_survey (g : Gear) (s : State) :
    (unholdLoop g s).survey = s.survey := by rw [unholdLoop_eq]
@[simp] theorem unholdLoop_steering (g : Gear) (s : State) :
    (unholdLoop g s).steering = s.steering := by rw [unholdLoop_eq]
@[simp] theorem unholdLoop_lanes (g : Gear) (s : State) :
    (unholdLoop g s).lanes = s.lanes := by rw [unholdLoop_eq]
@[simp] theorem unholdLoop_path (g : Gear) (s : State) :
    (unholdLoop g s).path = s.path := by rw [unholdLoop_eq]
@[simp] theorem unholdLoop_orders (g : Gear) (s : State) :
    (unholdLoop g s).orders = s.orders := by rw [unholdLoop_eq]
@[simp] theorem unholdLoop_settings (g : Gear) (s : State) :
    (unholdLoop g s).settings = s.settings := by rw [unholdLoop_eq]
@[simp] theorem unholdLoop_pickupOf (g : Gear) (h : Gear) (s : State) :
    (unholdLoop g s).pickupOf h = s.pickupOf h := by rw [unholdLoop_eq]; rfl
@[simp] theorem unholdLoop_setting (g : Gear) (x : Setting) (s : State) :
    (unholdLoop g s).setting x = s.setting x := by rw [unholdLoop_eq]; rfl
@[simp] theorem unholdLoop_classField (g : Gear) (x : ClassField) (s : State) :
    (unholdLoop g s).classField x = s.classField x := by rw [unholdLoop_eq]; rfl
@[simp] theorem unholdLoop_latched (g : Gear) (x : TripKind) (s : State) :
    (unholdLoop g s).latched x = s.latched x := by rw [unholdLoop_eq]; rfl
@[simp] theorem unholdLoop_ownByte (g : Gear) (s : State) :
    (unholdLoop g s).ownByte = s.ownByte := by rw [unholdLoop_eq]; rfl

theorem unholdLoop_base (g : Gear) (s : State) :
    (unholdLoop g s).drive.base = s.drive.base := by
  unfold unholdLoop; split <;> simp

/-! ## The order link -/

/-- A move of the order link touches the link, the loops' states and the feed limit alone. -/
theorem setLink_eq (new : LinkState) (s : State) :
    setLink new s = { s with
      drive := (setLink new s).drive
      slurry := { s.slurry with feed := (setLink new s).slurry.feed }
      orders := { s.orders with link := new } } := by
  unfold setLink
  split
  · rename_i h; subst h; rfl
  · cases new <;> simp only [formFeed_eq]
    · rfl
    · split
      · rw [unholdLoop_eq, unholdLoop_eq .g1]; rfl
      · rfl
    · rw [holdLoop_eq, holdLoop_eq .g1]; rfl
    · rfl

@[simp] theorem setLink_orders (new : LinkState) (s : State) :
    (setLink new s).orders = { s.orders with link := new } := by rw [setLink_eq]

@[simp] theorem setLink_pending (new : LinkState) (s : State) :
    (setLink new s).pending = s.pending := by rw [setLink_eq]
@[simp] theorem setLink_now (new : LinkState) (s : State) :
    (setLink new s).now = s.now := by rw [setLink_eq]
@[simp] theorem setLink_draws (new : LinkState) (s : State) :
    (setLink new s).draws = s.draws := by rw [setLink_eq]
@[simp] theorem setLink_line (new : LinkState) (s : State) :
    (setLink new s).line = s.line := by rw [setLink_eq]
@[simp] theorem setLink_inputs (new : LinkState) (s : State) :
    (setLink new s).inputs = s.inputs := by rw [setLink_eq]
@[simp] theorem setLink_inReset (new : LinkState) (s : State) :
    (setLink new s).inReset = s.inReset := by rw [setLink_eq]
@[simp] theorem setLink_straps (new : LinkState) (s : State) :
    (setLink new s).straps = s.straps := by rw [setLink_eq]
@[simp] theorem setLink_pickup (new : LinkState) (s : State) :
    (setLink new s).pickup = s.pickup := by rw [setLink_eq]
@[simp] theorem setLink_selector (new : LinkState) (s : State) :
    (setLink new s).selector = s.selector := by rw [setLink_eq]
@[simp] theorem setLink_survey (new : LinkState) (s : State) :
    (setLink new s).survey = s.survey := by rw [setLink_eq]
@[simp] theorem setLink_steering (new : LinkState) (s : State) :
    (setLink new s).steering = s.steering := by rw [setLink_eq]
@[simp] theorem setLink_lanes (new : LinkState) (s : State) :
    (setLink new s).lanes = s.lanes := by rw [setLink_eq]
@[simp] theorem setLink_path (new : LinkState) (s : State) :
    (setLink new s).path = s.path := by rw [setLink_eq]
@[simp] theorem setLink_settings (new : LinkState) (s : State) :
    (setLink new s).settings = s.settings := by rw [setLink_eq]
@[simp] theorem setLink_pickupOf (new : LinkState) (h : Gear) (s : State) :
    (setLink new s).pickupOf h = s.pickupOf h := by rw [setLink_eq]; rfl
@[simp] theorem setLink_setting (new : LinkState) (x : Setting) (s : State) :
    (setLink new s).setting x = s.setting x := by rw [setLink_eq]; rfl
@[simp] theorem setLink_classField (new : LinkState) (x : ClassField) (s : State) :
    (setLink new s).classField x = s.classField x := by rw [setLink_eq]; rfl
@[simp] theorem setLink_ownByte (new : LinkState) (s : State) :
    (setLink new s).ownByte = s.ownByte := by rw [setLink_eq]; rfl

@[simp] theorem setLink_slurryState (new : LinkState) (s : State) :
    (setLink new s).slurry.state = s.slurry.state := by rw [setLink_eq]

theorem setLink_feed {new : LinkState} {s : State} (h : s.orders.link ≠ new) :
    (setLink new s).slurry.feed = (setLink new s).feedLimit := by
  unfold setLink; simp only [h, if_false]; rfl

/-! ## A trip is latched -/

theorem tripSlurry_eq (s : State) :
    tripSlurry s = { s with drive := (tripSlurry s).drive, slurry := (tripSlurry s).slurry
                            lanes := (tripSlurry s).lanes, path := (tripSlurry s).path } := by
  unfold tripSlurry; rw [stopBoth_eq, zeroSlurry_eq]

theorem tripUnlessStopped_eq (g : Gear) (s : State) :
    tripUnlessStopped g s = { s with
      drive := (tripUnlessStopped g s).drive, slurry := (tripUnlessStopped g s).slurry
      lanes := (tripUnlessStopped g s).lanes, path := (tripUnlessStopped g s).path } := by
  unfold tripUnlessStopped; split
  · rfl
  · rw [enterLoop_eq]

theorem actOnLatch_eq (k : TripKind) (s : State) :
    actOnLatch k s = { s with
      drive := (actOnLatch k s).drive, steering := (actOnLatch k s).steering
      slurry := (actOnLatch k s).slurry, lanes := (actOnLatch k s).lanes
      path := (actOnLatch k s).path } := by
  unfold actOnLatch
  split
  · simp only; split
    · rw [enterSteeringHold, stopBoth_eq]; rfl
    · rw [stopBoth_eq]
  · rw [stopLoop_eq, enterLoop_eq]
  · rw [stopLoop_eq, enterLoop_eq]
  · rw [tripSlurry_eq]
  · rw [tripSlurry_eq]
  · rw [tripUnlessStopped_eq, tripUnlessStopped_eq .g1]
  · split
    · rfl
    · rw [enterSteeringClear_eq]
  · rfl
  · split
    · rfl
    · rw [tripSlurry_eq]

@[simp] theorem actOnLatch_pending (k : TripKind) (s : State) :
    (actOnLatch k s).pending = s.pending := by rw [actOnLatch_eq]
@[simp] theorem actOnLatch_now (k : TripKind) (s : State) :
    (actOnLatch k s).now = s.now := by rw [actOnLatch_eq]
@[simp] theorem actOnLatch_draws (k : TripKind) (s : State) :
    (actOnLatch k s).draws = s.draws := by rw [actOnLatch_eq]
@[simp] theorem actOnLatch_line (k : TripKind) (s : State) :
    (actOnLatch k s).line = s.line := by rw [actOnLatch_eq]
@[simp] theorem actOnLatch_inputs (k : TripKind) (s : State) :
    (actOnLatch k s).inputs = s.inputs := by rw [actOnLatch_eq]
@[simp] theorem actOnLatch_inReset (k : TripKind) (s : State) :
    (actOnLatch k s).inReset = s.inReset := by rw [actOnLatch_eq]
@[simp] theorem actOnLatch_straps (k : TripKind) (s : State) :
    (actOnLatch k s).straps = s.straps := by rw [actOnLatch_eq]
@[simp] theorem actOnLatch_pickup (k : TripKind) (s : State) :
    (actOnLatch k s).pickup = s.pickup := by rw [actOnLatch_eq]
@[simp] theorem actOnLatch_selector (k : TripKind) (s : State) :
    (actOnLatch k s).selector = s.selector := by rw [actOnLatch_eq]
@[simp] theorem actOnLatch_survey (k : TripKind) (s : State) :
    (actOnLatch k s).survey = s.survey := by rw [actOnLatch_eq]
@[simp] theorem actOnLatch_orders (k : TripKind) (s : State) :
    (actOnLatch k s).orders = s.orders := by rw [actOnLatch_eq]
@[simp] theorem actOnLatch_settings (k : TripKind) (s : State) :
    (actOnLatch k s).settings = s.settings := by rw [actOnLatch_eq]
@[simp] theorem actOnLatch_pickupOf (k : TripKind) (h : Gear) (s : State) :
    (actOnLatch k s).pickupOf h = s.pickupOf h := by rw [actOnLatch_eq]; rfl
@[simp] theorem actOnLatch_setting (k : TripKind) (x : Setting) (s : State) :
    (actOnLatch k s).setting x = s.setting x := by rw [actOnLatch_eq]; rfl
@[simp] theorem actOnLatch_classField (k : TripKind) (x : ClassField) (s : State) :
    (actOnLatch k s).classField x = s.classField x := by rw [actOnLatch_eq]; rfl
@[simp] theorem actOnLatch_latched (k : TripKind) (x : TripKind) (s : State) :
    (actOnLatch k s).latched x = s.latched x := by rw [actOnLatch_eq]; rfl
@[simp] theorem actOnLatch_ownByte (k : TripKind) (s : State) :
    (actOnLatch k s).ownByte = s.ownByte := by rw [actOnLatch_eq]; rfl

theorem tripSlurry_kept (s : State) : LanesKept s (tripSlurry s) :=
  (zeroSlurry_kept ..).trans (stopBoth_kept _)

theorem tripUnlessStopped_kept (g : Gear) (s : State) : LanesKept s (tripUnlessStopped g s) := by
  unfold tripUnlessStopped; split
  · exact .refl s
  · exact enterLoop_kept ..

theorem actOnLatch_kept (k : TripKind) (s : State) : LanesKept s (actOnLatch k s) := by
  unfold actOnLatch
  split
  · simp only; split
    · exact (stopBoth_kept s).trans (.onSteering ..)
    · exact stopBoth_kept s
  · exact (enterLoop_kept ..).trans (stopLoop_kept ..)
  · exact (enterLoop_kept ..).trans (stopLoop_kept ..)
  · exact tripSlurry_kept s
  · exact tripSlurry_kept s
  · exact (tripUnlessStopped_kept ..).trans (tripUnlessStopped_kept ..)
  · split
    · exact .refl s
    · exact enterSteeringClear_kept ..
  · exact .refl s
  · split
    · exact .refl s
    · exact tripSlurry_kept s

theorem latch_eq (k : TripKind) (s : State) :
    latch k s = { s with
      drive := (latch k s).drive, steering := (latch k s).steering
      slurry := (latch k s).slurry, lanes := (latch k s).lanes, path := (latch k s).path
      orders := { s.orders with
        trips := insertKind k s.orders.trips
        record := if s.orders.trips = [] then some (s.tripRecord k) else s.orders.record } } := by
  unfold latch; simp only
  rw [sendReport_eq, actOnLatch_eq]
  split <;> rfl

@[simp] theorem latch_orders (k : TripKind) (s : State) :
    (latch k s).orders = { s.orders with
      trips := insertKind k s.orders.trips
      record := if s.orders.trips = [] then some (s.tripRecord k) else s.orders.record } := by
  rw [latch_eq]

@[simp] theorem latch_pending (k : TripKind) (s : State) :
    (latch k s).pending = s.pending := by rw [latch_eq]
@[simp] theorem latch_now (k : TripKind) (s : State) : (latch k s).now = s.now := by rw [latch_eq]
@[simp] theorem latch_draws (k : TripKind) (s : State) :
    (latch k s).draws = s.draws := by rw [latch_eq]
@[simp] theorem latch_line (k : TripKind) (s : State) :
    (latch k s).line = s.line := by rw [latch_eq]
@[simp] theorem latch_inputs (k : TripKind) (s : State) :
    (latch k s).inputs = s.inputs := by rw [latch_eq]
@[simp] theorem latch_inReset (k : TripKind) (s : State) :
    (latch k s).inReset = s.inReset := by rw [latch_eq]
@[simp] theorem latch_straps (k : TripKind) (s : State) :
    (latch k s).straps = s.straps := by rw [latch_eq]
@[simp] theorem latch_pickup (k : TripKind) (s : State) :
    (latch k s).pickup = s.pickup := by rw [latch_eq]
@[simp] theorem latch_selector (k : TripKind) (s : State) :
    (latch k s).selector = s.selector := by rw [latch_eq]
@[simp] theorem latch_survey (k : TripKind) (s : State) :
    (latch k s).survey = s.survey := by rw [latch_eq]
@[simp] theorem latch_settings (k : TripKind) (s : State) :
    (latch k s).settings = s.settings := by rw [latch_eq]
@[simp] theorem latch_pickupOf (k : TripKind) (h : Gear) (s : State) :
    (latch k s).pickupOf h = s.pickupOf h := by rw [latch_eq]; rfl
@[simp] theorem latch_setting (k : TripKind) (x : Setting) (s : State) :
    (latch k s).setting x = s.setting x := by rw [latch_eq]; rfl
@[simp] theorem latch_classField (k : TripKind) (x : ClassField) (s : State) :
    (latch k s).classField x = s.classField x := by rw [latch_eq]; rfl
@[simp] theorem latch_ownByte (k : TripKind) (s : State) :
    (latch k s).ownByte = s.ownByte := by rw [latch_eq]; rfl

theorem mem_allKinds (x : TripKind) : x ∈ allKinds := by
  rcases x with _ | g | g | _ | _ | l <;> (try cases g) <;> (try cases l) <;> decide

@[simp] theorem mem_insertKind (x k : TripKind) (set : List TripKind) :
    x ∈ insertKind k set ↔ x = k ∨ x ∈ set := by simp [insertKind, mem_allKinds]

@[simp] theorem mem_removeKind (x k : TripKind) (set : List TripKind) :
    x ∈ removeKind k set ↔ x ≠ k ∧ x ∈ set := by simp [removeKind, mem_allKinds]

/-- A latch enters its kind and removes none (R155). -/
theorem latch_latched (k x : TripKind) (s : State) :
    (latch k s).latched x = true ↔ x = k ∨ s.latched x = true := by simp [State.latched]

/-! ## An order is taken -/

/-- R150 step 1, R153: what an ORDER frame leaves. -/
theorem orderLinkStep_eq (s : State) :
    orderLinkStep s = { s with
      drive := (orderLinkStep s).drive
      slurry := { s.slurry with feed := (orderLinkStep s).slurry.feed }
      orders := (orderLinkStep s).orders } := by
  unfold orderLinkStep; split
  · rfl
  · rw [setLink_eq]; rfl

@[simp] theorem orderLinkStep_pending  (s : State) :
    (orderLinkStep s).pending = s.pending := by rw [orderLinkStep_eq]
@[simp] theorem orderLinkStep_now  (s : State) :
    (orderLinkStep s).now = s.now := by rw [orderLinkStep_eq]
@[simp] theorem orderLinkStep_draws  (s : State) :
    (orderLinkStep s).draws = s.draws := by rw [orderLinkStep_eq]
@[simp] theorem orderLinkStep_line  (s : State) :
    (orderLinkStep s).line = s.line := by rw [orderLinkStep_eq]
@[simp] theorem orderLinkStep_inputs  (s : State) :
    (orderLinkStep s).inputs = s.inputs := by rw [orderLinkStep_eq]
@[simp] theorem orderLinkStep_inReset  (s : State) :
    (orderLinkStep s).inReset = s.inReset := by rw [orderLinkStep_eq]
@[simp] theorem orderLinkStep_straps  (s : State) :
    (orderLinkStep s).straps = s.straps := by rw [orderLinkStep_eq]
@[simp] theorem orderLinkStep_pickup  (s : State) :
    (orderLinkStep s).pickup = s.pickup := by rw [orderLinkStep_eq]
@[simp] theorem orderLinkStep_selector  (s : State) :
    (orderLinkStep s).selector = s.selector := by rw [orderLinkStep_eq]
@[simp] theorem orderLinkStep_survey  (s : State) :
    (orderLinkStep s).survey = s.survey := by rw [orderLinkStep_eq]
@[simp] theorem orderLinkStep_steering  (s : State) :
    (orderLinkStep s).steering = s.steering := by rw [orderLinkStep_eq]
@[simp] theorem orderLinkStep_lanes  (s : State) :
    (orderLinkStep s).lanes = s.lanes := by rw [orderLinkStep_eq]
@[simp] theorem orderLinkStep_path  (s : State) :
    (orderLinkStep s).path = s.path := by rw [orderLinkStep_eq]
@[simp] theorem orderLinkStep_settings  (s : State) :
    (orderLinkStep s).settings = s.settings := by rw [orderLinkStep_eq]
@[simp] theorem orderLinkStep_pickupOf (h : Gear) (s : State) :
    (orderLinkStep s).pickupOf h = s.pickupOf h := by rw [orderLinkStep_eq]; rfl
@[simp] theorem orderLinkStep_setting (x : Setting) (s : State) :
    (orderLinkStep s).setting x = s.setting x := by rw [orderLinkStep_eq]; rfl
@[simp] theorem orderLinkStep_classField (x : ClassField) (s : State) :
    (orderLinkStep s).classField x = s.classField x := by rw [orderLinkStep_eq]; rfl
@[simp] theorem orderLinkStep_ownByte  (s : State) :
    (orderLinkStep s).ownByte = s.ownByte := by rw [orderLinkStep_eq]; rfl

@[simp] theorem orderLinkStep_replyCap (s : State) :
    (orderLinkStep s).replyCap = s.replyCap := by
  rw [State.replyCap, State.replyCap, State.repliesWaiting, State.repliesWaiting, State.queueOf,
    State.queueOf, orderLinkStep_path]

/-- An order with the right number of items, taken while fewer than four REPLY frames wait. -/
theorem takeOrder_taken {code : Nat} {args : List Word} {act : State → Result × State} {s : State}
    (hc : s.replyCap = false) (hn : args.length + 1 = orderItems code) :
    takeOrder code args act s =
      replyOrder code (act (orderLinkStep s)).1 (act (orderLinkStep s)).2 := by
  simp [takeOrder, hc, hn]

/-- An ORDER frame of the right count, `dt` µs on: its act is made on the state after step 1 of R150,
and its REPLY follows. -/
theorem arrival_taken {dt code : Nat} {args : List Word} {act : State → Result × State} {s : State}
    (h : s.takesOrders) (hn : args.length + 1 = orderItems code) :
    arrival dt s (takeOrder code args act) =
      .next (replyOrder code (act (s.afterLink dt)).1 (act (s.afterLink dt)).2) := by
  have hc : (emptyArea .shaft (s.elapse dt)).replyCap = false := by
    have := h.2
    simp only [State.replyCap, State.repliesWaiting, emptyArea, State.queueOf, State.onPath,
      State.elapse] at this ⊢
    exact decide_eq_false (by omega)
  simp only [arrival, live, h.1, Bool.false_eq_true, if_false]
  rw [takeOrder_taken hc hn]; rfl

/-- An event outside power-on reset. -/
theorem live_running {dt : Nat} {s : State} {f : State → State} (h : s.inReset = false) :
    live dt s f = .next (f (s.elapse dt)) := by simp [live, h]

/-- A timer is due exactly if it runs and its period has passed. -/
theorem Timer.due_iff {now : Nat} {t : Timer} :
    t.due now = true ↔ ∃ period since, t = .running period since ∧ since + period ≤ now := by
  cases t <;> simp [Timer.due]

/-- The expiry of a timer that is due. -/
theorem expiry_due {t : Timer} {f : State → State} {s : State} (h : t.due s.now = true) :
    expiry t f s = f s := by simp [expiry, h]

/-- A timer that is not due does not expire. -/
theorem expiry_early {t : Timer} {f : State → State} {s : State} (h : t.due s.now = false) :
    expiry t f s = s := by simp [expiry, h]

end Sys2Proof.Machine
end

