-- ==== Sys2Proof/Laws/Events.lean ====
section
/-! SUPPORT. What admission, decimation, transmission, the survey's passes and the pickup events can
change. -/

namespace Sys2Proof.Machine

/-! ## Admission and decimation (R139, R142, R143) -/

/-- A frame that is offered changes nothing, or takes the head of the free list to a queue's tail. -/
theorem offerFrame_cases (p : Port) (tag : Tag) (f : Frame) (s : State) :
    (offerFrame p tag f s = s ∧
      (forwardedShare p ≤ s.forwardedWaiting p ∨ s.path.free.length ≤ 10)) ∨
    ∃ b rest, s.path.free = b :: rest ∧ s.forwardedWaiting p < forwardedShare p ∧
      10 < s.path.free.length ∧
      offerFrame p tag f s = s.onPath fun x =>
        { x with free := rest, queue := x.queue.set p (x.queue.get p ++ [⟨b, tag, f⟩]) } := by
  unfold offerFrame
  split
  · exact .inl ⟨rfl, ‹_›⟩
  · rename_i h
    rw [not_or] at h
    rcases hf : s.path.free with _ | ⟨b, rest⟩
    · simp [hf] at h
    · exact .inr ⟨b, rest, rfl, by omega, by rw [← hf]; omega, enqueue_cons hf⟩

theorem offerFrame_eq (p : Port) (tag : Tag) (f : Frame) (s : State) :
    offerFrame p tag f s = { s with path := (offerFrame p tag f s).path } := by
  unfold offerFrame; split
  · rfl
  · rw [enqueue_eq]

@[simp] theorem offerFrame_pending (p : Port) (tag : Tag) (f : Frame) (s : State) :
    (offerFrame p tag f s).pending = s.pending := by rw [offerFrame_eq]
@[simp] theorem offerFrame_now (p : Port) (tag : Tag) (f : Frame) (s : State) :
    (offerFrame p tag f s).now = s.now := by rw [offerFrame_eq]
@[simp] theorem offerFrame_draws (p : Port) (tag : Tag) (f : Frame) (s : State) :
    (offerFrame p tag f s).draws = s.draws := by rw [offerFrame_eq]
@[simp] theorem offerFrame_line (p : Port) (tag : Tag) (f : Frame) (s : State) :
    (offerFrame p tag f s).line = s.line := by rw [offerFrame_eq]
@[simp] theorem offerFrame_inputs (p : Port) (tag : Tag) (f : Frame) (s : State) :
    (offerFrame p tag f s).inputs = s.inputs := by rw [offerFrame_eq]
@[simp] theorem offerFrame_inReset (p : Port) (tag : Tag) (f : Frame) (s : State) :
    (offerFrame p tag f s).inReset = s.inReset := by rw [offerFrame_eq]
@[simp] theorem offerFrame_straps (p : Port) (tag : Tag) (f : Frame) (s : State) :
    (offerFrame p tag f s).straps = s.straps := by rw [offerFrame_eq]
@[simp] theorem offerFrame_pickup (p : Port) (tag : Tag) (f : Frame) (s : State) :
    (offerFrame p tag f s).pickup = s.pickup := by rw [offerFrame_eq]
@[simp] theorem offerFrame_drive (p : Port) (tag : Tag) (f : Frame) (s : State) :
    (offerFrame p tag f s).drive = s.drive := by rw [offerFrame_eq]
@[simp] theorem offerFrame_selector (p : Port) (tag : Tag) (f : Frame) (s : State) :
    (offerFrame p tag f s).selector = s.selector := by rw [offerFrame_eq]
@[simp] theorem offerFrame_survey (p : Port) (tag : Tag) (f : Frame) (s : State) :
    (offerFrame p tag f s).survey = s.survey := by rw [offerFrame_eq]
@[simp] theorem offerFrame_steering (p : Port) (tag : Tag) (f : Frame) (s : State) :
    (offerFrame p tag f s).steering = s.steering := by rw [offerFrame_eq]
@[simp] theorem offerFrame_slurry (p : Port) (tag : Tag) (f : Frame) (s : State) :
    (offerFrame p tag f s).slurry = s.slurry := by rw [offerFrame_eq]
@[simp] theorem offerFrame_lanes (p : Port) (tag : Tag) (f : Frame) (s : State) :
    (offerFrame p tag f s).lanes = s.lanes := by rw [offerFrame_eq]
@[simp] theorem offerFrame_orders (p : Port) (tag : Tag) (f : Frame) (s : State) :
    (offerFrame p tag f s).orders = s.orders := by rw [offerFrame_eq]
@[simp] theorem offerFrame_settings (p : Port) (tag : Tag) (f : Frame) (s : State) :
    (offerFrame p tag f s).settings = s.settings := by rw [offerFrame_eq]
@[simp] theorem offerFrame_loopOf (p : Port) (tag : Tag) (f : Frame) (h : Gear) (s : State) :
    (offerFrame p tag f s).loopOf h = s.loopOf h := by rw [offerFrame_eq]; rfl
@[simp] theorem offerFrame_pickupOf (p : Port) (tag : Tag) (f : Frame) (h : Gear) (s : State) :
    (offerFrame p tag f s).pickupOf h = s.pickupOf h := by rw [offerFrame_eq]; rfl
@[simp] theorem offerFrame_setting (p : Port) (tag : Tag) (f : Frame) (x : Setting) (s : State) :
    (offerFrame p tag f s).setting x = s.setting x := by rw [offerFrame_eq]; rfl
@[simp] theorem offerFrame_classField (p : Port) (tag : Tag) (f : Frame) (x : ClassField) (s : State) :
    (offerFrame p tag f s).classField x = s.classField x := by rw [offerFrame_eq]; rfl
@[simp] theorem offerFrame_latched (p : Port) (tag : Tag) (f : Frame) (x : TripKind) (s : State) :
    (offerFrame p tag f s).latched x = s.latched x := by rw [offerFrame_eq]; rfl
@[simp] theorem offerFrame_ownByte (p : Port) (tag : Tag) (f : Frame) (s : State) :
    (offerFrame p tag f s).ownByte = s.ownByte := by rw [offerFrame_eq]; rfl

theorem offerSample_eq (f : Frame) (s : State) :
    offerSample f s = { s with path := (offerSample f s).path } := by
  unfold offerSample; split
  · rfl
  · rw [offerFrame_eq]

theorem decimate_eq (f : Frame) (s : State) :
    decimate f s = { s with path := (decimate f s).path } := by
  unfold decimate; simp only; split
  · rfl
  · split
    · rfl
    · rw [offerSample_eq]; rfl

@[simp] theorem decimate_pending (f : Frame) (s : State) :
    (decimate f s).pending = s.pending := by rw [decimate_eq]
@[simp] theorem decimate_now (f : Frame) (s : State) :
    (decimate f s).now = s.now := by rw [decimate_eq]
@[simp] theorem decimate_draws (f : Frame) (s : State) :
    (decimate f s).draws = s.draws := by rw [decimate_eq]
@[simp] theorem decimate_line (f : Frame) (s : State) :
    (decimate f s).line = s.line := by rw [decimate_eq]
@[simp] theorem decimate_inputs (f : Frame) (s : State) :
    (decimate f s).inputs = s.inputs := by rw [decimate_eq]
@[simp] theorem decimate_inReset (f : Frame) (s : State) :
    (decimate f s).inReset = s.inReset := by rw [decimate_eq]
@[simp] theorem decimate_straps (f : Frame) (s : State) :
    (decimate f s).straps = s.straps := by rw [decimate_eq]
@[simp] theorem decimate_pickup (f : Frame) (s : State) :
    (decimate f s).pickup = s.pickup := by rw [decimate_eq]
@[simp] theorem decimate_drive (f : Frame) (s : State) :
    (decimate f s).drive = s.drive := by rw [decimate_eq]
@[simp] theorem decimate_selector (f : Frame) (s : State) :
    (decimate f s).selector = s.selector := by rw [decimate_eq]
@[simp] theorem decimate_survey (f : Frame) (s : State) :
    (decimate f s).survey = s.survey := by rw [decimate_eq]
@[simp] theorem decimate_steering (f : Frame) (s : State) :
    (decimate f s).steering = s.steering := by rw [decimate_eq]
@[simp] theorem decimate_slurry (f : Frame) (s : State) :
    (decimate f s).slurry = s.slurry := by rw [decimate_eq]
@[simp] theorem decimate_lanes (f : Frame) (s : State) :
    (decimate f s).lanes = s.lanes := by rw [decimate_eq]
@[simp] theorem decimate_orders (f : Frame) (s : State) :
    (decimate f s).orders = s.orders := by rw [decimate_eq]
@[simp] theorem decimate_settings (f : Frame) (s : State) :
    (decimate f s).settings = s.settings := by rw [decimate_eq]
@[simp] theorem decimate_loopOf (f : Frame) (h : Gear) (s : State) :
    (decimate f s).loopOf h = s.loopOf h := by rw [decimate_eq]; rfl
@[simp] theorem decimate_pickupOf (f : Frame) (h : Gear) (s : State) :
    (decimate f s).pickupOf h = s.pickupOf h := by rw [decimate_eq]; rfl
@[simp] theorem decimate_setting (f : Frame) (x : Setting) (s : State) :
    (decimate f s).setting x = s.setting x := by rw [decimate_eq]; rfl
@[simp] theorem decimate_classField (f : Frame) (x : ClassField) (s : State) :
    (decimate f s).classField x = s.classField x := by rw [decimate_eq]; rfl
@[simp] theorem decimate_latched (f : Frame) (x : TripKind) (s : State) :
    (decimate f s).latched x = s.latched x := by rw [decimate_eq]; rfl
@[simp] theorem decimate_ownByte (f : Frame) (s : State) :
    (decimate f s).ownByte = s.ownByte := by rw [decimate_eq]; rfl

/-! ## Transmission (R131, R145, R147) -/

theorem setLastSent_eq (chs : List Channel) (ws : List Word) (s : State) :
    setLastSent chs ws s = { s with lanes := (setLastSent chs ws s).lanes } := by
  induction chs generalizing ws s with
  | nil => rfl
  | cons c cs ih =>
    cases ws with
    | nil => rfl
    | cons w ws => rw [setLastSent, ih]; rfl

theorem noteStart_eq (p : Port) (e : Queued) (s : State) :
    noteStart p e s = { s with lanes := (noteStart p e s).lanes
                               path := (noteStart p e s).path } := by
  unfold noteStart; split
  · rfl
  · split
    · rw [setLastSent_eq]
    · rfl

/-- A start changes nothing unless the transmitter is idle and a frame is selected. -/
theorem startTransmission_cases (p : Port) (s : State) :
    (startTransmission p s = s ∧ (s.txOf p ≠ none ∨ s.selected p = none)) ∨
    ∃ e, s.txOf p = none ∧ s.selected p = some e ∧
      startTransmission p s = noteStart p e (s.onPath fun x =>
        { x with queue := x.queue.set p ((s.queueOf p).erase e)
                 tx := x.tx.set p (some ⟨e, s.now⟩) }) := by
  unfold startTransmission
  cases h1 : s.txOf p with
  | some t => exact .inl ⟨rfl, .inl (by simp)⟩
  | none =>
    cases h2 : s.selected p with
    | none => exact .inl ⟨rfl, .inr rfl⟩
    | some e => exact .inr ⟨e, rfl, rfl, rfl⟩

theorem startTransmission_eq (p : Port) (s : State) :
    startTransmission p s = { s with lanes := (startTransmission p s).lanes
                                     path := (startTransmission p s).path } := by
  rcases startTransmission_cases p s with ⟨h, -⟩ | ⟨e, -, -, h⟩
  · rw [h]
  · rw [h, noteStart_eq]; rfl

@[simp] theorem startTransmission_pending (p : Port) (s : State) :
    (startTransmission p s).pending = s.pending := by rw [startTransmission_eq]
@[simp] theorem startTransmission_now (p : Port) (s : State) :
    (startTransmission p s).now = s.now := by rw [startTransmission_eq]
@[simp] theorem startTransmission_draws (p : Port) (s : State) :
    (startTransmission p s).draws = s.draws := by rw [startTransmission_eq]
@[simp] theorem startTransmission_line (p : Port) (s : State) :
    (startTransmission p s).line = s.line := by rw [startTransmission_eq]
@[simp] theorem startTransmission_inputs (p : Port) (s : State) :
    (startTransmission p s).inputs = s.inputs := by rw [startTransmission_eq]
@[simp] theorem startTransmission_inReset (p : Port) (s : State) :
    (startTransmission p s).inReset = s.inReset := by rw [startTransmission_eq]
@[simp] theorem startTransmission_straps (p : Port) (s : State) :
    (startTransmission p s).straps = s.straps := by rw [startTransmission_eq]
@[simp] theorem startTransmission_pickup (p : Port) (s : State) :
    (startTransmission p s).pickup = s.pickup := by rw [startTransmission_eq]
@[simp] theorem startTransmission_drive (p : Port) (s : State) :
    (startTransmission p s).drive = s.drive := by rw [startTransmission_eq]
@[simp] theorem startTransmission_selector (p : Port) (s : State) :
    (startTransmission p s).selector = s.selector := by rw [startTransmission_eq]
@[simp] theorem startTransmission_survey (p : Port) (s : State) :
    (startTransmission p s).survey = s.survey := by rw [startTransmission_eq]
@[simp] theorem startTransmission_steering (p : Port) (s : State) :
    (startTransmission p s).steering = s.steering := by rw [startTransmission_eq]
@[simp] theorem startTransmission_slurry (p : Port) (s : State) :
    (startTransmission p s).slurry = s.slurry := by rw [startTransmission_eq]
@[simp] theorem startTransmission_orders (p : Port) (s : State) :
    (startTransmission p s).orders = s.orders := by rw [startTransmission_eq]
@[simp] theorem startTransmission_settings (p : Port) (s : State) :
    (startTransmission p s).settings = s.settings := by rw [startTransmission_eq]
@[simp] theorem startTransmission_loopOf (p : Port) (h : Gear) (s : State) :
    (startTransmission p s).loopOf h = s.loopOf h := by rw [startTransmission_eq]; rfl
@[simp] theorem startTransmission_pickupOf (p : Port) (h : Gear) (s : State) :
    (startTransmission p s).pickupOf h = s.pickupOf h := by rw [startTransmission_eq]; rfl
@[simp] theorem startTransmission_setting (p : Port) (x : Setting) (s : State) :
    (startTransmission p s).setting x = s.setting x := by rw [startTransmission_eq]; rfl
@[simp] theorem startTransmission_classField (p : Port) (x : ClassField) (s : State) :
    (startTransmission p s).classField x = s.classField x := by rw [startTransmission_eq]; rfl
@[simp] theorem startTransmission_latched (p : Port) (x : TripKind) (s : State) :
    (startTransmission p s).latched x = s.latched x := by rw [startTransmission_eq]; rfl
@[simp] theorem startTransmission_ownByte (p : Port) (s : State) :
    (startTransmission p s).ownByte = s.ownByte := by rw [startTransmission_eq]; rfl

theorem demandComplete_eq (l : Lane) (s : State) :
    demandComplete l s = { s with lanes := (demandComplete l s).lanes
                                  path := (demandComplete l s).path } := by
  unfold demandComplete; simp only; split
  · rw [composeDue_eq]; rfl
  · rfl

theorem finishTransmission_eq (p : Port) (t : Transmission) (s : State) :
    finishTransmission p t s = { s with line := s.line.set p (frameChars t.entry.frame)
                                        lanes := (finishTransmission p t s).lanes
                                        path := (finishTransmission p t s).path } := by
  unfold finishTransmission
  rw [startTransmission_eq]
  cases p with
  | shaft => rfl
  | lane l => simp only; split <;> [rw [demandComplete_eq]; skip] <;> rfl

/-- A completion that is not due does nothing; a due one puts the frame on the record of the line. -/
theorem completeTransmission_eq (p : Port) (s : State) :
    completeTransmission p s = { s with line := (completeTransmission p s).line
                                        lanes := (completeTransmission p s).lanes
                                        path := (completeTransmission p s).path } := by
  unfold completeTransmission; split
  · rfl
  · unfold expiry
    split
    · rw [finishTransmission_eq]
    · rfl

@[simp] theorem completeTransmission_pending (p : Port) (s : State) :
    (completeTransmission p s).pending = s.pending := by rw [completeTransmission_eq]
@[simp] theorem completeTransmission_now (p : Port) (s : State) :
    (completeTransmission p s).now = s.now := by rw [completeTransmission_eq]
@[simp] theorem completeTransmission_draws (p : Port) (s : State) :
    (completeTransmission p s).draws = s.draws := by rw [completeTransmission_eq]
@[simp] theorem completeTransmission_inReset (p : Port) (s : State) :
    (completeTransmission p s).inReset = s.inReset := by rw [completeTransmission_eq]
@[simp] theorem completeTransmission_straps (p : Port) (s : State) :
    (completeTransmission p s).straps = s.straps := by rw [completeTransmission_eq]
@[simp] theorem completeTransmission_pickup (p : Port) (s : State) :
    (completeTransmission p s).pickup = s.pickup := by rw [completeTransmission_eq]
@[simp] theorem completeTransmission_drive (p : Port) (s : State) :
    (completeTransmission p s).drive = s.drive := by rw [completeTransmission_eq]
@[simp] theorem completeTransmission_selector (p : Port) (s : State) :
    (completeTransmission p s).selector = s.selector := by rw [completeTransmission_eq]
@[simp] theorem completeTransmission_survey (p : Port) (s : State) :
    (completeTransmission p s).survey = s.survey := by rw [completeTransmission_eq]
@[simp] theorem completeTransmission_steering (p : Port) (s : State) :
    (completeTransmission p s).steering = s.steering := by rw [completeTransmission_eq]
@[simp] theorem completeTransmission_slurry (p : Port) (s : State) :
    (completeTransmission p s).slurry = s.slurry := by rw [completeTransmission_eq]
@[simp] theorem completeTransmission_orders (p : Port) (s : State) :
    (completeTransmission p s).orders = s.orders := by rw [completeTransmission_eq]
@[simp] theorem completeTransmission_settings (p : Port) (s : State) :
    (completeTransmission p s).settings = s.settings := by rw [completeTransmission_eq]
@[simp] theorem completeTransmission_loopOf (p : Port) (h : Gear) (s : State) :
    (completeTransmission p s).loopOf h = s.loopOf h := by rw [completeTransmission_eq]; rfl
@[simp] theorem completeTransmission_pickupOf (p : Port) (h : Gear) (s : State) :
    (completeTransmission p s).pickupOf h = s.pickupOf h := by rw [completeTransmission_eq]; rfl
@[simp] theorem completeTransmission_setting (p : Port) (x : Setting) (s : State) :
    (completeTransmission p s).setting x = s.setting x := by rw [completeTransmission_eq]; rfl
@[simp] theorem completeTransmission_classField (p : Port) (x : ClassField) (s : State) :
    (completeTransmission p s).classField x = s.classField x := by rw [completeTransmission_eq]; rfl
@[simp] theorem completeTransmission_latched (p : Port) (x : TripKind) (s : State) :
    (completeTransmission p s).latched x = s.latched x := by rw [completeTransmission_eq]; rfl
@[simp] theorem completeTransmission_ownByte (p : Port) (s : State) :
    (completeTransmission p s).ownByte = s.ownByte := by rw [completeTransmission_eq]; rfl

/-- The selected frame waits in the port's queue. -/
theorem selected_mem {s : State} {p : Port} {e : Queued} (h : s.selected p = some e) :
    e ∈ s.queueOf p := by
  have key : ∀ order q, selectBy order q = some e → e ∈ q := by
    intro order q h
    obtain ⟨test, -, h⟩ := List.exists_of_findSome?_eq_some h
    exact List.mem_of_find?_eq_some h
  cases p <;> exact key _ _ h

/-! ## A frame from a lane, and operator demands -/

theorem mergeItem_eq (ch : Channel) (w : Word) (s : State) :
    mergeItem ch w s = { s with lanes := (mergeItem ch w s).lanes
                                path := (mergeItem ch w s).path } := by
  unfold mergeItem; split
  · rw [setRequested_eq]; rfl
  · rfl

theorem mergeItems_eq (chs : List Channel) (ws : List Word) (s : State) :
    mergeItems chs ws s = { s with lanes := (mergeItems chs ws s).lanes
                                   path := (mergeItems chs ws s).path } := by
  induction chs generalizing ws s with
  | nil => rfl
  | cons c cs ih =>
    cases ws with
    | nil => rfl
    | cons w ws => rw [mergeItems, ih, mergeItem_eq]

theorem operatorDemand_eq (dest : Byte) (items : List Word) (s : State) :
    operatorDemand dest items s = { s with lanes := (operatorDemand dest items s).lanes
                                           path := (operatorDemand dest items s).path } := by
  unfold operatorDemand; split
  · rfl
  · split
    · rfl
    · rw [mergeItems_eq]

theorem regulatePlates_eq (s : State) :
    regulatePlates s = { s with lanes := (regulatePlates s).lanes
                                path := (regulatePlates s).path } := by
  obtain ⟨l1, q1, h1⟩ : ∃ l q, setRequested (.plate .p1) (s.openingFor .p1) s =
      { s with lanes := l, path := q } := ⟨_, _, setRequested_eq ..⟩
  obtain ⟨l2, q2, h2⟩ : ∃ l q, setRequested (.plate .p2) (s.openingFor .p2)
      { s with lanes := l1, path := q1 } = { s with lanes := l, path := q } :=
    ⟨_, _, setRequested_eq ..⟩
  obtain ⟨l3, q3, h3⟩ : ∃ l q, setRequested (.plate .p3) (s.openingFor .p3)
      { s with lanes := l2, path := q2 } = { s with lanes := l, path := q } :=
    ⟨_, _, setRequested_eq ..⟩
  obtain ⟨l4, q4, h4⟩ : ∃ l q, setRequested (.plate .p4) (s.openingFor .p4)
      { s with lanes := l3, path := q3 } = { s with lanes := l, path := q } :=
    ⟨_, _, setRequested_eq ..⟩
  simp only [regulatePlates, allPlates, List.foldl, h1, h2, h3, h4]

theorem regulatePlates_kept (s : State) : LanesKept s (regulatePlates s) :=
  (((setRequested_kept ..).trans (setRequested_kept ..)).trans (setRequested_kept ..)).trans
    (setRequested_kept ..)

/-- Each plate is asked for the opening of the state as it stood before the first was written. -/
theorem regulatePlates_requested (s : State) (p : Plate) :
    ((regulatePlates s).demand (.plate p)).requested = s.openingFor p := by
  simp only [regulatePlates, allPlates, List.foldl, setRequested_requested]
  cases p <;> simp

/-! ## The survey (R68, R72, R78) -/

theorem recordNext_frontier (m : Means) (first : Bool) (v : Survey) :
    (recordNext m first v).frontier = v.frontier + v.spacing.step := by
  unfold recordNext applyPending
  simp only
  split
  · split <;> rfl
  · rfl

/-- The step of a spacing is 1, 2 or 4. -/
theorem Spacing.step_pos (x : Spacing) : 1 ≤ x.step ∧ x.step ≤ 4 := by cases x <;> decide

/-- The passes of a recording test never move the frontier back, nor past 1023. -/
theorem recordPasses_frontier (m : Means) (fuel : Nat) (first : Bool) (v : Survey)
    (h : v.frontier ≤ 1023) :
    v.frontier ≤ (recordPasses m fuel first v).frontier ∧
      (recordPasses m fuel first v).frontier ≤ 1023 := by
  induction fuel generalizing first v with
  | zero => exact ⟨le_refl _, h⟩
  | succ n ih =>
    unfold recordPasses
    split
    · exact ⟨le_refl _, h⟩
    · split
      · exact ⟨le_refl _, h⟩
      · rename_i hx
        have hf := recordNext_frontier m first v
        have hle : v.frontier + v.spacing.step ≤ 1023 := by
          simpa [Survey.exhausted] using hx
        simp only
        split
        · exact ⟨by simp [hf], by simpa [hf] using hle⟩
        · have := ih false (recordNext m first v) (by omega)
          omega

/-- A record is found again at its own index, and no other index changes (R78). -/
theorem stationAt_recordStation (st : Station) (t : List Station) (j : Nat) :
    stationAt (recordStation st t) j = if j = st.index then some st else stationAt t j := by
  induction t with
  | nil =>
    simp only [recordStation, stationAt, List.find?]
    by_cases h : st.index = j
    · simp [h]
    · have h2 : (st.index == j) = false := by simp [h]
      simp [h2, Ne.symm h]
  | cons x rest ih =>
    unfold recordStation
    split
    · simp only [stationAt, List.find?]
      by_cases h : st.index = j
      · simp [h]
      · have h2 : (st.index == j) = false := by simp [h]
        simp [h2, Ne.symm h]
    · split
      · rename_i h1 h2
        simp only [stationAt, List.find?]
        by_cases h : st.index = j
        · simp [h]
        · have h3 : (st.index == j) = false := by simp [h]
          have h4 : (x.index == j) = false := by simp [← h2, h]
          simp [h3, h4, Ne.symm h]
      · rename_i h1 h2
        have ih' : (recordStation st rest).find? (fun y => y.index == j) =
            if j = st.index then some st else rest.find? fun y => y.index == j := ih
        simp only [stationAt, List.find?, ih']
        by_cases h : x.index = j
        · have : j ≠ st.index := by omega
          simp [h, this]
        · have h3 : (x.index == j) = false := by simp [h]
          simp [h3]

/-! ## The pickups -/

/-- A pin change touches its own pickup alone. -/
theorem execPickupRawChange_eq (dt : Nat) (g : Gear) (k : Track) (level : Bool) (s : State) :
    ∃ p, execPickupRawChange dt g k level s = .next ((s.elapse dt).onPickup g fun _ => p) := by
  unfold execPickupRawChange; simp only; split <;> exact ⟨_, rfl⟩

/-- An expiry that acts on one pickup touches it alone. -/
theorem execFilterTimerExpiry_eq (dt : Nat) (g : Gear) (k : Track) (s : State) :
    execFilterTimerExpiry dt g k s = .next (s.elapse dt) ∨
      ∃ p, execFilterTimerExpiry dt g k s = .next ((s.elapse dt).onPickup g fun _ => p) := by
  unfold execFilterTimerExpiry live expiry
  split
  · exact .inl rfl
  · simp only
    split
    · exact .inr ⟨_, rfl⟩
    · exact .inl rfl

theorem execZeroWindowExpiry_eq (dt : Nat) (g : Gear) (s : State) :
    execZeroWindowExpiry dt g s = .next (s.elapse dt) ∨
      ∃ p, execZeroWindowExpiry dt g s = .next ((s.elapse dt).onPickup g fun _ => p) := by
  unfold execZeroWindowExpiry live expiry
  split
  · exact .inl rfl
  · simp only
    split
    · exact .inr ⟨_, rfl⟩
    · exact .inl rfl

/-! ## The overpressure test (R31, R155) -/

/-- The clamp brings each integrator into ± the I_max of the class in effect (R57). -/
@[simp] theorem loopOf_clampIntegrators (s : State) (g : Gear) :
    (clampIntegrators s).loopOf g =
      { s.loopOf g with integ := clampMag (s.classField .iMax) (s.loopOf g).integ } := by
  cases g <;> simp [clampIntegrators]

/-- R57: after the clamp each integrator lies within ± the I_max of the class in effect. -/
theorem mag_clampIntegrators (s : State) (g : Gear) :
    mag ((clampIntegrators s).loopOf g).integ ≤ (clampIntegrators s).classField .iMax := by
  rw [loopOf_clampIntegrators]; exact mag_clampMag _ (Int.natCast_nonneg _)

/-- R57: the clamp leaves integrators within ± the I_max of the class in effect as they are. -/
theorem clampIntegrators_of_law {s : State}
    (h : ∀ g, mag (s.loopOf g).integ ≤ s.classField .iMax) (g : Gear) :
    (clampIntegrators s).loopOf g = s.loopOf g := by
  rw [loopOf_clampIntegrators, clampMag, clamp_of_mem] <;>
    (have := h g; unfold mag at this; split at this <;> omega)

/-- What the clamp of the integrators leaves as it is. -/
theorem clampIntegrators_eq (s : State) :
    clampIntegrators s =
      { s with drive := { s.drive with loop := (clampIntegrators s).drive.loop } } := rfl

/-- Both loops have counted the sample; nothing else has changed. -/
@[simp] theorem loopOf_countPressures (s : State) (g : Gear) :
    (countPressures s).loopOf g = { s.loopOf g with overCount := s.pressureCount g } := by
  cases g <;> simp [countPressures]

/-- What a DRIVE sample comes to: no request, one, or both in one of the two orders. -/
theorem overpressureTest_cases (s : State) :
    (s.willTrip .g1 = false ∧ s.willTrip .g2 = false ∧ overpressureTest s = countPressures s) ∨
    (∃ g, s.willTrip g = true ∧ s.willTrip g.partner = false ∧
      overpressureTest s = latch (.overpressure g) (countPressures s)) ∨
    (s.willTrip .g1 = true ∧ s.willTrip .g2 = true ∧ ∃ g, overpressureTest s =
      latch (.overpressure g) (latch (.overpressure g.partner)
        { countPressures s with draws := (countPressures s).draws + 1 })) := by
  unfold overpressureTest
  cases h1 : s.willTrip .g1 <;> cases h2 : s.willTrip .g2 <;> simp only
  · exact .inl ⟨trivial, trivial, trivial⟩
  · exact .inr (.inl ⟨.g2, h2, h1, rfl⟩)
  · exact .inr (.inl ⟨.g1, h1, h2, rfl⟩)
  · refine .inr (.inr ⟨trivial, trivial, ?_⟩)
    split
    · exact ⟨.g1, rfl⟩
    · exact ⟨.g2, rfl⟩

/-! ## Table writes (R165) -/

/-- What a word written to a table can change. -/
theorem putWord_eq (t : Table) (i : Nat) (w : Word) (s : State) :
    putWord t i w s = { s with
      path := (putWord t i w s).path, lanes := (putWord t i w s).lanes
      selector := (putWord t i w s).selector, settings := (putWord t i w s).settings
      slurry := { s.slurry with cut := (putWord t i w s).slurry.cut } } := by
  cases t <;> simp only [putWord] <;> try rfl
  · unfold putSetting; simp only; split <;> rfl

end Sys2Proof.Machine
end

