-- ==== Sys2Proof/Tests/Slice0.lean ====
section
/-! SUPPORT. The model's own tests. Expected results come from the worked cases and the tables of the
manual, named by chapter. Then, for each statement with hypotheses, a witness: states and operands that
meet them, clause by clause. -/

namespace Sys2Proof.Tests

open Sys2Proof Sys2Proof.Machine

set_option Elab.async false

/-! ## Helpers -/

/-- The state after a step that answers one. -/
def after (o : Host.Outcome State Fault Refusal) : Option State :=
  match o with
  | .next t => some t
  | .fault _ => none
  | .refused _ => none

/-- The state after a command, or the state itself. -/
def did (i : Instr) (s : State) : State := (after (exec i s)).getD s

/-- The tag and the items of the frame at the tail of a port's queue. -/
def tail (s : State) (p : Port) : Option (Tag × List Word) :=
  (s.queueOf p).getLast?.map fun e => (e.tag, e.frame.items)

/-- A frame as it arrives. -/
def whole (f : Frame) : Reception := ⟨frameChars f, false⟩

/-- A SAMPLE from the node of a lane. -/
def sample (l : Lane) (items : List Word) : Reception :=
  let src : Byte := match l with | .drive => 16 | .steer => 17 | .attitude => 18 | .slurry => 19
  whole (mkFrame 0 src kindSample items)

/-- The class of the drive loops' worked cases (chapter 2), in row 0. -/
def classCase : List Word :=
  [3000, 1200, 50, 384, 32, 400, 2800, 3400, 256, 3600, 3200, 100, 10, 800, 20, 40, 3, 600, 5,
    4200, 300]

/-- A lane in UP with a fresh source. -/
def lively (items : List (Option Int)) (b : LaneBox) : LaneBox :=
  { b with state := .up, fresh := true, items := items, silence := .running 200000 0
           freshTimer := .running 300000 0 }

/-- Every lane in UP and every source fresh, the order link LIVE; no trip, and the loops at rest. -/
def ready : State :=
  let s := State.reset
  let s := s.onSelector fun x => { x with classTable := classCase ++ x.classTable.drop 21 }
  let s := s.onLane .drive (lively [some 2950, some 2650])
  let s := s.onLane .steer (lively [some 95, some 150, some 110, some 40])
  let s := s.onLane .attitude (lively [some 160, some 30, some 160, some 30, some 120])
  let s := s.onLane .slurry (lively [some 3800, some 1210, some 200])
  s.onOrders fun x => { x with link := .live, timer := .running 1000000 0 }

/-- The survey of the worked cases of chapters 4 and 5: frontier 98 at FINE, SURVEYING. -/
def surveyed : State :=
  ready.onSurvey fun v => { v with
    state := .surveying, fusedX := 160, fusedY := 30, fusedR := 120, usable := true
    depth := 24800, received := true, fresh := true, timer := .running 500000 0
    frontier := 98, spacing := .fine, accX := 1305500, accY := 480000
    trajectory := [⟨96, .fine, false, false, 3, 1, 2, 3, 123, 40⟩,
      ⟨98, .fine, false, false, 4, 151, 40, 120, 131, 48⟩] }

/-- Both loops in RUN with S_base 2200 and a trim of 60, a cut factor of 900, and the measured speeds
1462 and 1874 (chapter 2, "One update of each loop in RUN"). -/
def cutting : State :=
  let s := surveyed.onSteering fun x => { x with state := .auto, trim := 60 }
  let s := s.onSlurry fun x => { x with state := .run, output := 475, integ := 475, cut := 900 }
  let s := { s with drive := { s.drive with base := 2200 } }
  let s := s.onLoop .g1 fun l => { l with state := .run, ramped := 1560, integ := 180 }
  let s := s.onLoop .g2 fun l => { l with state := .run, ramped := 1850, integ := 150 }
  let s := s.onPickup .g1 fun p => { p with history := [136799], ref := some 0 }
  s.onPickup .g2 fun p => { p with history := [106724], ref := some 0 }

/-! ## Syntax, decoding and frames -/

theorem test_wf_sample_row : (Instr.sampleArrival 0 .drive (whole (mkFrame 1 16 8 []))).wf = false := by
  decide
theorem test_wf_other_frame_row :
    (Instr.laneFrameArrival 0 .drive (sample .drive [1, 2])).wf = false := by decide
theorem test_wf_depth_length : (Instr.depth 0 (List.replicate 25 0)).wf = false := by decide
theorem test_wf_order_length : (Instr.keep 0 (List.replicate 24 0)).wf = false := by decide
theorem test_wf_mode_length : (Instr.modeGearbox 0 .g1 (List.replicate 23 0)).wf = false := by
  decide
theorem test_wf_target : (Instr.modeBadTarget 0 [4, 1]).wf = false := by decide
theorem test_wf_order_code : (Instr.orderBadCode 0 [13]).wf = false := by decide
theorem test_wf_table_code : (Instr.tableBadCode 0 [17, 0]).wf = false := by decide
theorem test_wf_demand_address : (Instr.operatorDemand 0 64 []).wf = false := by decide
theorem test_wf_node_check : (Instr.nodeDown 0 ⟨16, 1, 8, [], 0⟩).wf = false := by decide +kernel
theorem test_wf_refresh_lane : (Instr.refreshTimerExpiry 0 .attitude).wf = false := by decide
theorem test_wf_good : (Instr.nodeDown 0 (mkFrame 16 1 8 [7])).wf = true := by decide +kernel

/-- No row of the table has bits. -/
theorem test_no_word_is_a_command : decodeTableWord 16 3 = none := rfl

/-- R168: over the characters of the digits 1 to 9 the register ends at 29B1 h. -/
theorem test_check_of_digits :
    crc [0x31, 0x32, 0x33, 0x34, 0x35, 0x36, 0x37, 0x38, 0x39] = 0x29B1 := by decide +kernel

/-- R168, R169: a SPEED order to address 2, character by character; the check is that of its eight
characters. -/
theorem test_speed_frame_decodes :
    shaftCommand 2 defaultRoute 0
      ⟨[2, 1, 4, 2, 0, 4, 0x08, 0x98] ++ wordBytes (crc [2, 1, 4, 2, 0, 4, 0x08, 0x98]), false⟩ =
      .speed 0 [2200] := by decide +kernel

/-- R134: the same characters with one stop bit low are a bad frame. -/
theorem test_low_stop_bit_is_bad :
    goodFrame (received ⟨frameChars (mkFrame 2 1 4 [1]), true⟩) = none := by decide

/-- R134: DEST 63 is good and 64 is bad. -/
theorem test_address_bound :
    (goodFrame (received (whole (mkFrame 63 1 4 [1])))).isSome = true ∧
      goodFrame (received (whole (mkFrame 64 1 4 [1]))) = none := by decide +kernel

/-- R134: of a frame of 55 characters, 54 are stored and all are counted, which makes it bad. -/
theorem test_receive_area_is_capped :
    let a := received ⟨frameChars (mkFrame 2 1 4 (List.replicate 24 0)) ++ [0], false⟩
    a.stored.length = 54 ∧ a.received = 55 ∧ goodFrame a = none := by decide +kernel

/-- R172: the character 41 h on a line: start low, 1000 0010 least significant bit first, stop high. -/
theorem test_character_bits :
    charBits 0x41 = [false, true, false, false, false, false, false, true, false, true] := by decide

/-- The characters that a receiver at 8 ticks a bit has gathered of the frame so far, and the frames that
have ended. -/
def heard (levels : List Bool) : Reception × List Reception :=
  let x := LineInput.idle.hear 8 levels
  (x.receiver.got, x.arrived)

/-- R172: that character, whole and with its stop bit low; and a start bit of three ticks, which is less
than half a bit time. -/
theorem test_line_reception :
    (heard ([true, true] ++ ticksOf 8 (charBits 0x41))).1 = ⟨[0x41], false⟩ ∧
      (heard (ticksOf 8 ((charBits 0x41).set 9 false))).1 = ⟨[0x41], true⟩ ∧
      (heard (List.replicate 3 false ++ List.replicate 80 true)).1 = ⟨[], false⟩ ∧
      (heard (List.replicate 4 false ++ List.replicate 80 true)).1 = ⟨[0xFF], false⟩ := by
  decide +kernel

/-- R134, R172: two frames of a character each, 3 character times of idle line apart; one bit time less
and they are one. -/
theorem test_frame_end :
    (heard (ticksOf 8 (charBits 0x41 ++ List.replicate 30 true ++ charBits 0x42 ++
      List.replicate 30 true))).2 = [⟨[0x41], false⟩, ⟨[0x42], false⟩] ∧
    (heard (ticksOf 8 (charBits 0x41 ++ List.replicate 29 true ++ charBits 0x42 ++
      List.replicate 30 true))).2 = [⟨[0x41, 0x42], false⟩] := by decide +kernel

/-! ## Chapter 1 -/

/-- R6, R10, R13: the next rising edge 90 000 µs after the reference gives +1852 at 36 teeth. -/
def timing : State :=
  { (State.reset.onPickup .g1 fun p => { p with
      ref := some 1000, high := some 45000, bEdge := true
      a := { raw := true, accepted := false, filter := .running 40 90960 } }) with
    straps := ⟨0, 1, 0⟩, now := 91000 }

theorem test_capture_gives_speed :
    (did (.filterTimerExpiry 0 .g1 .a) timing).measuredSpeed .g1 = 1852 ∧
      ((did (.filterTimerExpiry 0 .g1 .a) timing).pickupOf .g1).history = [90000] := by decide

/-- Chapter 1, "Reversal": 150 000 µs with track B high empties the history and reads −1111. -/
theorem test_reversal_empties_history :
    (did (.filterTimerExpiry 0 .g1 .a)
      { (timing.onPickup .g1 fun p => { p with
          history := [80000, 80000], b := { p.b with accepted := true } }) with
        now := 151000 }).measuredSpeed .g1 = -1111 := by decide

/-- Chapter 1, halted wheel: at E = 200 000 µs the bound gives 833, and the window's expiry gives 0. -/
theorem test_halted_wheel :
    (timing.elapse 0).measuredSpeed .g1 = 0 ∧
    (State.measuredSpeed { (timing.onPickup .g1 fun p => { p with
      history := [83100, 83200], ref := some 0 }) with now := 200000 } .g1) = 833 ∧
    ((did (.zeroWindowExpiry 409000 .g1) (timing.onPickup .g1 fun p => { p with
      history := [83100], zeroWindow := .running 500000 0 })).pickupOf .g1).history = [] := by
  decide

/-- R16: a rising edge restarts the window, and the window's expiry at the same moment does not
happen. -/
theorem test_edge_before_expiry :
    let s := timing.onPickup .g1 fun p => { p with zeroWindow := .running 91000 0 }
    ((did (.zeroWindowExpiry 0 .g1) (did (.filterTimerExpiry 0 .g1 .a) s)).pickupOf .g1).history =
        [90000] ∧
      ((did (.zeroWindowExpiry 0 .g1) s).pickupOf .g1).ref = none := by decide

/-- R7: a departure starts the filter, a return stops it. -/
theorem test_raw_change_filter :
    ((did (.pickupRawChange 5 .g2 .b true) State.reset).pickupOf .g2).b =
        ⟨true, false, .running 40 5⟩ ∧
      ((did (.pickupRawChange 5 .g2 .b false)
        (did (.pickupRawChange 5 .g2 .b true) State.reset)).pickupOf .g2).b =
        ⟨false, false, .idle⟩ := by decide

/-! ## Chapters 2 and 3 -/

/-- Chapter 2, "One update of each loop in RUN": U = 595 and I = 186 at gearbox 1. -/
theorem test_drive_update_one :
    ((did (.driveUpdate 20000 .g1) cutting).demand (.valve .g1)).requested = 595 ∧
      ((did (.driveUpdate 20000 .g1) cutting).loopOf .g1).ramped = 1510 ∧
      ((did (.driveUpdate 20000 .g1) cutting).loopOf .g1).integ = 186 ∧
      ((did (.driveUpdate 20000 .g1) cutting).loopOf .g1).torque = 768 := by decide

/-- The same case at gearbox 2: U = 577 and I = 151. -/
theorem test_drive_update_two :
    ((did (.driveUpdate 20000 .g2) cutting).demand (.valve .g2)).requested = 577 ∧
      ((did (.driveUpdate 20000 .g2) cutting).loopOf .g2).ramped = 1881 ∧
      ((did (.driveUpdate 20000 .g2) cutting).loopOf .g2).integ = 151 := by decide

/-- Chapter 3, "Lookups on the default curves", and the falling segment. -/
theorem test_lookups :
    curveLookup defaultCurveTable 1 1510 = 337 ∧ curveLookup defaultCurveTable 2 1881 = 415 ∧
    curveLookup defaultCurveTable 1 4250 = 870 ∧ curveLookup defaultCurveTable 3 15 = 0 ∧
    curveLookup defaultCurveTable 3 130 = 310 ∧ curveLookup defaultCurveTable 5 160 = 76 ∧
    curveLookup defaultCurveTable 4 200 = 200 ∧
    curveLookup (((defaultCurveTable.set 64 800).set 65 600).set 66 1500 |>.set 67 595) 4 1150 =
      598 := by decide

/-- R23, R48: DRIVE_START from rest arms both loops; with the DRIVE lane in WAIT it is NO_LANE. -/
theorem test_drive_start :
    ((did (.driveStart 0 []) ready).loopOf .g2).state = .armed ∧
      tail (did (.driveStart 0 []) ready) .shaft = some (.reply, [2, 0]) ∧
      tail (did (.driveStart 0 []) State.reset) .shaft = some (.reply, [2, 5]) := by decide

/-- R25: DRIVE_STOP takes loops in RUN to STOPPING. -/
theorem test_drive_stop :
    ((did (.driveStop 0 []) cutting).loopOf .g1).state = .stopping ∧
      ((did (.driveStop 0 []) cutting).loopOf .g1).ramped = 1560 := by decide

/-- R26: SPEED clamps to ±4000. -/
theorem test_speed_clamps :
    (did (.speed 0 [0xB1E0]) State.reset).drive.base = -4000 ∧
      (did (.speed 0 [2200]) State.reset).drive.base = 2200 := by decide

/-- R56: CLASS clamps to 0 to 7. -/
theorem test_class_clamps :
    (did (.setClass 0 [9]) State.reset).selector.operatorClass = 7 ∧
      (did (.setClass 0 [0xFFFF]) State.reset).selector.operatorClass = 0 := by decide

/-- R30: MODE MANUAL of gearbox 1 hands its valve over; OFF is refused. -/
theorem test_mode_gearbox :
    ((did (.modeGearbox 0 .g1 [2]) ready).demand (.valve .g1)).owner = .operator ∧
      tail (did (.modeGearbox 0 .g1 [0]) ready) .shaft = some (.reply, [6, 2]) := by decide

/-! ## Chapter 4 -/

/-- Chapter 4, "Closing one interval": station 98 with mean X 151 and offset X 131. -/
def closing : State :=
  ready.onSurvey fun v => { v with
    state := .surveying, usable := true, depth := 24400, received := true, fresh := true
    frontier := 96, spacing := .fine, accX := 1230000, sumX := 602, count := 4
    trajectory := [⟨96, .fine, false, false, 3, 1, 2, 3, 123, 40⟩] }

theorem test_depth_records_station :
    (stationAt (did (.depth 0 [0, 24530]) closing).survey.trajectory 98).map
        (fun st => (st.meanX, st.offsetX, st.count, st.interpolated)) = some (151, 131, 4, false) ∧
      (did (.depth 0 [0, 24530]) closing).survey.accX = 1305500 := by decide

/-- Chapter 4, "A jump across a spacing change": stations 100 and 104, the second interpolated. -/
def jump : State :=
  surveyed.onSurvey fun v => { v with
    sumX := 318, sumY := 84, sumR := 250, count := 2, pending := some .normal }

theorem test_depth_jumps :
    (stationAt (did (.depth 0 [0, 26200]) jump).survey.trajectory 100).map
        (fun st => (st.spacing, st.count, st.offsetX, st.offsetY)) = some (.fine, 2, 139, 50) ∧
      (stationAt (did (.depth 0 [0, 26200]) jump).survey.trajectory 104).map
        (fun st => (st.spacing, st.interpolated, st.offsetX, st.offsetY)) =
        some (.normal, true, 154, 54) := by decide

/-- R67: the depth monitor's expiry pauses a survey. -/
theorem test_depth_expiry :
    (did (.depthFreshnessExpiry 500000) surveyed).survey.state = .paused := by decide

/-- Chapter 4, "Opening a panel": start index 48 at NORMAL. -/
theorem test_panel_begin :
    (did (.panelBegin 0 []) (surveyed.onSurvey fun v => { v with
      state := .idle, spacing := .normal, depth := 12380, fusedX := 88 })).survey.trajectory.map
      (fun st => (st.index, st.meanX, st.offsetX)) = [(48, 88, 0)] := by decide

theorem test_panel_end : (did (.panelEnd 0 []) surveyed).survey.state = .idle := by decide

/-- R76: NORMAL is pending at frontier 98, and EXTRA takes effect at once. -/
theorem test_spacing :
    (did (.setSpacing 0 [0]) surveyed).survey.pending = some .normal ∧
      (did (.setSpacing 0 [2]) surveyed).survey.spacing = .extra := by decide

/-! ## Chapter 5 -/

/-- Chapter 5, "One AUTO update". -/
theorem test_steering_update :
    (did (.steeringUpdate 100000) cutting).steering.projX = some 160 ∧
      (did (.steeringUpdate 100000) cutting).steering.projY = some 53 ∧
      (did (.steeringUpdate 100000) cutting).steering.targets = ⟨109, 213, 104, 0⟩ ∧
      (did (.steeringUpdate 100000) cutting).steering.trim = 76 := by decide

theorem test_plate_openings :
    (allPlates.map fun p => ((did (.steeringUpdate 100000) cutting).demand (.plate p)).requested) =
      [0, 126, 0, -80] := by decide

/-- R85, R89: MODE AUTO enters HOLD while the survey is IDLE, and MODE OFF needs no lane. -/
theorem test_mode_steering :
    (did (.modeSteering 0 [1]) ready).steering.state = .hold ∧
      (did (.modeSteering 0 [0]) cutting).steering.state = .off := by decide

/-! ## Chapter 6 -/

/-- Chapter 6, class 3 of the default table in effect. -/
def pumping : State :=
  let s := cutting.onSelector fun x => { x with
    operatorClass := 3, classInEffect := 3, classTable := defaultClassTable }
  (s.onLoop .g1 fun l => { l with torque := 768 }).onLoop .g2 fun l => { l with torque := 1024 }

/-- "Flow regulation after priming", update 1, and "Cut factor and feed limit". -/
theorem test_slurry_update :
    (did (.slurryUpdate 100000) (pumping.onLane .slurry fun b => { b with
      items := [some 3600, some 1210, some 200] })).slurry.output = 644 ∧
    (did (.slurryUpdate 100000) (pumping.onLane .slurry fun b => { b with
      items := [some 3600, some 1210, some 200] })).slurry.integ = 494 ∧
    (did (.slurryUpdate 100000) pumping).slurry.cut = 717 ∧
    (did (.slurryUpdate 100000) pumping).slurry.feed = 158 := by decide

/-- "Suction back-off", update 1. -/
theorem test_back_off :
    (did (.slurryUpdate 100000) ((pumping.onSlurry fun x => { x with output := 620, integ := 620 }).onLane
      .slurry fun b => { b with items := [some 3600, some 1210, some 140] })).slurry.output = 600 := by
  decide

/-- "Agitation and return to cutting": the hold delay's expiry enters REST at 150. -/
def standing : State :=
  ready.onSlurry fun x => { x with
    state := .run, output := 475, integ := 475, holdDelay := .running 120000000 0 }

theorem test_hold_delay_expiry :
    (did (.holdDelayExpiry 120000000) standing).slurry.state = .agitate ∧
      (did (.holdDelayExpiry 120000000) standing).slurry.output = 150 := by decide

theorem test_phase_timer_expiry :
    let s := did (.phaseTimerExpiry 100000000) (did (.holdDelayExpiry 120000000) standing)
    s.slurry.phase = .burst ∧ s.slurry.output = 600 := by
  decide

theorem test_pump_start :
    (did (.pumpStart 0 []) ready).slurry.state = .priming ∧
      (did (.pumpStart 0 []) ready).slurry.output = 300 := by decide

theorem test_pump_stop :
    (did (.pumpStop 0 []) standing).slurry.state = .stopped ∧
      tail (did (.pumpStop 0 []) cutting) .shaft = some (.reply, [8, 3]) := by decide

theorem test_mode_pump :
    (did (.modePump 0 [2]) standing).slurry.state = .manual ∧
      tail (did (.modePump 0 [0]) standing) .shaft = some (.reply, [6, 2]) := by decide

/-! ## Chapter 7 -/

/-- Chapter 9, "Two trips and their reset": the fifth sample at or above P_trip. -/
def ledge : State :=
  (pumping.onLoop .g1 fun l => { l with overCount := 4 }).onSurvey fun v => { v with depth := 24800 }

theorem test_fifth_overpressure :
    (did (.sampleArrival 0 .drive (sample .drive [3720, 2810])) ledge).orders.trips =
        [.overpressure .g1] ∧
      ((did (.sampleArrival 0 .drive (sample .drive [3720, 2810])) ledge).loopOf .g2).state =
        .stopping := by decide +kernel

/-- R64: a usable ATTITUDE sample is fused, halves upward. -/
theorem test_attitude_fused :
    (did (.sampleArrival 0 .attitude (sample .attitude [150, 30, 151, 40, 7])) ready).survey.fusedX =
      151 := by decide +kernel

/-- "A DRIVE lane lost and regained": bad frame 8 faults the lane. -/
theorem test_eighth_bad_frame :
    ((did (.laneFrameArrival 0 .drive ⟨[1, 2], false⟩)
      (cutting.onLane .drive fun b => { b with badRun := 7 })).laneOf .drive).state = .fault ∧
    ((did (.laneFrameArrival 0 .drive ⟨[1, 2], false⟩) cutting).laneOf .drive).badRun = 1 := by
  decide

/-- R155: both counts reach five at one sample, with the second loop in ARMED; in either order of the
latches both kinds end latched. -/
theorem test_both_overpressures_latch :
    let s := (ledge.onLoop .g2 fun l => { l with state := .armed, overCount := 4 }).onLane .drive
      fun b => { b with items := [some 3720, some 3720] }
    s.willTrip .g1 = true ∧ s.willTrip .g2 = true ∧
      (latch (.overpressure .g1) (latch (.overpressure .g2) (countPressures s))).orders.trips =
        [.overpressure .g1, .overpressure .g2] ∧
      (latch (.overpressure .g2) (latch (.overpressure .g1) (countPressures s))).orders.trips =
        [.overpressure .g1, .overpressure .g2] := by decide +kernel

theorem test_silence_expiry :
    (did (.silenceTimerExpiry 200000 .drive) cutting).orders.trips = [.laneTrip .drive] ∧
      ((did (.silenceTimerExpiry 200000 .drive) cutting).loopOf .g1).state = .tripped := by decide

theorem test_freshness_expiry :
    ((did (.freshnessExpiry 300000 .attitude) surveyed).laneOf .attitude).fresh = false ∧
      (did (.freshnessExpiry 300000 .attitude) surveyed).survey.state = .paused := by decide

/-- R126, R127: an operator's pump demand is taken in MANUAL, and the deadman expiry sets 0. -/
def manual : State := did (.modePump 0 [2]) standing

theorem test_operator_demand :
    ((did (.operatorDemand 0 19 [700]) manual).demand .pump).requested = 700 ∧
      ((did (.operatorDemand 0 19 [700]) standing).demand .pump).requested = 0 := by decide

theorem test_deadman_expiry :
    ((did (.deadmanExpiry 500000 .pump) (did (.operatorDemand 0 19 [700]) manual)).demand
      .pump).requested = 0 := by decide

/-- "A slewed pump demand": 300 toward 600 by 50 gives 350. -/
def slewing : State :=
  ((ready.onLanes fun b => { b with envelope := (b.envelope.set 19 800).set 20 50 }).onDemand .pump
    fun d => { d with requested := 600, lastSent := 300 }).onLane .slurry fun b =>
      { b with refresh := .running 100000 0 }

theorem test_refresh_composes :
    tail (did (.refreshTimerExpiry 100000 .slurry) slewing) (.lane .slurry) =
      some (.demand, [350]) := by decide

/-! ## Chapter 8 -/

/-- The SLURRY DEMAND of `slewing`, of eight characters, in transmission from 100 000 µs on. -/
def sending : State :=
  did (.transmissionStart 0 (.lane .slurry)) (did (.refreshTimerExpiry 100000 .slurry) slewing)

theorem test_transmission_start :
    (sending.demand .pump).lastSent = 350 ∧ sending.queueOf (.lane .slurry) = [] := by decide +kernel

/-- R172: DEST 19 is 13 h: a low start bit and the bits 1, 1, 0, 0, 1, 0, 0, 0, at 8 ticks each. -/
theorem test_transmit_pin :
    ([0, 8, 16, 24, 32, 40, 48].map (sending.txPin (.lane .slurry))) =
        [false, true, true, false, false, true, false] ∧
      ((sending.elapse 2).txPin (.lane .slurry) 8) = true := by decide +kernel

/-- R145: eight characters and a gap of three take 55 µs on a lane. -/
theorem test_transmission_complete :
    (did (.transmissionComplete 55 (.lane .slurry)) sending).path.free.length = 40 ∧
      did (.transmissionComplete 54 (.lane .slurry)) sending = sending.elapse 54 := by decide +kernel

/-- R171: RSTN low after 14 µs: two characters are whole, 13 h and the own address. -/
theorem test_abort_at_last_whole_character :
    (did (.rstnLow 14 (.rstn 10)) sending).line.get (.lane .slurry) = [19, 2] ∧
      (did (.rstnLow 14 (.rstn 10)) sending).txPin (.lane .slurry) 8 = true := by decide +kernel

/-- "Samples and replies on a busy shaft link", the fourth and fifth selections: with three own frames
gone, the oldest forwarded frame is next. -/
def busyLink : State :=
  ready.onPath fun x => { x with
    arbiter := 3, free := x.free.drop 2
    queue := x.queue.set .shaft
      [⟨0, .sample, mkFrame 1 18 1 [1, 2, 3, 4, 5]⟩, ⟨1, .reply, mkFrame 1 2 6 [1, 0]⟩] }

theorem test_arbiter_turn :
    (busyLink.selected .shaft).map Queued.buffer = some 0 ∧
      (did (.transmissionStart 0 .shaft) busyLink).path.arbiter = 0 := by decide

/-- "The reserve under heavy forwarding": with 10 buffers free a NODE frame is discarded, with 11 it
is taken. -/
theorem test_reserve :
    (did (.nodeDown 0 (mkFrame 17 1 8 [7]))
        (ready.onPath fun x => { x with free := x.free.drop 29 })).path.free.length = 10 ∧
      (did (.nodeDown 0 (mkFrame 17 1 8 [7]))
        (ready.onPath fun x => { x with free := x.free.drop 30 })).path.free.length = 10 := by decide

/-- R136, R140: an address whose entry has the node-pass flag 0 lets no NODE frame through. -/
theorem test_discarded_frame :
    did (.shaftFrameDiscard 0 ⟨[1], false⟩) ready = ready := by decide +kernel

/-- R139: with n = 5 on address 16 the fifth DRIVE sample passes. -/
theorem test_decimation :
    (did (.sampleArrival 0 .drive (sample .drive [100, 100])) ready).queueOf .shaft = [] ∧
      tail (did (.sampleArrival 0 .drive (sample .drive [100, 100]))
        (ready.onPath fun x => { x with decimation := x.decimation.set 16 4 })) .shaft =
        some (.sample, [100, 100]) := by decide +kernel

/-! ## Chapter 9 -/

theorem test_keep_makes_live :
    (did (.keep 0 []) State.reset).orders.link = .live ∧
      (did (.keep 0 []) State.reset).queueOf .shaft = [] := by decide

/-- "An order against an expiry": from WARN the expiry goes to LOST and an order to LIVE. -/
def warned : State :=
  (cutting.onOrders fun x => { x with link := .warn, timer := .running 1000000 0 }).onLoop .g1
    fun l => { l with state := .held }

theorem test_order_timer_expiry :
    (did (.orderTimerExpiry 1000000) warned).orders.trips = [.orderLost] ∧
      ((did (.orderTimerExpiry 1000000) warned).loopOf .g1).state = .stopping := by decide

theorem test_order_releases_held :
    ((did (.speed 0 [5]) warned).loopOf .g1).state = .run ∧
      tail (did (.speed 0 [5]) warned) .shaft = some (.reply, [4, 0]) := by decide

/-- Chapter 10, "Decoding two REPORT items". -/
def reported : State :=
  (pumping.onSelector fun x => { x with classInEffect := 3 }).onOrders fun x => { x with
    trips := [.overpressure .g1, .laneTrip .slurry] }

theorem test_report_packing :
    (tail (did (.reportTimerExpiry 250000) reported) .shaft).map
      (fun e => (e.1, e.2[0]?, e.2[1]?, e.2[22]?, e.2[23]?)) =
      some (.periodic, some 4642, some 13653, some 1026, some 2) := by decide

/-- "Two trips and their reset": HIGHEST resets OVERPRESSURE_1, and LANE_SLURRY has a cause with its
lane in FAULT. -/
def tripped : State :=
  ((did (.sampleArrival 0 .drive (sample .drive [3720, 2810])) ledge).onLane .slurry fun b =>
    { b with state := .fault }).onOrders fun x => { x with
      trips := [.overpressure .g1, .laneTrip .slurry] }

theorem test_trip_reset :
    (did (.tripReset 0 [0]) (tripped.onLane .drive fun b => { b with
      items := [some 2650, some 2810] })).orders.trips = [.laneTrip .slurry] ∧
    tail (did (.tripReset 0 [11]) tripped) .shaft = some (.reply, [12, 7]) := by decide +kernel

theorem test_bad_orders :
    tail (did (.orderBadCode 0 [14]) ready) .shaft = some (.reply, [14, 1]) ∧
      tail (did (.orderBadCode 0 []) ready) .shaft = some (.reply, [0, 1]) ∧
      tail (did (.modeBadTarget 0 [5, 1]) ready) .shaft = some (.reply, [6, 2]) := by decide

/-- R162: RESTART is BUSY while a loop runs, and empties the trip set otherwise. -/
theorem test_restart :
    tail (did (.restart 0 []) cutting) .shaft = some (.reply, [13, 3]) ∧
      (did (.restart 0 []) (ready.onOrders fun x => { x with trips := [.suction] })).orders.trips =
        [] := by decide

/-! ## Chapters 10 and 11 -/

/-- "A write refused at its first word", and then word 17 alone. -/
theorem test_table_write :
    tail (did (.tableWrite 0 [5, 15, 3, 950, 25, 1000]) ready) .shaft =
        some (.reply, [17, 11, 5, 15, 0]) ∧
      tail (did (.tableWrite 0 [5, 17, 1, 1000]) ready) .shaft = some (.reply, [17, 0, 5, 17, 1]) := by
  decide

/-- R167: the part's type and revision, and a station's eight words. -/
theorem test_table_read :
    tail (did (.tableRead 0 [7, 0, 2]) ready) .shaft =
        some (.reply, [16, 0, 7, 0, 2, 7314, 1]) ∧
      tail (did (.tableRead 0 [6, 784, 8]) surveyed) .shaft =
        some (.reply, [16, 0, 6, 784, 8, 3, 4, 151, 40, 120, 131, 48, 0]) := by decide

theorem test_table_bad_code :
    tail (did (.tableBadCode 0 [18, 5, 6]) ready) .shaft = some (.reply, [18, 1, 5, 6, 0]) := by
  decide

theorem test_power_on :
    (did (.powerOnReset 0 ⟨7, 3, 1⟩) cutting).ownAddress = 9 ∧
      (did (.powerOnReset 0 ⟨7, 3, 1⟩) cutting).toothCount = 60 ∧
      (did (.powerOnReset 0 ⟨7, 3, 1⟩) cutting).slurry.cut = 1024 := by decide

theorem test_rstn_low :
    (did (.rstnLow 0 (.rstn 10)) cutting).inReset = true ∧
      (did (.rstnLow 0 (.rstn 10)) cutting).dueEvents = [] := by decide

/-- The event that is due is taken when no command waits, and the order does not wait for it. -/
theorem test_step_on_empty_queue :
    (after (step { surveyed with now := 0 })).map State.now = some 1 ∧
      (after (step { surveyed with pending := [.keep 7 []] })).map State.now = some 7 := by decide

/-- A NODE frame without items from the DRIVE node, as the levels of its lane at 2 Mb/s. -/
def nodeLevels : LineInput := ⟨ticksOf 8 (frameBits (mkFrame 1 16 8 [])), .idle, []⟩

def nodeOnLine : State :=
  { ready with inputs := ready.inputs.set (.lane .drive) nodeLevels }

/-- R134, R172: six characters of 5 µs and 15 µs of idle line: the frame arrives at 45 µs and not before,
and the step after that takes it to the upper queue. -/
theorem test_frame_from_line :
    (nodeOnLine.elapse 44).dueEvents = [] ∧
      (nodeOnLine.elapse 45).dueEvents = [.laneFrameArrival 0 .drive (whole (mkFrame 1 16 8 []))] ∧
      (after (step (nodeOnLine.elapse 45))).map (fun s =>
        (tail s .shaft, (s.inputs.get (.lane .drive)).arrived)) = some (some (.node, []), []) := by
  decide +kernel

/-! ## Witnesses: the machine, the frames and the laws

For each statement with hypotheses, in the order of the statements, a state and operands that meet
them: where a statement has several clauses, one for each clause, at an end of its range. -/

/-- Four SPEED orders of which the first REPLY is in transmission and three wait, a NODE frame for the
DRIVE node, and a DEMAND in transmission on the SLURRY lane. -/
def laden : State :=
  let s := did (.transmissionStart 0 .shaft) (did (.speed 0 [2200]) cutting)
  let s := did (.speed 0 [2200]) (did (.speed 0 [2200]) (did (.speed 0 [2200]) s))
  let s := did (.nodeDown 0 (mkFrame 16 1 8 [7])) s
  let s := s.onLane .slurry fun b => { b with refresh := .running 100000 0 }
  { did (.transmissionStart 0 (.lane .slurry)) (did (.refreshTimerExpiry 100000 .slurry) s) with
    pending := [.keep 7 []] }

/-- A step that `after` finds answers a next state. -/
theorem answers {s : State} (h : (after (step s)).isSome = true) : ∃ t, step s = .next t := by
  unfold after at h
  split at h
  · next t heq => exact ⟨t, heq⟩
  · simp at h
  · simp at h

theorem laden_steps : ∃ t, step laden = .next t := answers (by decide +kernel)

/-- A KEEP order has ended on the shaft link. -/
def heardOrder : State :=
  let heard : LineInput := ⟨[], .idle, [whole (mkFrame 2 1 4 [1])]⟩
  { cutting with inputs := cutting.inputs.set .shaft heard }

theorem witness_step_takes_front_command :
    laden.pending = .keep 7 [] :: [] ∧
    (let s := { (cutting.onPickup .g1 fun p => { p with zeroWindow := .running 5 0 }) with now := 5 }
     s.pending = [] ∧ s.dueEvents = [.zeroWindowExpiry 0 .g1]) ∧
    cutting.pending = [] ∧ cutting.dueEvents = [] ∧
    (∀ p ∈ allPorts, cutting.arrivalOn p ≠ some (.keep 0 [])) ∧
    (nodeOnLine.elapse 45).arrivalOn (.lane .drive) =
      some (.laneFrameArrival 0 .drive (whole (mkFrame 1 16 8 []))) ∧
    ((nodeOnLine.elapse 45).inputs.get (.lane .drive)).arrived =
      ⟨frameChars (mkFrame 1 16 8 []), false⟩ :: [] ∧
    (heardOrder.inputs.get .shaft).arrived = ⟨frameChars (mkFrame 2 1 4 [1]), false⟩ :: [] ∧
    heardOrder.arrivalOn .shaft = some (.keep 0 []) ∧
    (cutting.inputs.get .shaft).arrived = [] := by decide +kernel

theorem witness_reset_holds_the_part :
    (enterReset laden).inReset = true ∧ (∀ dt straps, Instr.keep 3 [] ≠ .powerOnReset dt straps) ∧
      ∀ dt g k level, Instr.keep 3 [] ≠ .pickupRawChange dt g k level :=
  ⟨by decide +kernel, nofun, nofun⟩

/-- A receive area with room for one more character, and a full one; the shortest bit time; a start bit
one tick short of half a bit time; and a line on which a frame comes. -/
theorem witness_good_frame_iff_characters :
    (received ⟨List.replicate 53 0, false⟩).stored.length = 53 ∧
      (received ⟨List.replicate 55 0, false⟩).stored.length ≤ 54 ∧
      (0 < 1 ∧ LineInput.idle.receiver = .idle) ∧
      (0 < 3 ∧ 3 < 8 / 2 ∧ LineInput.idle.receiver.char = none ∧
        LineInput.idle.receiver.low = false) ∧
      nodeOnLine.inReset = false ∧
      nodeOnLine.inputs.get (.lane .drive) = ⟨ticksOf (nodeOnLine.bitTicks (.lane .drive))
        (frameBits (mkFrame 1 16 8 [])), .idle, []⟩ ∧
      (9 + 2 * 0) * nodeOnLine.charMicros (.lane .drive) = 45 := by decide +kernel

/-- At the first and at the last own address, a command of each kind of frame. -/
theorem witness_shaft_frame_round_trip :
    (2 ≤ 2 ∧ (Instr.speed 5 [2200]).wf = true ∧ reachesItsNode 2 defaultRoute (.speed 5 [2200]) ∧
      (commandFrame 2 (.speed 5 [2200])).isSome = true) ∧
    (9 ≤ 9 ∧ (Instr.tableRead 0 [7, 0, 2]).wf = true ∧
      reachesItsNode 9 defaultRoute (.tableRead 0 [7, 0, 2]) ∧
      (commandFrame 9 (.tableRead 0 [7, 0, 2])).isSome = true) ∧
    ((Instr.operatorDemand 0 19 [700]).wf = true ∧
      reachesItsNode 2 defaultRoute (.operatorDemand 0 19 [700]) ∧
      (commandFrame 2 (.operatorDemand 0 19 [700])).isSome = true) ∧
    ((Instr.nodeDown 0 (mkFrame 16 1 8 [7])).wf = true ∧
      reachesItsNode 2 defaultRoute (.nodeDown 0 (mkFrame 16 1 8 [7])) ∧
      (commandFrame 2 (.nodeDown 0 (mkFrame 16 1 8 [7]))).isSome = true) := by
  unfold reachesItsNode
  decide +kernel

theorem witness_step_keeps_pool_law :
    (laden.poolLaw ∧ laden.forwardedLaw) ∧ ∃ t, step laden = .next t :=
  ⟨by unfold State.poolLaw State.forwardedLaw; decide +kernel, laden_steps⟩

theorem laden_own_frames : laden.ownFrameLaw := by
  refine ⟨fun l => ?_, fun p => ?_, fun p t h => ?_, fun p => ?_⟩
  · cases l <;> decide +kernel
  · rcases p with _ | l
    · decide +kernel
    · cases l <;> decide +kernel
  · have hall : ∀ q ∈ allPorts, ∀ x ∈ laden.txOf q, tagOf q x.entry.tag = true := by decide +kernel
    exact hall p (by rcases p with _ | l <;> [skip; cases l] <;> decide) t (by simp [h])
  · rcases p with _ | l
    · decide +kernel
    · cases l <;> decide +kernel

theorem laden_upper_queue : laden.upperQueueLaw := by
  unfold State.upperQueueLaw
  decide +kernel

theorem witness_step_keeps_queue_laws :
    laden.upperQueueLaw ∧ laden.ownFrameLaw ∧ ∃ t, step laden = .next t :=
  ⟨laden_upper_queue, laden_own_frames, laden_steps⟩

theorem witness_own_frame_finds_buffer :
    (laden.poolLaw ∧ laden.forwardedLaw ∧ laden.upperQueueLaw ∧ laden.ownFrameLaw) ∧
    (laneChannels .drive ≠ [] ∧
      laden.waitingCount (.lane .drive) .demand + laden.demandsSending .drive = 0) ∧
    laden.waitingCount .shaft .reply = 3 ∧ laden.waitingCount .shaft .periodic = 0 ∧
    laden.waitingCount .shaft .urgent = 0 :=
  ⟨⟨witness_step_keeps_pool_law.1.1, witness_step_keeps_pool_law.1.2, laden_upper_queue,
    laden_own_frames⟩, by decide +kernel⟩

/-- A state that has latched ORDER_LOST with a jam before it, next a TRIP_RESET. -/
def lostJam : State :=
  { did (.orderTimerExpiry 1000000) (latch (.jam .g1) warned) with pending := [.tripReset 0 [1]] }

theorem witness_step_keeps_trip_laws :
    (lostJam.recordLaw ∧ lostJam.tripOrderLaw ∧ lostJam.orderLostLaw ∧
      lostJam.orders.trips = [.orderLost, .jam .g1] ∧ lostJam.orders.link = .lost) ∧
      ∃ t, step lostJam = .next t :=
  ⟨by unfold State.recordLaw State.tripOrderLaw State.orderLostLaw; decide +kernel, answers (by decide +kernel)⟩

theorem witness_step_keeps_cutting_laws :
    (laden.runningLaw ∧ laden.heldLaw ∧ laden.orderLostLaw ∧ laden.feedLaw ∧
      (laden.loopOf .g1).state = .run ∧ (laden.loopOf .g2).state = .run) ∧
      ∃ t, step laden = .next t := by
  refine ⟨⟨fun g => ?_, ⟨fun g => ?_, fun g => ?_, ?_⟩, ?_, ?_, ?_⟩, laden_steps⟩
  · cases g <;> decide +kernel
  · cases g <;> decide +kernel
  · cases g <;> decide +kernel
  · decide +kernel
  · unfold State.orderLostLaw; decide +kernel
  · unfold State.feedLaw; decide +kernel
  · decide +kernel

/-- The command that `laden` takes next is a KEEP. -/
theorem laden_next : laden.nextCommand = some (.keep 7 []) := rfl

theorem witness_step_keeps_block_laws :
    (laden.integratorLaw ∧ (∀ dt args, laden.nextCommand ≠ some (.tableWrite dt args)) ∧
      (∀ g, mag (laden.loopOf g).integ ≤ laden.classField .iMax) ∧ laden.restingLoopLaw ∧
      laden.ownerLaw ∧ laden.steeringLaw ∧ laden.slurryLaw) ∧ ∃ t, step laden = .next t := by
  refine ⟨⟨fun g => ?_, laden_next ▸ nofun, fun g => ?_, fun g => ?_,
    ⟨fun g => ?_, fun p => ?_, ?_⟩, ?_, ?_⟩, laden_steps⟩
  · cases g <;> decide +kernel
  · cases g <;> decide +kernel
  · cases g <;> decide +kernel
  · cases g <;> decide +kernel
  · cases p <;> decide +kernel
  · decide +kernel
  · unfold State.steeringLaw; decide +kernel
  · unfold State.slurryLaw; decide +kernel

theorem witness_step_keeps_measurement_laws :
    (laden.pickupLaw ∧ laden.trajectoryLaw ∧
      (∀ dt args, laden.nextCommand ≠ some (.panelBegin dt args)) ∧
      ∀ dt straps, laden.nextCommand ≠ some (.powerOnReset dt straps)) ∧
      ∃ t, step laden = .next t := by
  refine ⟨⟨fun g => ?_, ?_, laden_next ▸ nofun, laden_next ▸ nofun⟩, laden_steps⟩
  · cases g <;> decide +kernel
  · unfold State.trajectoryLaw; decide +kernel

theorem witness_step_keeps_table_laws :
    (laden.tableLaw ∧ laden.cutLaw) ∧ ∃ t, step laden = .next t := by
  refine ⟨⟨⟨⟨?_, ?_, ?_, ?_⟩, ?_, ?_, ?_, ?_, ?_, ?_⟩, ?_⟩, laden_steps⟩
  · decide +kernel
  · decide +kernel
  · decide +kernel
  · decide +kernel
  · unfold envelopeOk; decide +kernel
  · unfold classTableOk; decide +kernel
  · unfold bandTableOk; decide +kernel
  · unfold curveTableOk; decide +kernel
  · unfold State.settingsOk; decide +kernel
  · decide +kernel
  · unfold State.cutLaw; decide +kernel

/-! ## Witnesses: chapters 1 to 3 -/

/-- A quotient at a half, above and below 0. -/
theorem witness_rounding_is_halves_upward :
    (0 : Int) < 2 ∧ roundDiv 1 2 = 1 ∧ roundDiv (-1) 2 = 0 ∧ roundDiv (-3) 2 = -1 := by decide

/-- Raw changes on either side of the accepted level; each timer one µs before its end and at it. -/
theorem witness_pickup_inputs_and_timers :
    (let s := did (.pickupRawChange 0 .g1 .a true) cutting
     s.inReset = false ∧ true = ((s.pickupOf .g1).track .a).raw ∧
       false ≠ ((s.pickupOf .g1).track .a).raw ∧ false = ((s.pickupOf .g1).track .a).accepted) ∧
    (let s := { cutting with settings := cutting.settings.set 0 10 }
     true ≠ ((s.pickupOf .g1).track .a).raw ∧ true ≠ ((s.pickupOf .g1).track .a).accepted ∧
       s.setting .filterWidth ≠ 0) ∧
    (let s := { cutting with settings := cutting.settings.set 0 0 }
     true ≠ ((s.pickupOf .g1).track .b).raw ∧ true ≠ ((s.pickupOf .g1).track .b).accepted ∧
       s.setting .filterWidth = 0) ∧
    (let s := did (.pickupRawChange 0 .g1 .b true) cutting
     ((s.pickupOf .g1).track .b).filter.due (s.now + 39) = false ∧
       (s.pickupOf .g1).b.filter.due (s.now + 40) = true ∧
       (s.pickupOf .g1).b.raw ≠ (s.pickupOf .g1).b.accepted) ∧
    (let s := cutting.onPickup .g1 fun p =>
       { p with a := ⟨true, true, .running 40 0⟩, b := ⟨false, false, .running 40 0⟩ }
     (((s.pickupOf .g1).track .a).filter.due (s.now + 40) = true ∧
       ((s.pickupOf .g1).track .a).raw = ((s.pickupOf .g1).track .a).accepted) ∧
     ((s.pickupOf .g1).track .b).filter.due (s.now + 40) = true ∧
       ((s.pickupOf .g1).track .b).raw = ((s.pickupOf .g1).track .b).accepted) ∧
    (let s := did (.pickupRawChange 0 .g1 .a true) ready
     (s.pickupOf .g1).a.filter.due (s.now + 40) = true ∧ (s.pickupOf .g1).a.accepted = false ∧
       (s.pickupOf .g1).a.raw = true ∧ (s.pickupOf .g1).ref = none) ∧
    (let s := ready.onPickup .g1 fun p => { p with a := ⟨false, true, .running 40 0⟩ }
     (s.pickupOf .g1).a.filter.due (s.now + 40) = true ∧ (s.pickupOf .g1).a.accepted = true ∧
       (s.pickupOf .g1).a.raw = false ∧ (s.pickupOf .g1).ref = none) ∧
    (let s := did (.pickupRawChange 9 .g1 .a false) (did (.filterTimerExpiry 0 .g1 .a) timing)
     (s.pickupOf .g1).a.filter.due (s.now + 40) = true ∧ (s.pickupOf .g1).a.accepted = true ∧
       (s.pickupOf .g1).a.raw = false ∧ (s.pickupOf .g1).ref = some 91000) ∧
    (let s := did (.filterTimerExpiry 0 .g1 .a) timing
     s.now = 91000 ∧ (s.pickupOf .g1).zeroWindow.due (s.now + 499999) = false ∧
       (s.pickupOf .g1).zeroWindow.due (s.now + 500000) = true) := by decide +kernel

/-- The capture of chapter 1 with these runs and this high time; the period is 90 000 µs. -/
def edge (x : Health) (bad good high : Nat) : State :=
  timing.onPickup .g1 fun p => { p with health := x, badRun := bad, goodRun := good
                                        high := some high }

/-- Each of the six outcomes: the fourth and the third bad period in a row, a good one, and in FAULT
the sixteenth and the fifteenth good one and a bad one. A high time of 17 954 µs has a share of 199,
and one of 18 000 µs a share of 200. -/
theorem witness_rising_edge_captures_period :
    ([edge .ok 3 0 17954, edge .ok 2 0 17954, edge .ok 3 0 18000, edge .fault 0 15 18000,
        edge .fault 0 14 18000, edge .fault 0 15 17954].all fun s =>
      decide (s.inReset = false ∧ (s.pickupOf .g1).a.filter.due (s.now + 0) = true ∧
        (s.pickupOf .g1).a.accepted = false ∧ (s.pickupOf .g1).a.raw = true ∧
        (s.pickupOf .g1).ref = some 1000)) = true ∧
    roundDiv (1000 * (17954 : Nat)) (max 1 (min (91000 - 1000) 16777215) : Nat) < 200 ∧
    ¬ roundDiv (1000 * (18000 : Nat)) (max 1 (min (91000 - 1000) 16777215) : Nat) < 200 ∧
    (edge .ok 3 0 18000).pickup.one.bEdge = true := by decide +kernel

theorem witness_measured_speed_is_bounded :
    ((ready.pickupOf .g1).history = [] ∧ (ready.pickupOf .g1).ref = none) ∧
    (let s := timing.onPickup .g1 fun p => { p with history := [90000, 80000] }
     (s.pickupOf .g1).history = 90000 :: [80000] ∧ (s.pickupOf .g1).ref = some 1000 ∧
       2 = min (s.setting .averaging).toNat ([80000].length + 1) ∧
       170000 = (([90000, 80000] : List Nat).take 2).sum ∧
       90000 = min (s.now - 1000) 16777215 ∧
       ({ s with now := 91001 } : State).now - 1000 = 90000 + 1) := by decide +kernel

/-- Loop 1 of `cutting` in this state, with loop 2 in that one and the order link in this one. -/
def paired (one two : LoopState) (link : LinkState) : State :=
  ((cutting.onLoop .g1 fun l => { l with state := one }).onLoop .g2 fun l =>
    { l with state := two }).onOrders fun x => { x with link := link }

/-- The update one µs early and on time; STOPPED without and with a change of class; each way out of
ARMED; and the classes that the evaluation gives. -/
theorem witness_drive_update_at_rest :
    (ready.inReset = false ∧ (ready.loopOf .g1).timer.due (ready.now + 19999) = false ∧
      (ready.loopOf .g1).timer.due (ready.now + 20000) = true ∧
      (ready.loopOf .g1).state ∈ [LoopState.stopped, .manual, .tripped] ∧
      ready.evaluatedClass = ready.selector.classInEffect) ∧
    (let s := did (.setClass 0 [7]) (ready.onLoop .g2 fun l => { l with integ := 400 })
     (s.loopOf .g1).timer.due (s.now + 20000) = true ∧
       (s.loopOf .g1).state ∈ [LoopState.stopped, .manual, .tripped] ∧
       s.evaluatedClass ≠ s.selector.classInEffect ∧
       (500 : Int) = classWord s.selector.classTable s.evaluatedClass 5) ∧
    (let s := (paired .armed .armed .live).onSlurry fun x => { x with state := .agitate }
     (s.loopOf .g1).timer.due (s.now + 20000) = true ∧ (s.loopOf .g1).state = .armed ∧
       s.slurry.state ≠ .run ∧ s.slurry.state ≠ .manual) ∧
    (let s := paired .armed .unjam .live
     (s.loopOf .g1).state = .armed ∧ s.slurry.state = .run ∧
       (s.loopOf (Gear.g1).partner).state = .unjam) ∧
    (paired .armed .armed .warn).orders.link = .warn ∧
    (let s := paired .armed .armed .live
     (s.loopOf (Gear.g1).partner).state ≠ .unjam ∧ s.orders.link = .live) ∧
    (let s := paired .armed .armed .lost
     (s.loopOf (Gear.g1).partner).state ≠ .unjam ∧ s.orders.link = .lost) ∧
    ready.survey.fresh = false ∧
    (surveyed.survey.fresh = true ∧ surveyed.survey.received = true ∧
      ∀ e < 16, bandContains surveyed.selector.bandTable surveyed.survey.depth e = false) ∧
    (let s := (surveyed.onSurvey fun v => { v with depth := 24000 }).onSelector fun x =>
       { x with bandTable := ((x.bandTable.set 3 240).set 4 250).set 5 7 }
     s.survey.fresh = true ∧ s.survey.received = true ∧ bandWord s.selector.bandTable 1 2 ≤ 7 ∧
       bandWord s.selector.bandTable 1 0 * 100 ≤ s.survey.depth ∧
       s.survey.depth < bandWord s.selector.bandTable 1 1 * 100 ∧
       ∀ d < 1, bandContains s.selector.bandTable s.survey.depth d = false) := by decide +kernel

/-- The worked case of chapter 2, value by value; and a loop in HELD whose base is beyond the hold speed
of the class that the update brings, under a stale source. -/
theorem witness_drive_update_in_run :
    cutting.inReset = false ∧ (cutting.loopOf .g1).timer.due (cutting.now + 20000) = true ∧
    (cutting.loopOf .g1).state = .run ∧ (cutting.pickupOf .g1).health = .ok ∧
    cutting.evaluatedClass = cutting.selector.classInEffect ∧
    cutting.classField .stallSpeed ≤ mag ((cutting.elapse 20000).measuredSpeed .g1) ∧
    (cutting.steering.state = .auto ∧ (cutting.loopOf .g2).state = .run ∧ cutting.drive.base ≠ 0 ∧
      cutting.steering.trim = 60) ∧
    (2260 : Int) = clampMag (cutting.classField .sMax)
      (signOf cutting.drive.base * max 0 (mag cutting.drive.base + 60)) ∧
    (1986 : Int) = roundDiv (2260 * cutting.slurry.cut) 1024 ∧
    ((cutting.laneOf .drive).fresh = true ∧ cutting.pressure .g1 = some 2950 ∧
      ¬ 2950 ≤ cutting.classField .pLim) ∧
    (768 : Int) = clamp (cutting.classField .fMin) 1024
      (1024 - roundDiv (1024 * (2950 - cutting.classField .pLim))
        (cutting.classField .pMax - cutting.classField .pLim)) ∧
    (1490 : Int) = roundDiv (1986 * 768) 1024 ∧
    (cutting.classField .rampStep < mag (1490 - (cutting.loopOf .g1).ramped) ∧
      (1510 : Int) = (cutting.loopOf .g1).ramped +
        cutting.classField .rampStep * signOf (1490 - (cutting.loopOf .g1).ramped)) ∧
    (48 : Int) = 1510 - (cutting.elapse 20000).measuredSpeed .g1 ∧
    (337 : Int) = signOf 1510 * curveLookup cutting.selector.curveTable 1 (mag 1510) ∧
    (186 : Int) = clampMag (cutting.classField .iMax)
      ((cutting.loopOf .g1).integ + roundDiv (cutting.classField .ki * 48) 256) ∧
    (595 : Int) = 337 + roundDiv (cutting.classField .kp * 48) 256 + 186 ∧
    (let s := did (.setClass 0 [7]) ((paired .held .unjam .live).onLane .drive fun b =>
       { b with fresh := false })
     (s.loopOf .g1).timer.due (s.now + 20000) = true ∧ (s.loopOf .g1).state = .held ∧
       (s.pickupOf .g1).health = .ok ∧ 7 = s.evaluatedClass ∧
       7 ≠ s.selector.classInEffect ∧ (s.laneOf .drive).fresh = false ∧
       (800 : Int) = clampMag (classWord s.selector.classTable 7 1)
         (clampMag (classWord s.selector.classTable 7 0) s.drive.base)) := by decide +kernel

/-- Loop 1 in this state over a pickup of this health, with a ramped target of 50 and a period of so
many µs: 4 081 633 µs give 49, and 4 000 000 µs give 50. -/
def stopping (st : LoopState) (h : Health) (period : Nat) : State :=
  ((paired st .stopped .live).onLoop .g1 fun l => { l with ramped := 50 }).onPickup .g1 fun p =>
    { p with health := h, history := [period] }

/-- Loop 1 in STOPPING with an integrator of 180. -/
def winding : State :=
  (stopping .stopping .ok 4000000).onLoop .g1 fun l => { l with integ := 180 }

/-- R51, R41: once the I_max of the class in effect has been written as 100, the integrator stands until
stage 7 uses the field. -/
theorem test_integrator_after_write :
    let s := did (.tableWrite 0 [2, 5, 1, 100]) winding
    (s.loopOf .g1).integ = 180 ∧ s.classField .iMax = 100 ∧
      ((did (.driveUpdate 20000 .g1) s).loopOf .g1).integ = 100 := by decide +kernel

/-- Each computing state, with the pickup read as OK and as FAULT; STOPPING at a target of 0 with a speed
of 50 and of 49; the states whose targets are their own; and an integrator beyond a lowered I_max. -/
theorem witness_drive_update_by_state :
    ([paired .run .run .live, paired .held .unjam .live, paired .opened .run .live,
        paired .opened .unjam .live, stopping .run .fault 4000000, stopping .held .fault 4000000,
        stopping .opened .fault 4000000, paired .unjam .held .live, stopping .stopping .ok 4000000,
        stopping .stopping .ok 4081633, stopping .stopping .fault 4000000].all fun s =>
      decide (s.inReset = false ∧ (s.loopOf .g1).timer.due (s.now + 20000) = true)) = true ∧
    ((paired .run .run .live).pickupOf .g1).health = .ok ∧
    ((stopping .run .fault 4000000).pickupOf .g1).health = .fault ∧
    ((stopping .opened .fault 4000000).loopOf .g1).state = .opened ∧
    ((paired .unjam .held .live).loopOf .g1).state = .unjam ∧
    (let w := (stopping .stopping .ok 4000000).elapse 20000
     let x := computeStages .g1 (w.driveInputs .g1) w
     (x.loopOf .g1).ramped = 0 ∧ 50 ≤ mag (w.driveInputs .g1).speed) ∧
    (let w := (stopping .stopping .ok 4081633).elapse 20000
     let x := computeStages .g1 (w.driveInputs .g1) w
     (x.loopOf .g1).ramped = 0 ∧ mag (w.driveInputs .g1).speed < 50) ∧
    (((stopping .opened .fault 4000000).loopOf .g1).state = .opened ∧
      (1200 : Int) = clampMag ((stopping .opened .fault 4000000).classField .holdSpeed)
        (clampMag ((stopping .opened .fault 4000000).classField .sMax) 2200)) ∧
    (let s := did (.tableWrite 0 [2, 5, 1, 100]) winding
     (s.loopOf .g1).state = .stopping ∧ s.classField .iMax < mag (s.loopOf .g1).integ) := by
  decide +kernel

/-- Inputs of an update with this pressure and this speed. -/
def inputs (load : Option Int) (speed : Int) : DriveInputs :=
  { health := .ok, speed := speed, load := load, trim := 0, cut := 1024, base := 0 }

/-- Loop 1 of `cutting` with a ramped target of 200 and so many stall updates counted; P_stall is
3200, the stall speed 100 and the stall count 10. -/
def stalling (count : Nat) : State :=
  cutting.onLoop .g1 fun l => { l with ramped := 200, stallCount := count }

/-- Loop 1 in UNJAM in this phase of 3 updates with this count; so many attempts were made, of 3. -/
def jamming (phase : UnjamPhase) (count attempts : Nat) : State :=
  cutting.onLoop .g1 fun l => { l with state := .unjam, phase := phase, phaseCount := count
                                       phaseLength := 3, attempts := attempts }

/-- Loop 1 in FORWARD with so many updates of recovery; five are asked for, at a speed of 600. -/
def recovering (count : Nat) : State :=
  (jamming .forward 0 0).onLoop .g1 fun l => { l with recoverCount := count }

/-- Inputs with a base target ahead and this speed. -/
def ahead (speed : Int) : DriveInputs := { inputs none speed with base := 2200 }

theorem witness_stall_and_unjam :
    ((stalling 8).loopOf .g1).state = .run ∧ (inputs none 99).load = none ∧
    ((inputs (some 3199) 99).load = some 3199 ∧ 3199 < (stalling 8).classField .pStall) ∧
    ((inputs (some 3200) 99).load = some 3200 ∧ 200 ≤ mag ((stalling 8).loopOf .g1).ramped ∧
      mag (inputs (some 3200) 99).speed < (stalling 8).classField .stallSpeed ∧
      (stalling 8).classField .pStall ≤ 3200 ∧
      (((stalling 8).loopOf .g1).stallCount : Int) + 1 < (stalling 8).classField .stallCount ∧
      (stalling 9).classField .stallCount ≤ (((stalling 9).loopOf .g1).stallCount : Int) + 1) ∧
    (((jamming .reverse 1 0).loopOf .g1).state = .unjam ∧
      ((jamming .reverse 1 0).loopOf .g1).phaseCount + 1 <
        ((jamming .reverse 1 0).loopOf .g1).phaseLength) ∧
    (((jamming .reverse 2 0).loopOf .g1).phaseLength ≤
        ((jamming .reverse 2 0).loopOf .g1).phaseCount + 1 ∧
      ((jamming .reverse 2 0).loopOf .g1).phase = .reverse) ∧
    (((jamming .forward 2 1).loopOf .g1).phase = .forward ∧
      (((jamming .forward 2 1).loopOf .g1).attempts : Int) + 1 <
        (jamming .forward 2 1).classField .unjamAttempts) ∧
    (jamming .forward 2 2).classField .unjamAttempts ≤
      (((jamming .forward 2 2).loopOf .g1).attempts : Int) + 1 ∧
    (((recovering 3).loopOf .g1).state = .unjam ∧ ((recovering 3).loopOf .g1).phase = .forward ∧
      ¬ ((ahead 599).health = .ok ∧
        signOf (ahead 599).speed =
          signOf (signOf (ahead 599).base * (recovering 3).classField .unjamSpeed) ∧
        (recovering 3).classField .recoverSpeed ≤ mag (ahead 599).speed)) ∧
    ((ahead 600).health = .ok ∧
      signOf (ahead 600).speed =
        signOf (signOf (ahead 600).base * (recovering 3).classField .unjamSpeed) ∧
      (recovering 3).classField .recoverSpeed ≤ mag (ahead 600).speed ∧
      (((recovering 3).loopOf .g1).recoverCount : Int) + 1 <
        (recovering 3).classField .recoverUpdates ∧
      (recovering 4).classField .recoverUpdates ≤
        (((recovering 4).loopOf .g1).recoverCount : Int) + 1) := by decide +kernel

theorem witness_drive_stages_are_bounded :
    ((2800 : Int) < 3400 ∧ (256 : Int) ≤ 1024 ∧ torqueFactor 2800 3400 256 3400 = 256 ∧
      torqueFactor 2800 3400 256 2800 = 1024) ∧
    ((0 : Int) ≤ 50 ∧ mag (1510 - 1560 : Int) ≤ 50 ∧ (1490 : Int) ≤ 1560) ∧
    ((0 : Int) ≤ 400 ∧ mag (400 : Int) ≤ 400 ∧ (piStage 384 32 400 400 800 500).sat = true ∧
      (piStage 384 32 400 400 800 500).opening = 1000 ∧
      (piStage 384 32 400 180 337 48).sat = false) := by decide +kernel

theorem witness_curve_lookup_interpolates :
    curveTableOk (defaultCurveTable.set 0 1) ∧ (0 : Nat) < 5 ∧
    (0 : Int) < curveX (defaultCurveTable.set 0 1) 1 0 ∧
    curveX (defaultCurveTable.set 0 1) 1 8 ≤ 4000 ∧
    curveX (defaultCurveTable.set 0 1) 1 0 ≤ 1 ∧ (1 : Int) < curveX (defaultCurveTable.set 0 1) 1 1 ∧
    curveX (defaultCurveTable.set 0 1) 1 7 ≤ 3999 ∧
    (3999 : Int) < curveX (defaultCurveTable.set 0 1) 1 8 := by
  unfold curveTableOk
  decide +kernel

/-- A part that takes an order, as it stands. -/
theorem witness_takes_order : cutting.takesOrders ∧ laden.takesOrders := by
  unfold State.takesOrders
  decide +kernel

/-- REST, and then BURST and FLUSH from it. -/
def resting : State := did (.holdDelayExpiry 120000000) standing
def bursting : State := did (.phaseTimerExpiry 100000000) resting
def flushing : State := did (.driveStart 0 []) resting

theorem witness_drive_start_arms_both_loops :
    cutting.takesOrders ∧
    (let u := (latch (.jam .g1) ready).afterLink 0
     driveStartTrips.any u.latched = true) ∧
    (let u := State.reset.afterLink 0
     driveStartTrips.any u.latched = false ∧ (u.laneOf .drive).state ≠ .up) ∧
    (let u := (ready.onLoop .g2 fun l => { l with state := .manual }).afterLink 0
     driveStartTrips.any u.latched = false ∧ (u.laneOf .drive).state = .up ∧
       (u.loopOf .g2).state ≠ .stopped) ∧
    ([standing, resting, bursting].all fun s =>
      let u := s.afterLink 0
      decide (driveStartTrips.any u.latched = false ∧ (u.laneOf .drive).state = .up ∧
        (u.loopOf .g1).state = .stopped ∧ (u.loopOf .g2).state = .stopped)) = true ∧
    (standing.slurry.state = .run ∧ (resting.slurry.state = .agitate ∧ resting.slurry.phase = .rest) ∧
      bursting.slurry.state = .agitate ∧ bursting.slurry.phase = .burst) := by
  unfold State.takesOrders
  decide +kernel

/-- R111: the departure from REST goes to FLUSH at 600 with its timer, and that from BURST to RUN. -/
theorem test_agitation_exits :
    (flushing.slurry.state = .flush ∧ flushing.slurry.output = 600 ∧
      flushing.slurry.phaseTimer = .running 30000000 resting.now) ∧
    (did (.modeGearbox 0 .g1 [2]) bursting).slurry.state = .run ∧
      (did (.modeGearbox 0 .g1 [2]) bursting).slurry.integ = 600 := by decide +kernel

/-- A loop that runs over a sound pickup, and one that does not run. -/
theorem witness_drive_stop_stops_loops :
    cutting.takesOrders ∧
    (((cutting.afterLink 0).loopOf .g1).state.running = true ∧
      ((cutting.afterLink 0).pickupOf .g1).health = .ok) ∧
    ((ready.afterLink 0).loopOf .g1).state = .stopped := by
  unfold State.takesOrders
  decide +kernel

theorem witness_speed_and_class_orders : laden.takesOrders ∧ laden.repliesWaiting = 3 := by
  unfold State.takesOrders
  decide +kernel

/-- Loop 1 in MANUAL. -/
def loopManual : State := did (.modeGearbox 0 .g1 [2]) ready

theorem witness_mode_gearbox_table :
    (ready.takesOrders ∧ cutting.takesOrders ∧ loopManual.takesOrders) ∧
    ((3 : Word).toInt ≠ 1 ∧ (3 : Word).toInt ≠ 2) ∧
    ((2 : Word).toInt = 2 ∧ (1 : Word).toInt = 1) ∧
    (((loopManual.afterLink 0).loopOf .g1).state = .manual ∧
      ((loopManual.afterLink 0).loopOf (Gear.g1).partner).state = .stopped) ∧
    (let u := (did (.modeGearbox 0 .g2 [2]) loopManual).afterLink 0
     (u.loopOf .g1).state = .manual ∧ (u.loopOf (Gear.g1).partner).state ≠ .stopped) ∧
    (((cutting.afterLink 0).loopOf .g1).state ≠ .manual ∧
      ((cutting.afterLink 0).loopOf .g1).state ≠ .stopped) ∧
    ((ready.afterLink 0).loopOf .g1).state = .stopped ∧
    ((resting.afterLink 0).loopOf .g1).state = .stopped ∧
    ((bursting.afterLink 0).loopOf .g1).state = .stopped := by
  unfold State.takesOrders
  decide +kernel

/-- Loops 1 and 2 of `cutting` with so many samples at or above P_trip, which is 3600, each, and these
pressures. -/
def pressed (one two : Nat) (p q : Option Int) : State :=
  ((cutting.onLoop .g1 fun l => { l with overCount := one }).onLoop .g2 fun l =>
    { l with overCount := two }).onLane .drive fun b => { b with items := [p, q] }

/-- The counts that the test comes to, and the loops that trip: with loops at rest, an absent pressure
and one below P_trip, none; with the fifth sample at P_trip, one loop; and both at one sample. -/
theorem witness_overpressure_trips_at_five :
    (ready.loopOf .g1).state ∈ [LoopState.stopped, .tripped] ∧
    (let s := pressed 3 4 none (some 3599)
     (s.loopOf .g1).state ∉ [LoopState.stopped, .tripped] ∧ s.pressure .g1 = none ∧
       s.pressure .g2 = some 3599 ∧ 3599 < s.classField .pTrip) ∧
    (let s := pressed 4 3 (some 3600) (some 3600)
     s.classField .pTrip ≤ 3600 ∧ s.pressure .g1 = some 3600 ∧ 5 ≤ (s.loopOf .g1).overCount + 1 ∧
       (s.loopOf (Gear.g1).partner).overCount + 1 < 5 ∧ s.orders.trips = []) ∧
    (let s := pressed 4 4 (some 3600) (some 3600)
     (s.loopOf .g2).state ∉ [LoopState.stopped, .tripped] ∧ s.pressure .g2 = some 3600 ∧
       5 ≤ (s.loopOf .g2).overCount + 1 ∧ s.orders.trips = []) := by decide +kernel

/-! ## Witnesses: chapters 4 and 5 -/

/-- A DEPTH frame of three items, and depths on either side of station 100 at 25 000 mm. -/
theorem witness_depth_events :
    ready.inReset = false ∧ [0, 0, (0 : Word)].length ≠ 2 ∧ ready.survey.state = .idle ∧
    (let s := surveyed.onSurvey fun v => { v with usable := false }
     s.survey.state = .surveying ∧ s.attitudeValid = false) ∧
    (surveyed.survey.state = .surveying ∧ surveyed.attitudeValid = true ∧
      min 300000 ((0 : Word).toNat * 65536 + (24999 : Word).toNat) <
        (surveyed.survey.frontier + surveyed.survey.spacing.step) * 250) ∧
    (surveyed.survey.timer.due (surveyed.now + 499999) = false ∧
      surveyed.survey.timer.due (surveyed.now + 500000) = true) := by decide +kernel

/-- Station 100 with samples and a spacing that is pending and suits it; station 100 without samples;
and station 1023, the last. -/
theorem witness_recording_test_records_station :
    (let v := { jump.survey with depth := 25000 }
     v.state = .surveying ∧ 100 = v.frontier + v.spacing.step ∧ 100 * 250 ≤ v.depth ∧
       1 ≤ v.count ∧ (⟨159, 42, 125⟩ : Means) =
         ⟨roundDiv v.sumX v.count, roundDiv v.sumY v.count, roundDiv v.sumR v.count⟩ ∧
       (Spacing.normal, (none : Option Spacing)) =
         (match v.pending with
          | some p => if 100 % p.step = 0 then (p, none) else (v.spacing, some p)
          | none => (v.spacing, none)) ∧
       v.depth < (100 + Spacing.normal.step) * 250) ∧
    (let v := { surveyed.survey with depth := 25000 }
     v.count = 0 ∧ (stationAt v.trajectory v.frontier).map Station.meanX = some 151 ∧
       v.depth < (100 + Spacing.fine.step) * 250) ∧
    (let v := { surveyed.survey with
       frontier := 1022, spacing := .extra, depth := 255750
       trajectory := [⟨1022, .extra, false, false, 4, 151, 40, 120, 131, 48⟩] }
     1023 = v.frontier + v.spacing.step ∧ 1023 * 250 ≤ v.depth ∧
       (stationAt v.trajectory v.frontier).isSome = true ∧
       v.depth < (1023 + Spacing.extra.step) * 250) ∧
    (let v := { jump.survey with depth := 24999 }
     v.depth < (v.frontier + v.spacing.step) * 250) ∧
    (let v := { jump.survey with depth := 26249, pending := none }
     v.state = .surveying ∧ 2 = v.spacing.step ∧ v.frontier ≤ 1023 ∧
       3 = min ((v.depth / 250 - v.frontier) / 2) ((1023 - v.frontier) / 2) ∧ 1 ≤ v.count ∧
       (⟨159, 42, 125⟩ : Means) =
         ⟨roundDiv v.sumX v.count, roundDiv v.sumY v.count, roundDiv v.sumR v.count⟩) ∧
    (let v := { surveyed.survey with
       frontier := 1018, spacing := .fine, depth := 300000, pending := some .normal
       trajectory := [⟨1018, .fine, false, false, 4, 151, 40, 120, 131, 48⟩] }
     2 = min ((v.depth / 250 - v.frontier) / 2) ((1023 - v.frontier) / 2) ∧ v.count = 0 ∧
       (stationAt v.trajectory v.frontier).isSome = true) ∧
    (let v := { jump.survey with frontier := 100, depth := 25500 }
     1 = min ((v.depth / 250 - v.frontier) / 2) ((1023 - v.frontier) / 2) ∧
       v.pending = some .normal ∧ ∀ j < 1, (v.frontier + (j + 1) * 2) % Spacing.normal.step ≠ 0) := by
  decide +kernel

theorem witness_panel_orders :
    ready.takesOrders ∧ (surveyed.afterLink 0).survey.state ≠ .idle ∧
    ((ready.afterLink 0).survey.state = .idle ∧ (ready.afterLink 0).survey.received = false) ∧
    (let u := (surveyed.onSurvey fun v => { v with
       state := .idle, pending := some .normal }).afterLink 0
     u.survey.state = .idle ∧ u.survey.received = true ∧ u.survey.fresh = true ∧
       u.attitudeValid = true ∧ Spacing.normal = u.survey.pending.getD u.survey.spacing ∧
       96 = min (u.survey.depth / 250 / 4 * 4) (1023 / 4 * 4)) := by
  unfold State.takesOrders
  decide +kernel

theorem witness_spacing_order :
    surveyed.takesOrders ∧
    ((3 : Word).toInt ≠ 0 ∧ (3 : Word).toInt ≠ 1 ∧ (3 : Word).toInt ≠ 2) ∧
    ((0 : Word).toInt = 0 ∧ (surveyed.afterLink 0).survey.frontier % 4 ≠ 0) ∧
    (let u := (surveyed.onSurvey fun v => { v with state := .paused }).afterLink 0
     (1 : Word).toInt = 1 ∧ u.survey.frontier % 2 = 0 ∧ u.survey.state = .paused) ∧
    ((2 : Word).toInt = 2 ∧ (surveyed.afterLink 0).survey.frontier % 1 = 0 ∧
      (surveyed.afterLink 0).survey.state = .surveying) := by
  unfold State.takesOrders
  decide +kernel

/-- Attitude items that are fused and do not disagree. -/
def level : AttitudeItems := ⟨some 150, some 30, some 151, some 40, some 7⟩

/-- Runs of 3 and 4, out of DISAGREE and in it; samples that are and are not fused; an interval with one
count left and with none, and at the depth of the frontier; and a sample in each state of the survey. -/
theorem witness_attitude_comparison_and_fusion :
    (let v := { surveyed.survey with disagreeRun := 3, agreeRun := 3 }
     v.disagree = false ∧ v.disagreeRun + 1 < 5) ∧
    5 ≤ ({ surveyed.survey with disagreeRun := 4 } : Survey).disagreeRun + 1 ∧
    (let v := { surveyed.survey with disagree := true, agreeRun := 3 }
     v.disagree = true ∧ v.agreeRun + 1 < 5) ∧
    5 ≤ ({ surveyed.survey with disagree := true, agreeRun := 4 } : Survey).agreeRun + 1 ∧
    (compareUnits 300 ⟨some 301, some 0, some 0, none, some 0⟩ = .disagreeing ∧
      compareUnits 300 ⟨some 300, some 0, some 0, none, some 0⟩ = .agreeing ∧
      compareUnits 300 ⟨some 300, none, none, none, some 0⟩ = .notCompared) ∧
    fuseAxis false none none = none ∧
    (fuseAxis false (some 150) (some 151) = some 151 ∧ fuseAxis false (some 30) none = some 30) ∧
    (let v := { surveyed.survey with depth := 24501, count := 65534 }
     v.state = .surveying ∧ v.usable = true ∧ v.frontier * 250 < v.depth ∧ v.count < 65535) ∧
    65535 ≤ ({ surveyed.survey with count := 65535 } : Survey).count ∧
    ({ surveyed.survey with depth := 24500 } : Survey).depth ≤ surveyed.survey.frontier * 250 ∧
    (let v := fuseSample level
       (disagreeAfter (compareUnits (surveyed.setting .disagreeLimit) level) surveyed.survey)
     surveyed.survey.state = .surveying ∧ surveyed.survey.fresh = true ∧
       (surveyed.laneOf .attitude).fresh = true ∧ v.usable = true) ∧
    (let x := { level with torsion := none }
     let v := fuseSample x
       (disagreeAfter (compareUnits (surveyed.setting .disagreeLimit) x) surveyed.survey)
     ¬ (surveyed.survey.fresh = true ∧ (surveyed.laneOf .attitude).fresh = true ∧
       v.usable = true)) ∧
    (surveyed.onSurvey fun v => { v with state := .paused }).survey.state = .paused ∧
    ready.survey.state = .idle := by decide +kernel

/-- OFF one µs early and on time, and AUTO and HOLD with the depth one mm short of the frontier station. -/
theorem witness_steering_update_holds :
    (ready.inReset = false ∧ ready.steering.timer.due (ready.now + 99999) = false ∧
      ready.steering.timer.due (ready.now + 100000) = true ∧ ready.steering.state = .off) ∧
    (let s := cutting.onSurvey fun v => { v with depth := 24499 }
     s.steering.state = .auto ∧ s.holdCause = true) ∧
    (let s := (cutting.onSurvey fun v => { v with depth := 24499 }).onSteering fun x =>
       { x with state := .hold, targets := ⟨109, 213, 104, 0⟩ }
     s.steering.state = .hold ∧ s.holdCause = true) := by decide +kernel

/-- The worked case of chapter 5, value by value, and the depth at the frontier station itself. -/
theorem witness_steering_update_projects :
    cutting.inReset = false ∧ cutting.steering.timer.due (cutting.now + 100000) = true ∧
    cutting.steering.state = .auto ∧
    cutting.holdCause = false ∧
    cutting.frontierStation = some ⟨98, .fine, false, false, 4, 151, 40, 120, 131, 48⟩ ∧
    (1800 : Int) = (cutting.survey.depth : Int) - (cutting.survey.frontier * 250 : Nat) +
      cutting.setting .lookAhead ∧
    (160 : Int) = clamp (-32767) 32767 (131 + roundDiv (1800 * cutting.survey.fusedX) 10000) ∧
    (53 : Int) = clamp (-32767) 32767 (48 + roundDiv (1800 * cutting.survey.fusedY) 10000) ∧
    (160 : Int) = 160 - cutting.setting .targetX ∧ (53 : Int) = 53 - cutting.setting .targetY ∧
    (120 : Int) = cutting.survey.fusedR - cutting.setting .targetR ∧
    (109 : Int) = curveLookup cutting.selector.curveTable 3 (mag 53) ∧
    (104 : Int) = curveLookup cutting.selector.curveTable 4 (mag 120) ∧
    (let s := (cutting.onSurvey fun v => { v with depth := 24500 }).onSteering fun x =>
       { x with state := .hold }
     s.steering.state = .hold ∧ s.holdCause = false) := by decide +kernel

theorem witness_mode_steering_table :
    (ready.takesOrders ∧ cutting.takesOrders ∧ State.reset.takesOrders) ∧
    ((3 : Word).toInt ≠ 0 ∧ (3 : Word).toInt ≠ 1 ∧ (3 : Word).toInt ≠ 2) ∧
    ((0 : Word).toInt = 0 ∧ (ready.afterLink 0).steering.state = .off) ∧
    ((2 : Word).toInt = 2 ∧ ((latch (.laneTrip .steer) ready).afterLink 0).latched
      (.laneTrip .steer) = true) ∧
    ((State.reset.afterLink 0).latched (.laneTrip .steer) = false ∧
      ((State.reset.afterLink 0).laneOf .steer).state ≠ .up) ∧
    ((cutting.afterLink 0).latched (.laneTrip .steer) = false ∧
      ((cutting.afterLink 0).laneOf .steer).state = .up ∧
      (cutting.afterLink 0).steering.state = .auto) ∧
    ((did (.modeSteering 0 [2]) ready).afterLink 0).steering.state = .manual ∧
    ((ready.afterLink 0).steering.state = .off ∧ (ready.afterLink 0).holdCause = true) ∧
    (cutting.afterLink 0).steering.state ≠ .off ∧
    (let s := cutting.onSteering fun x => { x with state := .off, trim := 0 }
     (s.afterLink 0).steering.state = .off ∧ (s.afterLink 0).holdCause = false) := by
  unfold State.takesOrders
  decide +kernel

/-! ## Witnesses: chapters 6 and 7 -/

/-- `pumping` with this flow, density and suction; Q_set is 4200, the suction minimum 150. -/
def returning (q rho p : Option Int) : State :=
  pumping.onLane .slurry fun b => { b with items := [q, rho, p] }

theorem witness_slurry_update_regulates :
    (ready.inReset = false ∧ ready.slurry.timer.due (ready.now + 99999) = false ∧
      ready.slurry.timer.due (ready.now + 100000) = true ∧ ready.slurry.state = .stopped) ∧
    ((returning none none none).slurry.state = .run ∧ (returning none none none).flow = none) ∧
    (let s := returning (some 3600) (some 1210) (some 150)
     s.slurry.state = .run ∧ (s.laneOf .slurry).fresh = true ∧ s.flow = some 3600 ∧
       s.suction = some 150 ∧ s.setting .suctionMin ≤ 150 ∧
       (717 : Int) = min (cutDensity (s.setting .cutMin) (s.setting .densityLow)
         (s.setting .densityHigh) 1210) (cutFlow (s.setting .cutMin) (s.classField .qSet) 3600) ∧
       (600 : Int) = s.classField .qSet - 3600 ∧
       (494 : Int) = clamp 0 1000 (s.slurry.integ + roundDiv (s.setting .flowKi * 600) 256) ∧
       (644 : Int) = 494 + roundDiv (s.setting .flowKp * 600) 256) ∧
    (let s := (returning (some 3600) none (some 149)).onSlurry fun x => { x with suctionCount := 48 }
     s.density = none ∧ s.suction = some 149 ∧ 149 < s.setting .suctionMin ∧
       (455 : Int) = max 0 (s.slurry.output - s.setting .backOffStep) ∧
       (s.slurry.suctionCount : Int) + 1 < s.setting .suctionLimit) ∧
    (let s := (returning (some 3600) none (some 149)).onSlurry fun x => { x with suctionCount := 49 }
     s.suction = some 149 ∧ 149 < s.setting .suctionMin ∧
       s.setting .suctionLimit ≤ (s.slurry.suctionCount : Int) + 1 ∧ s.orders.trips = [] ∧
       (latch (.jam .g1) s).orders.trips ≠ []) ∧
    ((returning (some 3600) none none).density = none ∧
      (let s := returning (some 3600) (some 1210) none
       (s.laneOf .slurry).fresh = true ∧ s.density = some 1210 ∧ s.flow = some 3600)) ∧
    ([SlurryState.agitate, .flush, .manual].all fun st =>
      (returning (some 3600) (some 1210) none |>.onSlurry fun x => { x with state := st }).slurry.state
        ∈ [SlurryState.agitate, .flush, .manual]) = true := by decide +kernel

/-- Priming over `ready` with this output and these counts; a dwell is 20 updates, the prime max 900
and Q_prime 400. -/
def priming (output : Int) (dwell detect : Nat) (q : Int) : State :=
  (ready.onSlurry fun x => { x with state := .priming, output := output, dwellCount := dwell
                                    dwellLength := 20, detectCount := detect }).onLane .slurry
    fun b => { b with items := [some q, none, none] }

/-- A dwell that ends at the prime max, and one that ends below it. -/
theorem witness_slurry_update_primes :
    (priming 899 19 0 399).slurry.state = .priming ∧
      (primingWork (priming 899 19 0 399)).slurry.state = .priming ∧
      (primingWork (priming 900 19 0 399)).slurry.state ≠ .priming := by decide +kernel

theorem witness_priming_sweep_and_detection :
    ((priming 300 18 0 399).slurry.state = .priming ∧
      (priming 300 18 0 399).slurry.dwellCount + 1 < (priming 300 18 0 399).slurry.dwellLength) ∧
    (let s := priming 899 19 0 399
     s.slurry.dwellLength ≤ s.slurry.dwellCount + 1 ∧ s.slurry.output < s.setting .primeMax ∧
       (900 : Int) = min (s.slurry.output + s.setting .primeStep) (s.setting .primeMax)) ∧
    (let s := priming 900 19 0 399
     s.slurry.dwellLength ≤ s.slurry.dwellCount + 1 ∧ s.setting .primeMax ≤ s.slurry.output) ∧
    ((priming 300 0 1 399).flow = some 399 ∧ 399 < (priming 300 0 1 399).setting .primeFlow) ∧
    ((priming 300 0 0 400).flow = some 400 ∧ (priming 300 0 0 400).setting .primeFlow ≤ 400 ∧
      (priming 300 0 0 400).slurry.detectCount = 0) ∧
    ((priming 300 0 1 400).slurry.detectCount = 1 ∧
      ((priming 300 0 1 400).loopOf .g1).state = .stopped ∧
      ((priming 300 0 1 400).loopOf .g2).state = .stopped) := by decide +kernel

theorem witness_agitation_timers :
    (let s := cutting.onSlurry fun x => { x with holdDelay := .running 120000000 0 }
     s.inReset = false ∧ s.slurry.holdDelay.due (s.now + 119999999) = false ∧
       s.slurry.holdDelay.due (s.now + 120000000) = true ∧ (s.loopOf .g1).state ≠ .stopped) ∧
    (standing.slurry.holdDelay.due (standing.now + 120000000) = true ∧ standing.slurry.state = .run ∧
      (standing.loopOf .g1).state = .stopped ∧ (standing.loopOf .g2).state = .stopped) ∧
    (resting.slurry.phaseTimer.due (resting.now + 99999999) = false ∧
      resting.slurry.phaseTimer.due (resting.now + 100000000) = true ∧
      resting.slurry.state = .agitate ∧ resting.slurry.phase = .rest) ∧
    (bursting.slurry.phaseTimer.due (bursting.now + 20000000) = true ∧
      bursting.slurry.state = .agitate ∧ bursting.slurry.phase = .burst) ∧
    (flushing.slurry.phaseTimer.due (flushing.now + 30000000) = true ∧
      flushing.slurry.state = .flush) := by decide +kernel

theorem witness_pump_orders :
    (ready.takesOrders ∧ cutting.takesOrders ∧ standing.takesOrders ∧ manual.takesOrders) ∧
    (true = ((latch .suction ready).afterLink 0).latched .suction) ∧
    (let u := State.reset.afterLink 0
     false = (u.latched .primeFail || u.latched .suction || u.latched (.laneTrip .slurry)) ∧
       (u.laneOf .slurry).state ≠ .up) ∧
    (((standing.afterLink 0).laneOf .slurry).state = .up ∧
      (standing.afterLink 0).slurry.state ≠ .stopped) ∧
    (let u := ready.afterLink 0
     false = (u.latched .primeFail || u.latched .suction || u.latched (.laneTrip .slurry)) ∧
       (u.laneOf .slurry).state = .up ∧ u.slurry.state = .stopped) ∧
    (cutting.afterLink 0).anyCutting = true ∧
    ((ready.afterLink 0).anyCutting = false ∧ (ready.afterLink 0).slurry.state = .stopped) ∧
    ((standing.afterLink 0).anyCutting = false ∧ (standing.afterLink 0).slurry.state = .run) ∧
    ((0 : Word).toInt ≠ 1 ∧ (0 : Word).toInt ≠ 2) ∧
    (manual.afterLink 0).slurry.state = .manual ∧
    (flushing.takesOrders ∧ (flushing.afterLink 0).slurry.state = .flush) ∧
    ((1 : Word).toInt = 1 ∧ (2 : Word).toInt = 2) := by
  unfold State.takesOrders
  decide +kernel

/-- The default C_min, densities and a Q_set, at the ends of each part's slope. -/
theorem witness_cut_factor_parts :
    ((0 : Int) ≤ 256 ∧ (256 : Int) ≤ 1024 ∧ (1150 : Int) < 1300 ∧ (0 : Int) < 4200) ∧
    cutDensity 256 1150 1300 1150 = 1024 ∧ cutDensity 256 1150 1300 1300 = 256 ∧
    cutDensity 256 1150 1300 1151 = 1019 ∧ cutFlow 256 4200 4200 = 1024 ∧
    cutFlow 256 4200 4199 = 1024 ∧ cutFlow 256 4200 0 = 256 := by decide +kernel

/-- A DRIVE sample whose count reaches n less one, a sample of each other lane, and priming. -/
theorem witness_sample_is_used :
    (let s := cutting.onPath fun x => { x with decimation := x.decimation.set 16 3 }
     s.inReset = false ∧ s.path.area.get (.lane .drive) = .empty ∧
       s.classify .drive (received (sample .drive [100, 0x8000])) =
         .valid (mkFrame 0 16 kindSample [100, 0x8000]) ∧
       5 = routeWord s.path.route 16 1 ∧ 3 = s.path.decimation.getD 16 0) ∧
    cutting.classify .steer (received (sample .steer [1, 2, 3, 4])) =
      .valid (mkFrame 0 17 kindSample [1, 2, 3, 4]) ∧
    cutting.classify .attitude (received (sample .attitude [1, 2, 3, 4, 5])) =
      .valid (mkFrame 0 18 kindSample [1, 2, 3, 4, 5]) ∧
    (cutting.classify .slurry (received (sample .slurry [1, 2, 3])) =
        .valid (mkFrame 0 19 kindSample [1, 2, 3]) ∧
      cutting.slurry.state ≠ .priming ∧ (priming 300 0 1 400).slurry.state = .priming) := by
  decide +kernel

/-- A NODE frame up from the DRIVE node, as it arrives. -/
def nodeUp : Reception := whole (mkFrame 1 16 kindNode [7])

/-- `cutting` with so many NODE frames waiting above and so many buffers free. -/
def crowded (waiting free : Nat) : State :=
  cutting.onPath fun x =>
    { x with queue := x.queue.set .shaft (List.replicate waiting ⟨0, .node, mkFrame 1 16 8 [7]⟩)
             free := x.free.drop (40 - free) }

/-- Each class of frame, with and without SAMPLE as its KIND; the bad frames 7 and 8 in a row; the share and the reserve at their ends; and a
lane that comes up with no DEMAND, with one waiting and with one in transmission. -/
theorem witness_lane_frame_classes :
    (cutting.inReset = false ∧ cutting.path.area.get (.lane .drive) = .empty) ∧
    cutting.classify .drive (received (whole (mkFrame 0 17 8 []))) = .misrouted ∧
    cutting.classify .drive (received (whole (mkFrame 0 17 kindSample [1, 2]))) = .misrouted ∧
    cutting.classify .drive
      (received ⟨(frameChars (mkFrame 0 16 kindSample [1, 2])).dropLast, false⟩) = .bad ∧
    (ready.classify .drive (received ⟨[1, 2], false⟩) = .bad ∧
      (State.reset.laneOf .drive).state ≠ .up ∧
      State.reset.classify .drive (received ⟨[1, 2], false⟩) = .bad) ∧
    cutting.classify .drive (received (sample .drive [1])) =
      .malformed (mkFrame 0 16 kindSample [1]) ∧
    (let s := cutting.onLane .drive fun b => { b with badRun := 6 }
     (s.laneOf .drive).state = .up ∧ (s.laneOf .drive).badRun + 1 < 8) ∧
    (let s := cutting.onLane .drive fun b => { b with badRun := 7 }
     8 ≤ (s.laneOf .drive).badRun + 1) ∧
    (cutting.classify .drive (received (whole (mkFrame 2 16 kindReply [1]))) =
        .valid (mkFrame 2 16 kindReply [1]) ∧
      kindReply ≠ kindSample ∧ kindReply ≠ kindNode) ∧
    ((crowded 17 11).classify .drive (received nodeUp) = .valid (mkFrame 1 16 kindNode [7]) ∧
      (let alive := laneAlive .drive (emptyArea (.lane .drive) ((crowded 17 11).elapse 0))
       alive.forwardedWaiting .shaft < 18 ∧ 10 < alive.path.free.length ∧
         alive.path.free = 29 :: alive.path.free.tail)) ∧
    18 ≤ (laneAlive .drive (emptyArea (.lane .drive) ((crowded 18 11).elapse 0))).forwardedWaiting
      .shaft ∧
    (laneAlive .drive (emptyArea (.lane .drive) ((crowded 0 10).elapse 0))).path.free.length ≤ 10 ∧
    ((State.reset.laneOf .attitude).state ≠ .up ∧ laneChannels .attitude = []) ∧
    (let s := sending.onLane .slurry fun b => { b with state := .fault }
     (s.laneOf .slurry).state ≠ .up ∧ laneChannels .slurry ≠ [] ∧
       s.demandInTransmission .slurry = true) ∧
    (let s := (did (.refreshTimerExpiry 100000 .slurry) slewing).onLane .slurry fun b =>
       { b with state := .fault }
     s.demandInTransmission .slurry = false ∧ s.waiting (.lane .slurry) .demand = true) ∧
    (let s := State.reset
     (s.laneOf .slurry).state = .wait ∧ s.demandInTransmission .slurry = false ∧
       s.waiting (.lane .slurry) .demand = false ∧ s.path.free = 0 :: s.path.free.tail ∧
       s.classify .slurry (received (whole (mkFrame 2 19 kindReply [1]))) =
         .valid (mkFrame 2 19 kindReply [1])) := by decide +kernel

theorem witness_lane_timers_expire :
    cutting.inReset = false ∧
      (cutting.laneOf .steer).silence.due (cutting.now + 199999) = false ∧
      (cutting.laneOf .steer).silence.due (cutting.now + 200000) = true ∧
      ([Lane.drive, .steer, .attitude, .slurry].all fun l =>
        decide ((cutting.laneOf l).freshTimer.due (cutting.now + 299999) = false ∧
          (cutting.laneOf l).freshTimer.due (cutting.now + 300000) = true)) = true ∧
      (cutting.slurry.state ≠ .stopped ∧ cutting.slurry.state ≠ .tripped) ∧
      (priming 300 0 1 400).slurry.state = .priming := by decide +kernel

theorem witness_operator_demand_is_merged :
    manual.inReset = false ∧ manual.nodeLane 63 = none ∧
    (manual.nodeLane 19 = some .slurry ∧ laneChannels .slurry ≠ [] ∧
      [1, (2 : Word)].length ≠ (laneChannels .slurry).length) ∧
    (manual.nodeLane 18 = some .attitude ∧ laneChannels .attitude = []) ∧
    ([(700 : Word)].length = (laneChannels .slurry).length ∧ (laneChannels .slurry)[0]? = some .pump ∧
      [(700 : Word)][0]? = some 700 ∧ (manual.demand .pump).owner = .operator ∧
      (700 : Word) ≠ 0x8000#16) ∧
    (standing.demand .pump).owner = .loop ∧
    (let s := did (.operatorDemand 0 19 [700]) manual
     (s.demand .pump).deadman.due (s.now + 499999) = false ∧
       (s.demand .pump).deadman.due (s.now + 500000) = true) := by decide +kernel

/-- `slewing` before its DEMAND, while the DEMAND waits, and while it is in transmission. -/
theorem witness_refresh_composes_demand :
    (slewing.inReset = false ∧ (slewing.laneOf .slurry).refresh.due (slewing.now + 99999) = false ∧
      (slewing.laneOf .slurry).refresh.due (slewing.now + 100000) = true ∧
      (slewing.laneOf .slurry).state = .up ∧ laneChannels .slurry ≠ []) ∧
    (let s := slewing.onPath fun x => { x with route := x.route.set 57 0 }
     (s.laneOf .slurry).refresh.due (s.now + 100000) = true ∧ s.mappedAddress .slurry = none) ∧
    (slewing.mappedAddress .slurry = some 19 ∧ slewing.demandInTransmission .slurry = false ∧
      slewing.waiting (.lane .slurry) .demand = false ∧
      slewing.path.free = 0 :: slewing.path.free.tail) ∧
    (let s := did (.refreshTimerExpiry 100000 .slurry) slewing
     (s.laneOf .slurry).refresh.due (s.now + 100000) = true ∧ s.mappedAddress .slurry = some 19 ∧
       s.demandInTransmission .slurry = false ∧ s.waiting (.lane .slurry) .demand = true) ∧
    ((sending.laneOf .slurry).refresh.due (sending.now + 100000) = true ∧
      sending.mappedAddress .slurry = some 19 ∧ sending.demandInTransmission .slurry = true) ∧
    (slewing.envelopeMin .pump ≤ slewing.envelopeMax .pump ∧
      slewing.envelopeMin .pump ≤ (slewing.demand .pump).lastSent ∧
      (slewing.demand .pump).lastSent ≤ slewing.envelopeMax .pump ∧
      slewing.envelopeSlew .pump ≠ 0 ∧
      slewing.envelopeSlew .pump <
        mag ((slewing.demand .pump).requested - (slewing.demand .pump).lastSent)) ∧
    (let s := slewing.onDemand .pump fun d => { d with requested := 350 }
     mag ((s.demand .pump).requested - (s.demand .pump).lastSent) ≤ s.envelopeSlew .pump) ∧
    (let s := slewing.onDemand .pump fun d => { d with requested := 249 }
     s.envelopeSlew .pump < mag ((s.demand .pump).requested - (s.demand .pump).lastSent) ∧
       ¬ (s.demand .pump).lastSent < (s.demand .pump).requested) ∧
    ((slewing.demand .pump).requested = 600 ∧ (slewing.demand .pump).requested ≠ 601 ∧
      .slurry = channelLane .pump ∧ (State.reset.demand .pump).requested ≠ 601 ∧
      (State.reset.laneOf .slurry).state ≠ .up ∧ (sending.demand .pump).requested ≠ 601 ∧
      (sending.laneOf .slurry).state = .up) := by
  decide +kernel

/-- R125, R129: a write of the held 600 makes no frame, and a change makes one of 350. -/
theorem test_requested_change :
    tail (setRequested .pump 600 slewing) (.lane .slurry) = none ∧
      tail (setRequested .pump 601 slewing) (.lane .slurry) = some (.demand, [350]) := by
  decide +kernel

/-! ## Witnesses: chapters 8 to 11 -/

/-- A NODE frame as the cab controller sends it to the STEER node. -/
def nodeFrame : Frame := mkFrame 17 1 8 [7]

/-- A DRIVE sample that ends its decimation, with one from its node waiting above or not. -/
def counted (q : List Queued) : State :=
  ready.onPath fun x => { x with decimation := x.decimation.set 16 4, queue := x.queue.set .shaft q }

theorem witness_forwarded_frame_is_admitted :
    ready.inReset = false ∧ ready.nodeLane 63 = none ∧
    (ready.nodeLane nodeFrame.dest = some .steer ∧
      routeWord ready.path.route nodeFrame.dest.toNat 2 = 1) ∧
    (let s := ready.onPath fun x => { x with free := x.free.drop 30 }
     s.path.free.length ≤ 10) ∧
    (let s := ready.onPath fun x => { x with
       queue := x.queue.set (.lane .steer) (List.replicate 5 ⟨0, .node, nodeFrame⟩) }
     5 ≤ s.forwardedWaiting (.lane .steer)) ∧
    (let s := ready.onPath fun x => { x with
       free := x.free.drop 29
       queue := x.queue.set (.lane .steer) (List.replicate 4 ⟨0, .node, nodeFrame⟩) }
     s.forwardedWaiting (.lane .steer) < 5 ∧ 10 < s.path.free.length ∧
       s.path.free = 29 :: s.path.free.tail) ∧
    (routeWord (ready.path.route.set 49 0) 16 1 = 0 ∧
      3 + 1 < routeWord ready.path.route 16 1 ∧ routeWord ready.path.route 16 1 ≤ 4 + 1) ∧
    (∃ e ∈ (counted [⟨0, .sample, mkFrame 0 16 1 [1, 2]⟩]).queueOf .shaft,
      e.sampleFrom 16 = true) ∧
    (∀ e ∈ (counted []).queueOf .shaft, e.sampleFrom 16 = false) ∧
    ((counted []).forwardedWaiting .shaft < 18 ∧ 10 < (counted []).path.free.length) ∧
    18 ≤ (counted (List.replicate 18 ⟨0, .node, nodeFrame⟩)).forwardedWaiting .shaft := by
  decide +kernel

theorem witness_transmission_starts :
    (busyLink.inReset = false ∧ busyLink.txOf .shaft = none ∧
      busyLink.selected .shaft = some ⟨0, .sample, mkFrame 1 18 1 [1, 2, 3, 4, 5]⟩ ∧
      busyLink.path.arbiter = 3) ∧
    ((ready.txOf .shaft = none ∧ ready.selected .shaft = none) ∧ laden.txOf .shaft ≠ none) ∧
    (let s := did (.refreshTimerExpiry 100000 .slurry) slewing
     s.txOf (.lane .slurry) = none ∧ (s.selected (.lane .slurry)).map Queued.tag = some .demand ∧
       (laneChannels .slurry)[0]? = some .pump) ∧
    (let s := did (.reportTimerExpiry 250000) (latch (.jam .g1) busyLink)
     ((s.queueOf .shaft).find? fun e => e.tag == .urgent).isSome = true) ∧
    (let q := busyLink.queueOf .shaft
     (q.find? fun e => e.tag == .urgent) = none ∧ (q.find? fun e => e.tag.forwarded) ≠ none ∧
       (q.find? fun e => e.tag == .reply) ≠ none) ∧
    (let q := (did (.reportTimerExpiry 250000) ready).queueOf .shaft
     (q.find? fun e => e.tag == .reply) = none ∧ (q.find? fun e => e.tag == .periodic) ≠ none) ∧
    ([0, 1, 2, 3].map fun r => ({ ready with straps := ⟨0, 0, r⟩ } : State).charMicros .shaft) =
      [80, 40, 20, 10] := by decide +kernel

/-- The DEMAND of `sending`, with a composition pending. -/
def recomposing : State := sending.onLane .slurry fun b => { b with compose := true }

/-- One µs early and on time: a REPLY of two items at 80 µs a character takes 1040 µs, and a DEMAND of
one item 55 µs. -/
theorem witness_transmission_completes :
    ready.inReset = false ∧ ready.txOf .shaft = none ∧
    ((laden.txOf .shaft).map fun x => x.entry.tag) = some .reply ∧
    (let s := did (.transmissionStart 0 .shaft) (did (.speed 0 [2200]) cutting)
     ((s.txOf .shaft).map fun x => decide (s.now + 1039 <
       x.since + (9 + 2 * x.entry.frame.items.length) * s.charMicros .shaft)) = some true ∧
     ((s.txOf .shaft).map fun x => decide (
       x.since + (9 + 2 * x.entry.frame.items.length) * s.charMicros .shaft ≤ s.now + 1040)) =
         some true) ∧
    (((sending.txOf (.lane .slurry)).map fun x => x.entry.tag) = some .demand ∧
      (sending.laneOf .slurry).compose = false) ∧
    (((recomposing.txOf (.lane .slurry)).map fun x => x.entry.tag) = some .demand ∧
      ((recomposing.txOf (.lane .slurry)).map fun x => decide (
        x.since + (9 + 2 * x.entry.frame.items.length) * recomposing.charMicros (.lane .slurry) ≤
          recomposing.now + 55)) = some true ∧
      (recomposing.laneOf .slurry).compose = true ∧ (recomposing.laneOf .slurry).state = .up ∧
      laneChannels .slurry ≠ [] ∧ recomposing.waiting (.lane .slurry) .demand = false ∧
      recomposing.mappedAddress .slurry = some 19) := by decide +kernel

theorem witness_keep_order_link :
    ready.inReset = false ∧ lostJam.orders.link = .lost ∧ ready.orders.link = .live ∧
      State.reset.orders.link = .dormant ∧ (warned.orders.link = .warn ∧
        (warned.loopOf .g1).state = .held ∧ (warned.loopOf .g2).state ≠ .unjam) := by decide +kernel

/-- Four replies waiting, no items, a code of 0 and of 14, a SPEED of one item, and MODE targets 0
and 5. -/
theorem witness_order_frame_tests :
    (let s := did (.speed 0 [1]) laden
     orderItemsOf (.speed 0 [1]) = some [4, 1] ∧ (Instr.speed 0 [1]).wf = true ∧ s.inReset = false ∧
       4 ≤ s.repliesWaiting) ∧
    (laden.inReset = false ∧ laden.repliesWaiting < 4) ∧
    (orderItemsOf (.orderBadCode 0 []) = some [] ∧ (Instr.orderBadCode 0 []).wf = true) ∧
    (orderItemsOf (.orderBadCode 0 [14]) = some [14] ∧ (Instr.orderBadCode 0 [14]).wf = true ∧
      13 < (14 : Word).toNat) ∧
    ((Instr.orderBadCode 0 [0]).wf = true ∧ (0 : Word).toNat = 0) ∧
    (orderItemsOf (.speed 0 []) = some [4] ∧ (Instr.speed 0 []).wf = true ∧
      [(4 : Word)].length ≠ orderItems 4) ∧
    (orderItemsOf (.restart 0 [1]) = some [13, 1] ∧ (Instr.restart 0 [1]).wf = true ∧
      [13, (1 : Word)].length ≠ orderItems 13) ∧
    (orderItemsOf (.modeBadTarget 0 [5, 1]) = some [6, 5, 1] ∧
      (Instr.modeBadTarget 0 [5, 1]).wf = true ∧ 4 < (5 : Word).toNat) ∧
    (orderItemsOf (.modeBadTarget 0 []) = some [6] ∧ (Instr.modeBadTarget 0 []).wf = true) ∧
    laden.path.free = laden.path.free.headD 0 :: laden.path.free.tail := by decide +kernel

theorem witness_order_and_report_timers_expire :
    (cutting.inReset = false ∧ cutting.orders.timer.due (cutting.now + 999999) = false ∧
      cutting.orders.timer.due (cutting.now + 1000000) = true ∧ cutting.orders.link = .live) ∧
    (warned.orders.timer.due (warned.now + 1000000) = true ∧ warned.orders.link = .warn ∧
      warned.orders.trips = []) ∧
    (latch (.jam .g1) warned).orders.trips ≠ [] ∧
    (let s := State.reset.onOrders fun x => { x with timer := .running 5 0 }
     s.orders.timer.due (s.now + 5) = true ∧ s.orders.link = .dormant) ∧
    (ready.orders.reportTimer.due (ready.now + 249999) = false ∧
      ready.orders.reportTimer.due (ready.now + 250000) = true ∧
      ready.waiting .shaft .periodic = false ∧ ready.path.free = 0 :: ready.path.free.tail) ∧
    (let s := did (.reportTimerExpiry 250000) ready
     s.orders.reportTimer.due (s.now + 250000) = true ∧ s.waiting .shaft .periodic = true) := by
  decide +kernel

theorem witness_report_carries_state :
    pumping.selector.classInEffect ≤ 7 ∧
      (pumping.onSelector fun x => { x with classInEffect := 7 }).selector.classInEffect ≤ 7 ∧
      reported.tripOrderLaw ∧ reported.latched (.overpressure .g1) = true ∧
      (∀ x ∈ allKinds, reported.latched x = true →
        (TripKind.overpressure .g1).number ≤ x.number) ∧
      ∀ k ∈ allKinds, pumping.latched k = false := by
  unfold State.tripOrderLaw
  decide +kernel

theorem witness_latch_records_and_reports :
    (laden.orders.trips = [] ∧ laden.waiting .shaft .urgent = false ∧ laden.poolLaw ∧
      laden.forwardedLaw ∧ laden.upperQueueLaw ∧ laden.ownFrameLaw) ∧
    (let s := latch (.jam .g1) pumping
     s.orders.trips ≠ [] ∧ s.waiting .shaft .urgent = true) :=
  ⟨⟨by decide +kernel, by decide +kernel, witness_step_keeps_pool_law.1.1,
    witness_step_keeps_pool_law.1.2, laden_upper_queue, laden_own_frames⟩, by decide +kernel⟩

theorem witness_trip_reset_order :
    (tripped.takesOrders ∧ ready.takesOrders ∧ lostJam.takesOrders) ∧
    (tripped.orderLostLaw ∧ ready.orderLostLaw ∧ lostJam.orderLostLaw) ∧
    (tripped.tripOrderLaw ∧ ready.tripOrderLaw ∧ lostJam.tripOrderLaw) ∧
    ((12 : Word).toInt = 12 ∧ (0xFFFF : Word).toInt = -1) ∧
    ((0 : Word).toInt = 0 ∧ (ready.afterLink 0).orders.trips = []) ∧
    ((11 : Word).toInt = ((TripKind.laneTrip .slurry).number : Int) ∧
      (1 : Word).toInt = (TripKind.orderLost.number : Int) ∧
      (ready.afterLink 0).latched (.laneTrip .slurry) = false) ∧
    ((tripped.afterLink 0).latched (.laneTrip .slurry) = true ∧
      ((tripped.afterLink 0).laneOf .slurry).state ≠ .up) ∧
    (let u := tripped.afterLink 0
     u.latched (.overpressure .g1) = true ∧ (u.laneOf .drive).fresh = true ∧
       u.pressure .g1 = some 3720 ∧ u.classField .pTrip ≤ 3720) ∧
    (let u := (tripped.onLane .drive fun b => { b with items := [some 3699, none] }).afterLink 0
     u.orders.trips = .overpressure .g1 :: [.laneTrip .slurry] ∧
       u.pressure .g1 = some 3699 ∧ 3699 < u.classField .pTrip) ∧
    ((lostJam.afterLink 0).latched .orderLost = true ∧
      (lostJam.afterLink 0).orders.trips = .orderLost :: [.jam .g1]) := by
  unfold State.takesOrders State.orderLostLaw State.tripOrderLaw
  decide +kernel

/-- Each answer of the tests: counts 0, 1, 8 and 9, ids 7 and 8, the last word and the word after it,
and both tables that are read only. -/
theorem witness_table_frame_tests :
    (laden.inReset = false ∧ 4 ≤ (did (.speed 0 [1]) laden).repliesWaiting ∧
      laden.repliesWaiting < 4) ∧
    ([(5 : Word), 0].length < 3 ∧ ([5, 0, 0] : List Word).getD 2 0 = 0 ∧
      8 < (([5, 0, 9] : List Word).getD 2 0).toNat ∧
      [(5 : Word), 0, 1].length ≠ 3 + 1) ∧
    (3 ≤ [(5 : Word), 0, 1, 250].length ∧ [(5 : Word), 0, 1, 250].length = 3 + 1) ∧
    (7 < (([8, 0, 1] : List Word).getD 0 0).toNat ∧ tableOf 7 = some .identification) ∧
    (Table.settings.size < 42 + 2 ∧ 42 + 1 ≤ Table.settings.size ∧ 35 + 8 ≤ Table.settings.size ∧
      tableOf 5 = some .settings) ∧
    laden.path.free = laden.path.free.headD 0 :: laden.path.free.tail := by decide +kernel

/-- "A write refused at its first word", one refused at its second, and one taken whole. -/
theorem witness_table_write_stops_at_refusal :
    (ready.inReset = false ∧ ready.repliesWaiting < 4 ∧ 1 ≤ (3 : Word).toNat ∧ (3 : Word).toNat ≤ 8 ∧
      [(950 : Word), 25, 1000].length = (3 : Word).toNat ∧ tableOf (5 : Word).toNat = some .settings ∧
      (15 : Word).toNat + (3 : Word).toNat ≤ Table.settings.size ∧
      Table.settings ≠ .trajectory ∧ Table.settings ≠ .identification) ∧
    (writeWords .settings 15 0 [950, 25, 1000] (ready.afterFrame 0)).written = 0 ∧
    (let out := writeWords .settings 15 0 [900, 0, 1000] (ready.afterFrame 0)
     out.written = 1 ∧ out.written < [(900 : Word), 0, 1000].length) ∧
    (writeWords .settings 15 0 [900, 25, 1000] (ready.afterFrame 0)).written = 3 ∧
    (writeWords .classes 5 0 [100] (winding.afterFrame 0)).written = 1 := by
  decide +kernel

/-- The default bands with a first entry from 10 to 20 m of class 1 and a second from 20 to 30 m. -/
def banded : State :=
  ready.onSelector fun x => { x with
    bandTable := (((((x.bandTable.set 0 100).set 1 200).set 2 1).set 3 200).set 4 300).set 5 2 }

/-- At the ends of each range: class and band words, the band order with an edge shared and crossed, the
route words with a lane of another entry, and the settings 0 and 42. -/
theorem witness_table_word_checks :
    ((0 : Nat) < 21 ∧ (20 : Nat) < 21 ∧ (7 : Nat) < 8) ∧
    (0 = cutting.selector.classInEffect ∧ cutting.anyCutting = true) ∧
    (7 ≠ cutting.selector.classInEffect ∧ ready.anyCutting = false ∧
      classRange 8 127 = false ∧ classRange 8 128 = true) ∧
    (3000 < (3001 : Word).toNat ∧ 8 ≤ (8 : Word).toNat ∧ (65534 : Word).toNat ≤ 65534) ∧
    (let band := bandWord (banded.selector.bandTable.set (0 * 3 + 1) 201)
     (201 : Word).toNat ≤ 3000 ∧ (0 : Nat) < 1 ∧ band 0 2 ≤ 7 ∧ band 1 2 ≤ 7 ∧
       band 1 0 < band 0 1) ∧
    (let band := bandWord (banded.selector.bandTable.set (1 * 3 + 1) 200)
     band 1 2 ≤ 7 ∧ band 1 1 ≤ band 1 0) ∧
    ((4 : Nat) < 5 ∧ (8 : Nat) < 9) ∧
    ((63 : Nat) < 64 ∧ 4 < (5 : Word).toNat ∧ (1 : Word) ≠ 0 ∧ (1 : Nat) ≤ 1 ∧
      ready.ownAddress = 2) ∧
    (1 ≤ (4 : Word).toNat ∧ (4 : Word).toNat ≤ 4 ∧ 2 ≤ 63 ∧ 63 ≠ ready.ownAddress ∧
      ∃ other < 64, other ≠ 63 ∧ routeWord ready.path.route other 0 = (4 : Word).toNat) ∧
    routeWord ready.path.route 63 0 = (0 : Word).toNat ∧
    (settingRange 0 (settingNumber 0 9) = false ∧ settingRange 0 (settingNumber 0 10) = true ∧
      settingRange 42 (settingNumber 42 5000) = true ∧
      settingRange 42 (settingNumber 42 5001) = false) ∧
    (5 = ready.selector.classInEffect * 21 + 5 ∧ 5 < ready.selector.classTable.length) := by
  decide +kernel

/-- The end of entry 0 written at the start of entry 1: the two bands are in order. -/
theorem witness_table_word_checks_of_bands :
    let band := bandWord (banded.selector.bandTable.set (0 * 3 + 1) 200)
    ((List.range 16).all fun i =>
      decide (band i 2 ≤ 7 → band i 0 < band i 1) && (List.range 16).all fun k =>
        decide (i < k ∧ band i 2 ≤ 7 ∧ band k 2 ≤ 7 →
          band i 0 < band k 0 ∧ band i 1 ≤ band k 0)) = true ∧
      band 0 2 ≤ 7 ∧ band 1 2 ≤ 7 := by decide +kernel

/-- The lane words that no other entry maps: the old lane in use, the new one in use, and neither. -/
theorem witness_table_word_checks_of_lane_words :
    (cutting.laneInUse .drive = true ∧ routeWord cutting.path.route 16 0 = laneNumber .drive) ∧
    (let s := cutting.onPath fun x => { x with route := x.route.set 48 0 }
     (1 : Word).toNat ≤ 4 ∧ 20 ≠ s.ownAddress ∧
       (∀ other < 64, other ≠ 20 → routeWord s.path.route other 0 ≠ (1 : Word).toNat) ∧
       routeWord s.path.route 20 0 ≠ (1 : Word).toNat ∧
       s.laneInUse .drive = true ∧ (1 : Word).toNat = laneNumber .drive) ∧
    (let s := ready.onPath fun x => { x with route := x.route.set 48 0 }
     (∀ other < 64, other ≠ 20 → routeWord s.path.route other 0 ≠ (1 : Word).toNat) ∧
       routeWord s.path.route 20 0 ≠ (1 : Word).toNat ∧
       (∀ l ∈ [Lane.drive, .steer, .attitude, .slurry],
         (routeWord s.path.route 20 0 = laneNumber l ∨ (1 : Word).toNat = laneNumber l) →
           s.laneInUse l = false)) := by decide +kernel

/-- Refused over running loops and over a running slurry loop; taken with every lane in UP, and with
every lane in WAIT; with a frame in transmission, with none, and with an envelope without 0. -/
theorem witness_restart_order :
    (cutting.takesOrders ∧ standing.takesOrders ∧ ready.takesOrders ∧ sending.takesOrders ∧
      State.reset.takesOrders) ∧
    (cutting.poolLaw ∧ standing.poolLaw ∧ ready.poolLaw ∧ sending.poolLaw ∧ State.reset.poolLaw) ∧
    (((cutting.afterLink 0).loopOf .g1).state ≠ .stopped ∧
      ((cutting.afterLink 0).loopOf .g1).state ≠ .tripped) ∧
    ((standing.afterLink 0).slurry.state ≠ .stopped ∧
      (standing.afterLink 0).slurry.state ≠ .tripped) ∧
    (((ready.afterLink 0).loopOf .g1).state = .stopped ∧
      ((ready.afterLink 0).loopOf .g2).state = .stopped ∧
      (ready.afterLink 0).slurry.state = .stopped ∧
      ((ready.afterLink 0).laneOf .slurry).state = .up ∧ laneChannels .slurry ≠ [] ∧
      (ready.afterLink 0).mappedAddress .slurry = some 19) ∧
    ((State.reset.afterLink 0).laneOf .slurry).state ≠ .up ∧
    (((ready.afterLink 0).laneOf .attitude).state = .up ∧ laneChannels .attitude = [] ∧
      (ready.afterLink 0).mappedAddress .attitude = some 18) ∧
    ((ready.afterLink 0).txOf .shaft = none ∧
      (((sending.afterLink 14).txOf (.lane .slurry)).map fun x =>
        (frameChars x.entry.frame).take (((sending.afterLink 14).now - x.since) /
          (sending.afterLink 14).charMicros (.lane .slurry))) = some [19, 2]) ∧
    (0 < ((ready.onLanes fun b => { b with envelope := b.envelope.set 18 1 }).afterLink
      0).envelopeMin .pump) := by
  unfold State.takesOrders State.poolLaw
  decide +kernel

theorem witness_power_on_and_rstn :
    cutting.inReset = false ∧ (10 : Nat) ≤ 10 ∧ (9 : Nat) < 10 ∧
      (did (.rstnLow 0 .supply) cutting).inReset = true ∧
      (did (.rstnLow 0 (.rstn 10)) laden).path.free = allBuffers := by decide +kernel

end Sys2Proof.Tests
end

/-! SUPPORT. The rounded quotient as the one integer within half of the quotient, and the statement
about it (R1). -/

namespace Sys2Proof.Machine

/-- The floor of (2a + b) / 2b bounds 2a + b between two neighbouring multiples of 2b; moved by b, these
are the bounds within half of the quotient, the upper one kept at a half. -/
theorem roundDiv_eq_iff {a b q : Int} (hb : 0 < b) :
    roundDiv a b = q ↔ 2 * a - b < 2 * b * q ∧ 2 * b * q ≤ 2 * a + b := by
  rw [roundDiv, Int.ediv_eq_iff_of_pos (by omega), mul_comm q]
  omega

/-- By an even divisor the rounding is an addition of half the divisor before the floor. -/
theorem roundDiv_two_mul (x c : Int) : roundDiv x (2 * c) = (x + c) / (2 * c) := by
  unfold roundDiv
  rw [← mul_add]
  exact Int.mul_ediv_mul_of_pos _ _ two_pos

/-- Settles O14: the first clause is the floor's bounds, the other two are even divisors. -/
theorem roundingIsHalvesUpward : Obligations.RoundingIsHalvesUpward :=
  ⟨fun _ _ _ hb => roundDiv_eq_iff hb, fun x => roundDiv_two_mul x 128, fun x => roundDiv_two_mul x 512⟩

end Sys2Proof.Machine

/-! SUPPORT. The lookup on a feed-forward curve: the segment an input falls on, the interpolation along
that segment and its bounds, and the statement about the lookup (R61). -/

namespace Sys2Proof.Machine

/-- A rounded interpolation stays between its ends: the term added to `y` is between none and all of the
rise `y' - y`, and rounding keeps to whole bounds. -/
theorem interpolation_mem {t w y y' : Int} (hw : 0 < w) (ht : 0 ≤ t) (htw : t ≤ w) :
    min y y' ≤ y + roundDiv (t * (y' - y)) w ∧ y + roundDiv (t * (y' - y)) w ≤ max y y' := by
  obtain up | down := le_total y y'
  · have none_le : 0 ≤ roundDiv (t * (y' - y)) w :=
      roundDiv_nonneg (mul_nonneg ht (sub_nonneg.2 up)) hw
    have le_all : roundDiv (t * (y' - y)) w ≤ y' - y :=
      roundDiv_le hw (mul_comm w _ ▸ mul_le_mul_of_nonneg_right htw (sub_nonneg.2 up))
    omega
  · have all_le : y' - y ≤ roundDiv (t * (y' - y)) w :=
      le_roundDiv hw (mul_comm w _ ▸ mul_le_mul_of_nonpos_right htw (sub_nonpos.2 down))
    have le_none : roundDiv (t * (y' - y)) w ≤ 0 :=
      roundDiv_le hw
        ((mul_nonpos_of_nonneg_of_nonpos ht (sub_nonpos.2 down)).trans_eq (zero_mul w).symm)
    omega

/-- The last number below `n` that passes a test is the one after which none passes. -/
theorem getLastD_filter_range {test : Nat → Bool} {i n d : Nat} (hi : i < n) (passes : test i = true)
    (after : ∀ j, i < j → j < n → test j = false) : ((List.range n).filter test).getLastD d = i := by
  induction n with
  | zero => omega
  | succ n ih =>
    rw [List.range_succ, List.filter_append]
    obtain rfl | hlt : i = n ∨ i < n := by omega
    · simp [passes]
    · simpa [after n hlt] using ih hlt fun j hij hj => after j hij (by omega)

theorem curveY_nonneg (table : List Word) (curve point : Nat) : 0 ≤ curveY table curve point :=
  Int.natCast_nonneg _

theorem curveLookup_before {table : List Word} {curve : Nat} {x : Int}
    (h : x < curveX table curve 0) : curveLookup table curve x = curveY table curve 0 := if_pos h

/-- From the first point of a curve to its last, an input lies on one of the segments. -/
theorem exists_curve_segment {table : List Word} {curve : Nat} {x : Int}
    (first : curveX table curve 0 ≤ x) (last : x < curveX table curve 8) :
    ∃ i < 8, curveX table curve i ≤ x ∧ x < curveX table curve (i + 1) := by
  obtain ⟨i, before, beyond⟩ := Nat.exists_not_and_succ_of_not_zero_of_exists
    (p := fun k => 8 ≤ k ∨ x < curveX table curve k) (by simpa using first) ⟨8, .inl le_rfl⟩
  obtain ⟨hi, low⟩ : i < 8 ∧ curveX table curve i ≤ x := by simpa using before
  obtain hend | high := beyond
  · obtain rfl : i = 7 := by omega
    exact ⟨7, hi, low, last⟩
  · exact ⟨i, hi, low, high⟩

/-! ## On a curve whose x rise strictly (R59) -/

section
variable {table : List Word} {curve i : Nat} {x : Int}
  (rises : ∀ k < 8, curveX table curve k < curveX table curve (k + 1))
include rises

theorem curveX_mono {j : Nat} (hij : i ≤ j) (hj : j ≤ 8) :
    curveX table curve i ≤ curveX table curve j :=
  (strictMonoOn_Iic_of_lt_succ rises).monotoneOn (Set.mem_Iic.2 (hij.trans hj)) (Set.mem_Iic.2 hj) hij

theorem curveLookup_beyond (h : curveX table curve 8 ≤ x) :
    curveLookup table curve x = curveY table curve 8 := by
  have first_le : curveX table curve 0 ≤ curveX table curve 8 := curveX_mono rises (by omega) le_rfl
  rw [curveLookup, if_neg (by omega), if_pos h]

/-- The highest point at or below the input starts the segment the input lies on. -/
theorem curveSegment_eq (hi : i < 8) (low : curveX table curve i ≤ x)
    (high : x < curveX table curve (i + 1)) : curveSegment table curve x = i := by
  refine getLastD_filter_range hi (decide_eq_true low) fun j hij hj => decide_eq_false ?_
  exact (high.trans_le (curveX_mono rises hij hj.le)).not_ge

/-- On a segment the lookup is the interpolation between its two points: an input there is neither
before the curve nor from its end on. -/
theorem curveLookup_of_segment (hi : i < 8) (low : curveX table curve i ≤ x)
    (high : x < curveX table curve (i + 1)) :
    curveLookup table curve x = curveY table curve i +
      roundDiv ((x - curveX table curve i) * (curveY table curve (i + 1) - curveY table curve i))
        (curveX table curve (i + 1) - curveX table curve i) := by
  have first_le : curveX table curve 0 ≤ curveX table curve i := curveX_mono rises i.zero_le hi.le
  have le_last : curveX table curve (i + 1) ≤ curveX table curve 8 := curveX_mono rises hi le_rfl
  rw [curveLookup, if_neg (by omega), if_neg (by omega), curveSegment_eq rises hi low high]

theorem curveLookup_mem_segment (hi : i < 8) (low : curveX table curve i ≤ x)
    (high : x < curveX table curve (i + 1)) :
    min (curveY table curve i) (curveY table curve (i + 1)) ≤ curveLookup table curve x ∧
      curveLookup table curve x ≤ max (curveY table curve i) (curveY table curve (i + 1)) := by
  rw [curveLookup_of_segment rises hi low high]
  exact interpolation_mem (sub_pos.2 (rises i hi)) (sub_nonneg.2 low) (sub_le_sub_right high.le _)

/-- At the point that starts a segment nothing is added. -/
theorem curveLookup_at_point (hi : i < 8) :
    curveLookup table curve (curveX table curve i) = curveY table curve i := by
  have nothing_added : roundDiv 0 (curveX table curve (i + 1) - curveX table curve i) = 0 := by
    simpa only [zero_mul] using roundDiv_mul 0 (sub_pos.2 (rises i hi))
  rw [curveLookup_of_segment rises hi le_rfl (rises i hi), sub_self, zero_mul, nothing_added, add_zero]

/-- The lookup keeps to the range of the y: the flat ends are points of the curve, and an input between
them has its result between two points. -/
theorem curveLookup_mem (x : Int) (tops : ∀ k < 9, curveY table curve k ≤ 1000) :
    0 ≤ curveLookup table curve x ∧ curveLookup table curve x ≤ 1000 := by
  have point_mem : ∀ k < 9, 0 ≤ curveY table curve k ∧ curveY table curve k ≤ 1000 :=
    fun k hk => ⟨curveY_nonneg table curve k, tops k hk⟩
  obtain before | first := lt_or_ge x (curveX table curve 0)
  · rw [curveLookup_before before]
    exact point_mem 0 (by omega)
  obtain beyond | last := le_or_gt (curveX table curve 8) x
  · rw [curveLookup_beyond rises beyond]
    exact point_mem 8 (by omega)
  obtain ⟨i, hi, low, high⟩ := exists_curve_segment first last
  have between := curveLookup_mem_segment rises hi low high
  have start := point_mem i (by omega)
  have finish := point_mem (i + 1) (by omega)
  omega

end

/-- Settles O23: the range of the result, the two flat ends, and on each segment the interpolation, its
bounds and the point that starts it. -/
theorem curveLookupInterpolates : Obligations.CurveLookupInterpolates := by
  intro table c x ok hc _
  obtain ⟨_, curves⟩ := ok
  obtain ⟨rises, tops⟩ := curves c hc
  obtain ⟨nonneg, le⟩ := curveLookup_mem rises x tops
  refine ⟨nonneg, le, curveLookup_before, curveLookup_beyond rises, fun i hi low high => ?_⟩
  obtain ⟨bottom, top⟩ := curveLookup_mem_segment rises hi low high
  refine ⟨curveLookup_of_segment rises hi low high, bottom, top, ?_⟩
  rintro rfl
  exact curveLookup_at_point rises hi

end Sys2Proof.Machine

/-! SUPPORT. An ATTITUDE sample: its comparison, the DISAGREE state, the fusion, the survey state and the
open interval, and the statement about it (R62, R63, R64, R68, R71). -/

namespace Sys2Proof.Machine

/-! ## The comparison (R63) -/

theorem axisExceeds_eq_none {limit : Int} {upper lower : Option Int} :
    axisExceeds limit upper lower = none ↔ upper = none ∨ lower = none := by
  cases upper <;> cases lower <;> simp [axisExceeds]

theorem axisExceeds_eq_some_true {limit : Int} {upper lower : Option Int} :
    axisExceeds limit upper lower = some true ↔
      ∃ a b, upper = some a ∧ lower = some b ∧ limit < mag (a - b) := by
  cases upper <;> cases lower <;> simp [axisExceeds]

theorem compareUnits_eq_disagreeing {limit : Int} {x : AttitudeItems} :
    compareUnits limit x = .disagreeing ↔
      axisExceeds limit x.upperX x.lowerX = some true ∨
        axisExceeds limit x.upperY x.lowerY = some true := by
  unfold compareUnits
  rcases axisExceeds limit x.upperX x.lowerX with _ | _ | _ <;>
    rcases axisExceeds limit x.upperY x.lowerY with _ | _ | _ <;> simp

theorem compareUnits_eq_notCompared {limit : Int} {x : AttitudeItems} :
    compareUnits limit x = .notCompared ↔
      axisExceeds limit x.upperX x.lowerX = none ∧ axisExceeds limit x.upperY x.lowerY = none := by
  unfold compareUnits
  rcases axisExceeds limit x.upperX x.lowerX with _ | _ | _ <;>
    rcases axisExceeds limit x.upperY x.lowerY with _ | _ | _ <;> simp

/-! ## The DISAGREE state and its runs (R63) -/

section
variable {v : Survey}

theorem disagreeAfter_notCompared : disagreeAfter .notCompared v = v := by
  unfold disagreeAfter
  cases v.disagree <;> rfl

theorem disagreeAfter_agreeing_out (h : v.disagree = false) :
    disagreeAfter .agreeing v = { v with disagreeRun := 0 } := by
  unfold disagreeAfter
  rw [h]

theorem disagreeAfter_disagreeing_out (h : v.disagree = false) :
    disagreeAfter .disagreeing v =
      if 5 ≤ v.disagreeRun + 1 then { v with disagree := true, disagreeRun := 0, agreeRun := 0 }
      else { v with disagreeRun := v.disagreeRun + 1 } := by
  unfold disagreeAfter
  rw [h]

theorem disagreeAfter_disagreeing_in (h : v.disagree = true) :
    disagreeAfter .disagreeing v = { v with agreeRun := 0 } := by
  unfold disagreeAfter
  rw [h]

theorem disagreeAfter_agreeing_in (h : v.disagree = true) :
    disagreeAfter .agreeing v =
      if 5 ≤ v.agreeRun + 1 then { v with disagree := false, disagreeRun := 0, agreeRun := 0 }
      else { v with agreeRun := v.agreeRun + 1 } := by
  unfold disagreeAfter
  rw [h]

theorem disagreeAfter_keeps (c : Comparison) (v : Survey) :
    (disagreeAfter c v).state = v.state ∧ (disagreeAfter c v).fresh = v.fresh := by
  unfold disagreeAfter
  repeat' split
  all_goals exact ⟨rfl, rfl⟩

end

/-! ## The fusion (R64) -/

/-- Between two items the fused value is the mean, halves upward. -/
theorem fuseAxis_both (a b : Int) : fuseAxis false (some a) (some b) = some ((a + b + 1) / 2) :=
  congrArg some (roundDiv_two_mul (a + b) 1)

section
variable {x : AttitudeItems} {v : Survey}

theorem fuseSample_unusable
    (h : fuseAxis v.disagree x.upperX x.lowerX = none ∨ fuseAxis v.disagree x.upperY x.lowerY = none ∨
      x.torsion = none) : fuseSample x v = { v with usable := false } := by
  unfold fuseSample
  split
  next hx hy hr => simp [hx, hy, hr] at h
  next => rfl

theorem fuseSample_usable {a b r : Int} (hx : fuseAxis v.disagree x.upperX x.lowerX = some a)
    (hy : fuseAxis v.disagree x.upperY x.lowerY = some b) (hr : x.torsion = some r) :
    fuseSample x v = { v with fusedX := a, fusedY := b, fusedR := r, usable := true } := by
  unfold fuseSample
  rw [hx, hy, hr]

theorem fuseSample_keeps (x : AttitudeItems) (v : Survey) :
    (fuseSample x v).state = v.state ∧ (fuseSample x v).fresh = v.fresh := by
  unfold fuseSample
  split <;> exact ⟨rfl, rfl⟩

end

/-! ## The open interval (R71) -/

section
variable {v : Survey}

theorem offerToInterval_counted (surveying : v.state = .surveying) (usable : v.usable = true)
    (beyond : v.frontier * 250 < v.depth) (room : v.count < 65535) :
    offerToInterval v =
      { v with sumX := v.sumX + v.fusedX, sumY := v.sumY + v.fusedY, sumR := v.sumR + v.fusedR
               count := v.count + 1, intervalDisagree := v.intervalDisagree || v.disagree } :=
  if_pos ⟨surveying, usable, beyond, room⟩

theorem offerToInterval_refused
    (h : v.state ≠ .surveying ∨ v.usable = false ∨ v.depth ≤ v.frontier * 250 ∨ 65535 ≤ v.count) :
    offerToInterval v = v := by
  refine if_neg ?_
  rintro ⟨surveying, usable, beyond, room⟩
  obtain h | h | h | h := h
  · exact h surveying
  · simp [usable] at h
  · omega
  · omega

end

/-! ## The survey state (R68) -/

section
variable {v : Survey}

theorem surveyEvaluated_closed {valid : Bool} (h : v.state = .idle ∨ v.state = .full) :
    surveyEvaluated valid v = v := by
  unfold surveyEvaluated
  obtain h | h := h <;> rw [h]

/-- Without a fresh depth and a valid attitude an open panel pauses, and a paused one stays so. -/
theorem surveyEvaluated_pauses {valid : Bool} (h : v.state = .surveying ∨ v.state = .paused)
    (lacks : (v.fresh && valid) = false) :
    surveyEvaluated valid v = { v with state := .paused } := by
  unfold surveyEvaluated
  obtain h | h := h
  · simp [h, lacks]
  · simp only [h, lacks, Bool.false_eq_true, if_false]
    rw [← h]

theorem surveyEvaluated_goes_on {valid : Bool} (h : v.state = .surveying)
    (has : (v.fresh && valid) = true) : surveyEvaluated valid v = v := by
  unfold surveyEvaluated
  simp [h, has]

theorem surveyEvaluated_returns {valid : Bool} (h : v.state = .paused)
    (has : (v.fresh && valid) = true) :
    surveyEvaluated valid v = recordingTest { v with state := .surveying } := by
  unfold surveyEvaluated
  simp [h, has]

end

/-! ## The sample (R62) -/

/-- The survey after a sample is compared, and fused with the DISAGREE state that the comparison leaves. -/
def State.fusedSurvey (x : AttitudeItems) (s : State) : Survey :=
  fuseSample x (disagreeAfter (compareUnits (s.setting .disagreeLimit) x) s.survey)

/-- R68 after a sample: the depth is fresh and the attitude valid, so that an open panel goes on. -/
def State.surveyGoesOn (x : AttitudeItems) (s : State) : Bool :=
  (s.fusedSurvey x).fresh && ((s.laneOf .attitude).fresh && (s.fusedSurvey x).usable)

section
variable (x : AttitudeItems) (s : State)

theorem State.fusedSurvey_state : (s.fusedSurvey x).state = s.survey.state :=
  (fuseSample_keeps _ _).1.trans (disagreeAfter_keeps _ _).1

theorem State.fusedSurvey_fresh : (s.fusedSurvey x).fresh = s.survey.fresh :=
  (fuseSample_keeps _ _).2.trans (disagreeAfter_keeps _ _).2

theorem attitudeSample_eq :
    attitudeSample x s =
      { s with
        survey := offerToInterval
          (surveyEvaluated ((s.laneOf .attitude).fresh && (s.fusedSurvey x).usable)
            (s.fusedSurvey x)) } := rfl

theorem attitudeSample_closed (h : s.survey.state = .idle ∨ s.survey.state = .full) :
    attitudeSample x s = { s with survey := s.fusedSurvey x } := by
  rw [← s.fusedSurvey_state x] at h
  have closed : (s.fusedSurvey x).state ≠ .surveying := by
    obtain h | h := h <;> simp [h]
  rw [attitudeSample_eq, surveyEvaluated_closed h, offerToInterval_refused (.inl closed)]

theorem State.surveyGoesOn_iff :
    s.surveyGoesOn x = true ↔
      s.survey.fresh = true ∧ (s.laneOf .attitude).fresh = true ∧ (s.fusedSurvey x).usable = true := by
  rw [surveyGoesOn, s.fusedSurvey_fresh x, Bool.and_eq_true, Bool.and_eq_true]

theorem attitudeSample_pauses (h : s.survey.state = .surveying ∨ s.survey.state = .paused)
    (lacks : s.surveyGoesOn x = false) :
    attitudeSample x s = { s with survey := { s.fusedSurvey x with state := .paused } } := by
  rw [← s.fusedSurvey_state x] at h
  rw [attitudeSample_eq, surveyEvaluated_pauses h lacks, offerToInterval_refused (.inl (by simp))]

theorem attitudeSample_surveying (h : s.survey.state = .surveying) (goes : s.surveyGoesOn x = true) :
    attitudeSample x s = { s with survey := offerToInterval (s.fusedSurvey x) } := by
  rw [← s.fusedSurvey_state x] at h
  rw [attitudeSample_eq, surveyEvaluated_goes_on h goes]

theorem attitudeSample_returns (h : s.survey.state = .paused) (goes : s.surveyGoesOn x = true) :
    attitudeSample x s =
      { s with
        survey := offerToInterval (recordingTest { s.fusedSurvey x with state := .surveying }) } := by
  rw [← s.fusedSurvey_state x] at h
  rw [attitudeSample_eq, surveyEvaluated_returns h goes]

end

/-- Settles O33, clause by clause: the comparison and its limits, the runs and the DISAGREE state, the
fusion of an axis and of a sample, the open interval, and the sample in each state of the survey. -/
theorem attitudeComparisonAndFusion : Obligations.AttitudeComparisonAndFusion := by
  refine ⟨fun limit x => ⟨?_, ?_⟩, fun v => ?runs, fun a b => ?axis, ?sample, fun v => ?interval,
    fun x s v goes hv hgoes => ?survey⟩
  · rw [compareUnits_eq_disagreeing, axisExceeds_eq_some_true, axisExceeds_eq_some_true]
  · rw [compareUnits_eq_notCompared, axisExceeds_eq_none, axisExceeds_eq_none]
  case runs =>
    exact ⟨disagreeAfter_notCompared, disagreeAfter_agreeing_out,
      fun out short => (disagreeAfter_disagreeing_out out).trans (if_neg (by omega)),
      fun out full => (disagreeAfter_disagreeing_out out).trans (if_pos full),
      disagreeAfter_disagreeing_in,
      fun within short => (disagreeAfter_agreeing_in within).trans (if_neg (by omega)),
      fun within full => (disagreeAfter_agreeing_in within).trans (if_pos full)⟩
  case axis =>
    refine ⟨fuseAxis_both a b, rfl, fun d => ?_⟩
    cases d <;> exact ⟨rfl, rfl, rfl⟩
  case sample =>
    rintro x v _ _ rfl rfl
    exact ⟨fuseSample_unusable, fun _ _ _ => fuseSample_usable⟩
  case interval => exact ⟨offerToInterval_counted, offerToInterval_refused⟩
  case survey =>
    obtain rfl : v = s.fusedSurvey x := hv
    rw [← s.surveyGoesOn_iff x] at hgoes
    rw [hgoes, Bool.not_eq_true]
    exact ⟨attitudeSample_closed x s, attitudeSample_pauses x s, attitudeSample_surveying x s,
      attitudeSample_returns x s⟩

end Sys2Proof.Machine

/-! SUPPORT. A MODE order naming steering: the mode that its word names, its refusals, the states that it
leaves and those that it enters, and the statement about it (R85, R86, R89). -/

namespace Sys2Proof.Machine

/-! ## The mode word (R169) -/

section
variable {w : Word}

theorem modeOf_off (h : w.toInt = 0) : modeOf w = some .off := if_pos h

theorem modeOf_auto (h : w.toInt = 1) : modeOf w = some .auto := by simp [modeOf, signed, h]

theorem modeOf_manual (h : w.toInt = 2) : modeOf w = some .manual := by simp [modeOf, signed, h]

theorem modeOf_other (not_off : w.toInt ≠ 0) (not_auto : w.toInt ≠ 1) (not_manual : w.toInt ≠ 2) :
    modeOf w = none := by
  simp [modeOf, signed, not_off, not_auto, not_manual]

end

/-! ## Refusals and entries (R85, R86) -/

section
variable {w : Word} {u : State}

theorem modeSteering_other (not_off : w.toInt ≠ 0) (not_auto : w.toInt ≠ 1)
    (not_manual : w.toInt ≠ 2) : modeSteering w u = (.badArg, u) := by
  rw [modeSteering, modeOf_other not_off not_auto not_manual]

theorem modeSteering_off (h : w.toInt = 0) :
    modeSteering w u =
      (.ok, if u.steering.state = .off then u else enterSteeringClear .off .loop u) := by
  rw [modeSteering, modeOf_off h]

/-- AUTO and MANUAL are refused while the trip of the steering lane is latched. -/
theorem modeSteering_tripped (h : w.toInt = 1 ∨ w.toInt = 2)
    (tripped : u.latched (.laneTrip .steer) = true) : modeSteering w u = (.tripped, u) := by
  obtain auto | manual := h
  · simp only [modeSteering, modeOf_auto auto, if_pos tripped]
  · simp only [modeSteering, modeOf_manual manual, if_pos tripped]

/-- Without that trip they are refused while the lane is not UP. -/
theorem modeSteering_noLane (h : w.toInt = 1 ∨ w.toInt = 2)
    (clear : u.latched (.laneTrip .steer) = false) (down : (u.laneOf .steer).state ≠ .up) :
    modeSteering w u = (.noLane, u) := by
  obtain auto | manual := h
  · simp [modeSteering, modeOf_auto auto, clear, down]
  · simp [modeSteering, modeOf_manual manual, clear, down]

/-- With the lane UP, AUTO keeps AUTO and HOLD, and is entered through the HOLD test of R86. -/
theorem modeSteering_auto (h : w.toInt = 1) (clear : u.latched (.laneTrip .steer) = false)
    (up : (u.laneOf .steer).state = .up) :
    modeSteering w u =
      (.ok, if u.steering.state = .auto ∨ u.steering.state = .hold then u
        else enterSteeringClear (if u.holdCause then .hold else .auto) .loop u) := by
  simp [modeSteering, modeOf_auto h, clear, up, apply_ite (Prod.mk Result.ok)]

theorem modeSteering_manual (h : w.toInt = 2) (clear : u.latched (.laneTrip .steer) = false)
    (up : (u.laneOf .steer).state = .up) :
    modeSteering w u =
      (.ok, if u.steering.state = .manual then u else enterSteeringClear .manual .operator u) := by
  simp [modeSteering, modeOf_manual h, clear, up, apply_ite (Prod.mk Result.ok)]

end

/-- The answer to a MODE order naming steering that is taken. -/
theorem exec_modeSteering {dt : Nat} {w : Word} {s v : State} {r : Result} (orders : s.takesOrders)
    (h : modeSteering w (s.afterLink dt) = (r, v)) :
    exec (.modeSteering dt [w]) s = .next (replyOrder 6 r v) := by
  have taken : exec (.modeSteering dt [w]) s = .next (replyOrder 6
      (modeSteering w (s.afterLink dt)).1 (modeSteering w (s.afterLink dt)).2) :=
    arrival_taken orders rfl
  rw [taken, h]

/-- The entries that R85 and R86 allow, with the state entered and the owner of the plate channels. -/
theorem modeSteering_enters {w : Word} {u : State} {new : SteerState} {o : Owner}
    (h : (w.toInt = 0 ∧ u.steering.state ≠ .off ∧ new = .off ∧ o = .loop) ∨
      (u.latched (.laneTrip .steer) = false ∧ (u.laneOf .steer).state = .up ∧
        ((w.toInt = 1 ∧ (u.steering.state = .off ∨ u.steering.state = .manual) ∧
            new = (if u.holdCause then .hold else .auto) ∧ o = .loop) ∨
          (w.toInt = 2 ∧ u.steering.state ≠ .manual ∧ new = .manual ∧ o = .operator)))) :
    modeSteering w u = (.ok, enterSteeringClear new o u) := by
  obtain ⟨word, active, rfl, rfl⟩ |
    ⟨clear, up, ⟨word, inactive, rfl, rfl⟩ | ⟨word, not_manual, rfl, rfl⟩⟩ := h
  · rw [modeSteering_off word, if_neg active]
  · have not_steering : ¬(u.steering.state = .auto ∨ u.steering.state = .hold) := by
      obtain state | state := inactive <;> simp [state]
    rw [modeSteering_auto word clear up, if_neg not_steering]
  · rw [modeSteering_manual word clear up, if_neg not_manual]

/-- R89: at an entry the requested values of the plate channels are 0, and their owner is set. -/
theorem enterSteeringClear_plates (new : SteerState) (o : Owner) (s : State) (p : Plate) :
    ((enterSteeringClear new o s).demand (.plate p)).requested = 0 ∧
      ((enterSteeringClear new o s).demand (.plate p)).owner = o := by
  simp [enterSteeringClear]

/-- Settles O36, clause by clause: the word that names no mode, OFF in OFF, the two refusals of AUTO and
MANUAL, the states that they leave as they are, and the entries with what R89 does at them. -/
theorem modeSteeringTable : Obligations.ModeSteeringTable := by
  rintro dt w s u orders rfl
  refine ⟨fun not_off not_auto not_manual =>
      exec_modeSteering orders (modeSteering_other not_off not_auto not_manual),
    fun word off => exec_modeSteering orders ?_,
    fun word => ⟨fun tripped => exec_modeSteering orders (modeSteering_tripped word tripped),
      fun clear down => exec_modeSteering orders (modeSteering_noLane word clear down)⟩,
    fun clear up => ⟨fun word steers => exec_modeSteering orders ?_,
      fun word manual => exec_modeSteering orders ?_⟩,
    fun new o entry => ⟨enterSteeringClear new o (s.afterLink dt),
      exec_modeSteering orders (modeSteering_enters entry), ?_⟩⟩
  · rw [modeSteering_off word, if_pos off]
  · rw [modeSteering_auto word clear up, if_pos steers]
  · rw [modeSteering_manual word clear up, if_pos manual]
  · simp [enterSteeringClear_plates]

end Sys2Proof.Machine

/-! SUPPORT. A TABLE WRITE: the frame that passes the tests of R163, the words taken one by one up to
the first that is refused, and the statement about it (R165). -/

namespace Sys2Proof.Machine

/-! ## A frame that passes the tests (R163) -/

theorem Table.readOnly_eq_false {t : Table} (survey : t ≠ .trajectory) (rating : t ≠ .identification) :
    t.readOnly = false := by
  cases t with
  | trajectory => exact absurd rfl survey
  | identification => exact absurd rfl rating
  | _ => rfl

/-- A WRITE of one to eight words, as many as it announces, that lie within a table that can be
written, passes the tests. -/
theorem tableTests_write {id start count : Word} {words : List Word} {t : Table}
    (some_words : 1 ≤ count.toNat) (few : count.toNat ≤ 8) (full : words.length = count.toNat)
    (named : tableOf id.toNat = some t) (within : start.toNat + count.toNat ≤ t.size)
    (writable : t.readOnly = false) :
    tableTests true (id :: start :: count :: words) = .ok t := by
  have counted : ¬((id :: start :: count :: words).length < 3 ∨ count.toNat < 1 ∨ 8 < count.toNat ∨
      (id :: start :: count :: words).length ≠ 3 + count.toNat) := by
    simp only [List.length_cons]; omega
  refine (if_neg counted).trans ?_
  simp [named, Nat.not_lt.mpr within, writable]

/-- A WRITE that passes the tests, made while fewer than four REPLY frames wait. -/
theorem takeWrite_passing {id start count : Word} {words : List Word} {t : Table} {s : State}
    (room : s.replyCap = false) (passes : tableTests true (id :: start :: count :: words) = .ok t) :
    takeWrite (id :: start :: count :: words) s =
      replyTable writeCode (writeWords t start.toNat 0 words s).result
        (id :: start :: count :: words) (writeWords t start.toNat 0 words s).written []
        (writeWords t start.toNat 0 words s).state := by
  simp [takeWrite, room, passes]

/-- The arrival of a frame leaves the REPLY frames that wait. -/
theorem State.replyCap_afterFrame {dt : Nat} {s : State} (room : s.repliesWaiting < 4) :
    (s.afterFrame dt).replyCap = false :=
  decide_eq_false (Nat.not_le.mpr room)

/-- A TABLE_WRITE outside power-on reset takes its WRITE once its frame has arrived. -/
theorem exec_tableWrite {dt : Nat} {args : List Word} {s : State} (running : s.inReset = false) :
    exec (.tableWrite dt args) s = .next (takeWrite args (s.afterFrame dt)) :=
  live_running (f := fun u => takeWrite args (emptyArea .shaft u)) running

/-! ## The words of a WRITE (R165) -/

section
variable {t : Table} {index : Nat} {w : Word} {words : List Word} {s : State}

theorem writeWords_refused {n : Nat} {r : Result} (refused : s.checkWord t index w = some r) :
    writeWords t index n (w :: words) s = ⟨r, n, s⟩ := by
  simp [writeWords, refused]

theorem writeWords_taken {n : Nat} (taken : s.checkWord t index w = none) :
    writeWords t index n (w :: words) s =
      writeWords t (index + 1) (n + 1) words (putWord t index w s) := by
  simp [writeWords, taken]

/-- The words written before are only counted. -/
theorem writeWords_counts_on (n : Nat) :
    writeWords t index n words s =
      { writeWords t index 0 words s with
        written := n + (writeWords t index 0 words s).written } := by
  induction words generalizing index n s with
  | nil => rfl
  | cons w words ih =>
    cases check : s.checkWord t index w with
    | some r => simp only [writeWords_refused check, Nat.add_zero]
    | none =>
      rw [writeWords_taken check, writeWords_taken check, ih (n + 1), ih (0 + 1)]
      simp only [Nat.zero_add, Nat.add_assoc]

end

/-- What a WRITE of words from an index on comes to, with no word written before: it writes the words
up to the first that is refused. -/
structure WritesUpToRefusal (t : Table) (start : Nat) (words : List Word) (s : State)
    (out : WriteOutcome) : Prop where
  written_le : out.written ≤ words.length
  state_eq : out.state = putWords t start (words.take out.written) s
  accepts : ∀ k < out.written, ∃ w, words[k]? = some w ∧
    (putWords t start (words.take k) s).checkWord t (start + k) w = none
  all_ok : out.written = words.length → out.result = .ok
  refuses : out.written < words.length → ∃ w, words[out.written]? = some w ∧
    out.state.checkWord t (start + out.written) w = some out.result

namespace WritesUpToRefusal

variable {t : Table} {start : Nat} {w : Word} {words : List Word} {s : State}

theorem nil : WritesUpToRefusal t start [] s ⟨.ok, 0, s⟩ where
  written_le := Nat.le_refl 0
  state_eq := rfl
  accepts k hk := absurd hk k.not_lt_zero
  all_ok _ := rfl
  refuses short := absurd short (Nat.lt_irrefl 0)

/-- The first word is refused: none is written. -/
theorem stop {r : Result} (refused : s.checkWord t start w = some r) :
    WritesUpToRefusal t start (w :: words) s ⟨r, 0, s⟩ where
  written_le := Nat.zero_le _
  state_eq := rfl
  accepts k hk := absurd hk k.not_lt_zero
  all_ok none_left := absurd none_left (Nat.succ_ne_zero _).symm
  refuses _ := ⟨w, rfl, refused⟩

/-- The first word is taken: the others are written on the table that it leaves. -/
theorem cons {out : WriteOutcome} (taken : s.checkWord t start w = none)
    (rest : WritesUpToRefusal t (start + 1) words (putWord t start w s) out) :
    WritesUpToRefusal t start (w :: words) s { out with written := out.written + 1 } where
  written_le := Nat.succ_le_succ rest.written_le
  state_eq := rest.state_eq
  accepts
    | 0, _ => ⟨w, rfl, taken⟩
    | k + 1, hk => by
      have accepted := rest.accepts k (Nat.lt_of_succ_lt_succ hk)
      rwa [Nat.add_right_comm start 1] at accepted
  all_ok all := rest.all_ok (Nat.succ.inj all)
  refuses short := by
    have refused := rest.refuses (Nat.lt_of_succ_lt_succ short)
    rwa [Nat.add_right_comm start 1] at refused

end WritesUpToRefusal

theorem writeWords_writesUpToRefusal (t : Table) (start : Nat) (words : List Word) (s : State) :
    WritesUpToRefusal t start words s (writeWords t start 0 words s) := by
  induction words generalizing start s with
  | nil => exact .nil
  | cons w words ih =>
    cases check : s.checkWord t start w with
    | some r => rw [writeWords_refused check]; exact .stop check
    | none =>
      rw [writeWords_taken check, writeWords_counts_on, Nat.zero_add, Nat.add_comm 1]
      exact .cons check (ih (start + 1) (putWord t start w s))

/-- Settles O57: a frame that passes the tests is answered with what its words come to, which is the
induction along the words. -/
theorem tableWriteStopsAtRefusal : Obligations.TableWriteStopsAtRefusal := by
  refine ⟨?_, ?_⟩
  · rintro dt id start count words t s _ _ running rfl room some_words few full named within
      survey rating rfl
    have passes : tableTests true (id :: start :: count :: words) = .ok t :=
      tableTests_write some_words few full named within (Table.readOnly_eq_false survey rating)
    rw [exec_tableWrite running, takeWrite_passing (State.replyCap_afterFrame room) passes]
    rfl
  · rintro t start words s _ rfl
    obtain ⟨written_le, state_eq, accepts, all_ok, refuses⟩ :=
      writeWords_writesUpToRefusal t start words s
    exact ⟨written_le, state_eq, accepts, all_ok, refuses⟩

end Sys2Proof.Machine

/-! SUPPORT. What a step can do, said once: the event of each command as a function of the part, and the
three ways in which a step ends. Every law that steps keep is proved through `step_cases`. -/

namespace Sys2Proof.Machine

/-- The event of a command, `dt` having passed. -/
def workOf : Instr → State → State
  | .pickupRawChange _ g k level => fun s => s.onPickup g (s.rawChange k level)
  | .filterTimerExpiry _ g k => fun s =>
    expiry ((s.pickupOf g).track k).filter (fun u => u.onPickup g (u.filterExpired k)) s
  | .zeroWindowExpiry _ g => fun s =>
    expiry (s.pickupOf g).zeroWindow (fun u => u.onPickup g Pickup.zeroExpired) s
  | .driveUpdate _ g => fun s => expiry (s.loopOf g).timer (driveUpdate g) s
  | .sampleArrival _ l rx | .laneFrameArrival _ l rx => laneReception l rx
  | .silenceTimerExpiry _ l => fun s => expiry (s.laneOf l).silence (faultLane l) s
  | .freshnessExpiry _ l => fun s => expiry (s.laneOf l).freshTimer (freshnessExpired l) s
  | .depth _ items => fun s => depthFrame items (emptyArea .shaft s)
  | .depthFreshnessExpiry _ => fun s => expiry s.survey.timer depthExpired s
  | .steeringUpdate _ => fun s => expiry s.steering.timer steeringUpdate s
  | .slurryUpdate _ => fun s => expiry s.slurry.timer slurryUpdate s
  | .holdDelayExpiry _ => fun s => expiry s.slurry.holdDelay holdDelayExpired s
  | .phaseTimerExpiry _ => fun s => expiry s.slurry.phaseTimer phaseExpired s
  | .orderTimerExpiry _ => fun s => expiry s.orders.timer orderTimerExpired s
  | .reportTimerExpiry _ => fun s => expiry s.orders.reportTimer reportTimerExpired s
  | .keep _ _ => fun s => orderLinkStep (emptyArea .shaft s)
  | .driveStart _ args => fun s => takeOrder 2 args startDrives (emptyArea .shaft s)
  | .driveStop _ args => fun s => takeOrder 3 args (fun t => (.ok, stopBoth t)) (emptyArea .shaft s)
  | .speed _ args => fun s =>
    takeOrder 4 args (fun t =>
      (.ok, { t with drive := { t.drive with base := clampMag 4000 (signed (firstArg args)) } }))
      (emptyArea .shaft s)
  | .setClass _ args => fun s =>
    takeOrder 5 args (fun t => (.ok, t.onSelector fun x =>
      { x with operatorClass := (clamp 0 7 (signed (firstArg args))).toNat })) (emptyArea .shaft s)
  | .modeGearbox _ g args => fun s =>
    takeOrder 6 (gearTarget g :: args) (modeGearbox g (firstArg args)) (emptyArea .shaft s)
  | .modeSteering _ args => fun s =>
    takeOrder 6 (3 :: args) (modeSteering (firstArg args)) (emptyArea .shaft s)
  | .modePump _ args => fun s =>
    takeOrder 6 (4 :: args) (modePump (firstArg args)) (emptyArea .shaft s)
  | .pumpStart _ args => fun s => takeOrder 7 args startPump (emptyArea .shaft s)
  | .pumpStop _ args => fun s => takeOrder 8 args stopPump (emptyArea .shaft s)
  | .panelBegin _ args => fun s => takeOrder 9 args beginPanel (emptyArea .shaft s)
  | .panelEnd _ args => fun s =>
    takeOrder 10 args (fun t => (.ok, t.onSurvey closePanel)) (emptyArea .shaft s)
  | .setSpacing _ args => fun s => takeOrder 11 args (takeSpacing (firstArg args)) (emptyArea .shaft s)
  | .tripReset _ args => fun s => takeOrder 12 args (resetTrip (firstArg args)) (emptyArea .shaft s)
  | .restart _ args => fun s => takeRestart args (emptyArea .shaft s)
  | .tableRead _ args => fun s => takeRead args (emptyArea .shaft s)
  | .tableWrite _ args => fun s => takeWrite args (emptyArea .shaft s)
  | .operatorDemand _ dest items => fun s => operatorDemand dest items (emptyArea .shaft s)
  | .deadmanExpiry _ ch => fun s => expiry (s.demand ch).deadman (deadmanExpired ch) s
  | .refreshTimerExpiry _ l => fun s => expiry (s.laneOf l).refresh (refreshExpired l) s
  | .nodeDown _ f => fun s => nodeDown f (emptyArea .shaft s)
  | .shaftFrameDiscard _ _ => emptyArea .shaft
  | .transmissionStart _ p => startTransmission p
  | .transmissionComplete _ p => completeTransmission p
  | .powerOnReset _ straps => powerOn straps
  | .orderBadCode _ items => fun s =>
    let linked := orderLinkStep (emptyArea .shaft s)
    if linked.replyCap then linked else reply [firstArg items, wordOf Result.badCode.code] linked
  | .tableBadCode _ items => fun s => takeBadTable items (emptyArea .shaft s)
  | .modeBadTarget _ args => fun s => takeOrder 6 args (fun t => (.badArg, t)) (emptyArea .shaft s)
  | .rstnLow _ cause => resetLow cause

/-- The raw level of a pickup pin changes and nothing else does (R171). -/
def pinMoved (g : Gear) (k : Track) (level : Bool) (s : State) : State :=
  s.onPickup g fun p => p.onTrack k fun x => { x with raw := level }

/-- Every command but the end of power-on reset and a pin's change happens only to a part that runs. -/
theorem exec_eq_live {c : Instr} (s : State) (not_end : ∀ dt straps, c ≠ .powerOnReset dt straps)
    (not_pin : ∀ dt g k level, c ≠ .pickupRawChange dt g k level) :
    exec c s = live c.dt s (workOf c) := by
  cases c with
  | pickupRawChange dt g k level => exact absurd rfl (not_pin dt g k level)
  | powerOnReset dt straps => exact absurd rfl (not_end dt straps)
  | shaftFrameDiscard dt rx =>
    simp only [exec, execShaftFrameDiscard, emptyArea_storeChars]; rfl
  | _ => rfl

/-- A part that runs works the event of a command after its time. -/
theorem exec_running (c : Instr) {s : State} (h : s.inReset = false) :
    exec c s = .next (workOf c (s.elapse c.dt)) := by
  by_cases pin : ∃ dt g k level, c = .pickupRawChange dt g k level
  · obtain ⟨dt, g, k, level, rfl⟩ := pin
    simp [exec, execPickupRawChange, workOf, Instr.dt, h]
  by_cases power : ∃ dt straps, c = .powerOnReset dt straps
  · obtain ⟨dt, straps, rfl⟩ := power
    rfl
  rw [exec_eq_live s (fun dt straps e => power ⟨dt, straps, e⟩)
    fun dt g k level e => pin ⟨dt, g, k, level, e⟩, live_running h]

/-- In power-on reset a command other than its end and a pin's change only lets its time pass (R171). -/
theorem exec_inReset {c : Instr} {s : State} (h : s.inReset = true)
    (not_end : ∀ dt straps, c ≠ .powerOnReset dt straps)
    (not_pin : ∀ dt g k level, c ≠ .pickupRawChange dt g k level) :
    exec c s = .next (s.elapse c.dt) := by
  rw [exec_eq_live s not_end not_pin, live, if_pos h]

/-- Every command answers a next state: its time alone passes, a pin moves, or its event is worked. -/
theorem exec_cases (c : Instr) (s : State) :
    exec c s = .next (s.elapse c.dt) ∨
    (∃ g k level, exec c s = .next (pinMoved g k level (s.elapse c.dt))) ∨
    exec c s = .next (workOf c (s.elapse c.dt)) := by
  cases h : s.inReset
  · exact .inr (.inr (exec_running c h))
  by_cases pin : ∃ dt g k level, c = .pickupRawChange dt g k level
  · obtain ⟨dt, g, k, level, rfl⟩ := pin
    exact .inr (.inl ⟨g, k, level, by simp [exec, execPickupRawChange, pinMoved, Instr.dt, h]⟩)
  by_cases power : ∃ dt straps, c = .powerOnReset dt straps
  · obtain ⟨dt, straps, rfl⟩ := power
    exact .inr (.inr rfl)
  exact .inl (exec_inReset h (fun dt straps e => power ⟨dt, straps, e⟩)
    fun dt g k level e => pin ⟨dt, g, k, level, e⟩)

/-- The part after time has passed and the model's own fields have moved: every block is as it was. -/
structure SameBlocks (s t : State) : Prop where
  pickup : t.pickup = s.pickup
  drive : t.drive = s.drive
  selector : t.selector = s.selector
  survey : t.survey = s.survey
  steering : t.steering = s.steering
  slurry : t.slurry = s.slurry
  lanes : t.lanes = s.lanes
  path : t.path = s.path
  orders : t.orders = s.orders
  settings : t.settings = s.settings
  straps : t.straps = s.straps

theorem SameBlocks.refl (s : State) : SameBlocks s s :=
  ⟨rfl, rfl, rfl, rfl, rfl, rfl, rfl, rfl, rfl, rfl, rfl⟩

theorem SameBlocks.trans {s t u : State} (h : SameBlocks s t) (k : SameBlocks t u) :
    SameBlocks s u :=
  ⟨k.pickup.trans h.pickup, k.drive.trans h.drive, k.selector.trans h.selector,
    k.survey.trans h.survey, k.steering.trans h.steering, k.slurry.trans h.slurry,
    k.lanes.trans h.lanes, k.path.trans h.path, k.orders.trans h.orders,
    k.settings.trans h.settings, k.straps.trans h.straps⟩

theorem sameBlocks_elapse (dt : Nat) (s : State) : SameBlocks s (s.elapse dt) :=
  ⟨rfl, rfl, rfl, rfl, rfl, rfl, rfl, rfl, rfl, rfl, rfl⟩

theorem sameBlocks_pending (queue : List Instr) (s : State) :
    SameBlocks s { s with pending := queue } :=
  ⟨rfl, rfl, rfl, rfl, rfl, rfl, rfl, rfl, rfl, rfl, rfl⟩

theorem sameBlocks_drawnIdle (s : State) : SameBlocks s s.drawnIdle := by
  rw [State.drawnIdle]
  split
  · exact ⟨rfl, rfl, rfl, rfl, rfl, rfl, rfl, rfl, rfl, rfl, rfl⟩
  · exact .refl s

theorem sameBlocks_taking (c : Instr) (s : State) : SameBlocks s (s.taking c) := by
  rw [State.taking]
  split
  · exact ⟨rfl, rfl, rfl, rfl, rfl, rfl, rfl, rfl, rfl, rfl, rfl⟩
  · exact .refl s

/-- A step works at most one command: on the part as it stands but for the time, the queue and the draws,
the command leaves it so, moves a pin, or has its event worked. -/
theorem step_cases {s t : State} (h : step s = .next t) :
    SameBlocks s t ∨ ∃ u c, SameBlocks s u ∧ s.nextCommand = some c ∧
      ((∃ g k level, t = pinMoved g k level u) ∨ t = workOf c u) := by
  have executed : ∀ c u, SameBlocks s (u.elapse c.dt) → s.nextCommand = some c →
      exec c u = .next t → SameBlocks s t ∨ ∃ u c, SameBlocks s u ∧ s.nextCommand = some c ∧
        ((∃ g k level, t = pinMoved g k level u) ∨ t = workOf c u) := by
    intro c u same taken done
    obtain passed | ⟨g, k, level, moved⟩ | worked := exec_cases c u
    · rw [passed] at done; cases done; exact .inl same
    · rw [moved] at done; cases done; exact .inr ⟨_, c, same, taken, .inl ⟨g, k, level, rfl⟩⟩
    · rw [worked] at done; cases done; exact .inr ⟨_, c, same, taken, .inr rfl⟩
  unfold step at h
  split at h
  next c rest queue =>
    exact executed c _ ((sameBlocks_pending rest s).trans (sameBlocks_elapse c.dt _))
      (by simp [State.nextCommand, queue]) h
  next queue =>
    split at h
    next c idle =>
      exact executed c _ (((sameBlocks_drawnIdle s).trans (sameBlocks_taking c _)).trans
        (sameBlocks_elapse c.dt _)) (by simp [State.nextCommand, queue, idle]) h
    next => cases h; exact .inl (sameBlocks_elapse 1 s)

/-- A law of the blocks that every pin change and every event keeps is kept by every step. -/
theorem step_keeps {P : State → Prop} (blocks : ∀ {s t}, SameBlocks s t → P s → P t)
    (pin : ∀ g k level s, P s → P (pinMoved g k level s)) (work : ∀ c s, P s → P (workOf c s))
    {s t : State} (h : step s = .next t) (hs : P s) : P t := by
  obtain same | ⟨u, c, same, -, ⟨g, k, level, rfl⟩ | rfl⟩ := step_cases h
  · exact blocks same hs
  · exact pin g k level u (blocks same hs)
  · exact work c u (blocks same hs)

end Sys2Proof.Machine

/-! SUPPORT. The queue and the events that are due: from which port a command came, and the statements
about a step and about power-on reset (R134, R171; assumptions 1, 3, 13 and 15). -/

namespace Sys2Proof.Machine

/-! ## The port of an arrival -/

/-- The port on which the frame of a command arrives; the shaft link for every command but those of a
lane. -/
def portOf : Instr → Port
  | .sampleArrival _ l _ => .lane l
  | .laneFrameArrival _ l _ => .lane l
  | _ => .shaft

theorem portOf_orderCommand (dt : Nat) (items : List Word) : portOf (orderCommand dt items) = .shaft := by
  unfold orderCommand
  repeat' split
  all_goals rfl

theorem portOf_tableCommand (dt : Nat) (items : List Word) : portOf (tableCommand dt items) = .shaft := by
  unfold tableCommand
  repeat' split
  all_goals rfl

theorem portOf_shaftCommand (own : Nat) (route : List Word) (dt : Nat) (rx : Reception) :
    portOf (shaftCommand own route dt rx) = .shaft := by
  unfold shaftCommand
  repeat' split
  case h_2.isTrue.isTrue => exact portOf_orderCommand _ _
  case h_2.isTrue.isFalse.isTrue => exact portOf_tableCommand _ _
  all_goals rfl

theorem portOf_laneCommand (dt : Nat) (l : Lane) (rx : Reception) :
    portOf (laneCommand dt l rx) = .lane l := by
  unfold laneCommand
  split <;> rfl

/-- A frame that has ended arrives as a command of its own port. -/
theorem portOf_arrivalOn {s : State} {p : Port} {c : Instr} (h : s.arrivalOn p = some c) :
    portOf c = p := by
  obtain ⟨rx, -, rfl⟩ := Option.map_eq_some_iff.mp h
  cases p with
  | shaft => exact portOf_shaftCommand ..
  | lane l => exact portOf_laneCommand ..

theorem mem_allPorts (p : Port) : p ∈ allPorts := by
  rcases p with _ | l <;> [decide; cases l <;> decide]

/-! ## A due event is taken -/

theorem taking_none {s : State} {c : Instr} (h : ∀ p, s.arrivalOn p ≠ some c) : s.taking c = s := by
  have nowhere : (allPorts.find? fun p => decide (s.arrivalOn p = some c)) = none := by
    simp [h]
  rw [State.taking, nowhere]

/-- A command arrives on one port at most, so its frame leaves that port. -/
theorem taking_arrival {s : State} {c : Instr} {p : Port} (h : s.arrivalOn p = some c) :
    s.taking c = popArrival p s := by
  obtain ⟨q, found⟩ : ∃ q, (allPorts.find? fun p => decide (s.arrivalOn p = some c)) = some q :=
    Option.isSome_iff_exists.mp (List.find?_isSome.mpr ⟨p, mem_allPorts p, decide_eq_true h⟩)
  have on_q : s.arrivalOn q = some c := of_decide_eq_true (List.find?_some found :)
  rw [State.taking, found, ← portOf_arrivalOn h, ← portOf_arrivalOn on_q]

/-- The one event that is due is taken, and no free value is drawn for it. -/
theorem step_takes_due {s : State} {c : Instr} (queue : s.pending = []) (due : s.dueEvents = [c]) :
    step s = exec c (s.taking c) := by
  have idle : s.idleCommand = some c := by rw [State.idleCommand, due]
  have drawn : s.drawnIdle = s := by rw [State.drawnIdle, due]; rfl
  unfold step
  split
  next d rest other => simp [queue] at other
  next => simp only [idle, drawn]

theorem step_idle {s : State} (queue : s.pending = []) (due : s.dueEvents = []) :
    step s = .next (s.elapse 1) := by
  have idle : s.idleCommand = none := by rw [State.idleCommand, due]
  unfold step
  split
  next d rest other => simp [queue] at other
  next => simp only [idle]

theorem arrivalOn_due (s : State) (p : Port) : (s.arrivalOn p).toList ⊆ s.dueEvents := by
  intro c hc
  refine List.mem_append.mpr (.inr (List.mem_filterMap.mpr ⟨p, mem_allPorts p, ?_⟩))
  simpa using hc

/-- Settles O1: the front of the queue, the one event that is due, the frame that it takes from its port,
and one µs with nothing due. -/
theorem stepTakesFrontCommand : Obligations.StepTakesFrontCommand := by
  refine ⟨fun c rest s queue => ?_, fun s c => step_takes_due, fun s c => taking_none,
    fun s c p => taking_arrival, fun s p => ⟨arrivalOn_due s p, fun quiet => ?_,
      fun rx rest heard => ⟨?_, ?_⟩⟩, fun s => step_idle⟩
  · unfold step
    split
    next d more front => obtain ⟨rfl, rfl⟩ := List.cons.inj (queue.symm.trans front); rfl
    next empty => simp [queue] at empty
  · simp [State.arrivalOn, quiet]
  · rintro rfl
    rw [State.arrivalOn, heard]; rfl
  · rintro l rfl
    rw [State.arrivalOn, heard]; rfl

/-- Settles O2. -/
theorem resetHoldsThePart : Obligations.ResetHoldsThePart :=
  fun _ _ held not_end not_pin => exec_inReset held not_end not_pin

end Sys2Proof.Machine

/-! SUPPORT. What can happen to the frames of the part: the moves of the frame path, and that each of them
keeps the laws of the pool and of the queues (R129, R141 to R145). -/

namespace Sys2Proof.Machine

/-! ## The frames of a path -/

/-- The frame that a port's transmitter sends. -/
def FramePath.sending (x : FramePath) (p : Port) : Option Queued :=
  (x.tx.get p).map Transmission.entry

/-- The frames that hold a buffer, as `State.heldFrames` lists them. -/
def FramePath.held (x : FramePath) : List Queued :=
  allPorts.flatMap x.queue.get ++ allPorts.filterMap x.sending

/-- The frames that wait for a port and have a tag. -/
def FramePath.waitingCount (x : FramePath) (p : Port) (tag : Tag) : Nat :=
  (x.queue.get p).countP fun e => decide (e.tag = tag)

/-- The forwarded frames that wait for a port. -/
def FramePath.forwardedWaiting (x : FramePath) (p : Port) : Nat :=
  (x.queue.get p).countP fun e => e.tag.forwarded

/-- A port's transmitter sends a DEMAND frame. -/
def FramePath.sendsDemand (x : FramePath) (p : Port) : Bool :=
  (x.sending p).any fun e => decide (e.tag = .demand)

theorem State.heldFrames_eq (s : State) : s.heldFrames = s.path.held := rfl

theorem State.waitingCount_eq (s : State) (p : Port) (tag : Tag) :
    s.waitingCount p tag = s.path.waitingCount p tag := rfl

theorem State.forwardedWaiting_eq (s : State) (p : Port) :
    s.forwardedWaiting p = s.path.forwardedWaiting p := rfl

theorem State.demandInTransmission_eq (s : State) (l : Lane) :
    s.demandInTransmission l = s.path.sendsDemand (.lane l) := by
  unfold State.demandInTransmission State.txOf FramePath.sendsDemand FramePath.sending
  cases s.path.tx.get (.lane l) <;> rfl

theorem State.waiting_eq_false {s : State} {p : Port} {tag : Tag} :
    s.waiting p tag = false ↔ s.path.waitingCount p tag = 0 := by
  simp [State.waiting, FramePath.waitingCount, State.queueOf]

/-! ## The moves -/

/-- A frame may be placed for a port: a forwarded one by the share, the reserve and R143, an own one if
none of its sort stands in its way (R129, R142 to R144, R150). -/
inductive Room (x : FramePath) : Port → Tag → Frame → Prop
  | node (p : Port) (f : Frame) (share : x.forwardedWaiting p < forwardedShare p)
      (reserve : 10 < x.free.length) : Room x p .node f
  | sample (f : Frame) (share : x.forwardedWaiting .shaft < forwardedShare .shaft)
      (reserve : 10 < x.free.length)
      (first : (x.queue.get .shaft).any (Queued.sampleFrom f.src) = false) : Room x .shaft .sample f
  | reply (f : Frame) (few : x.waitingCount .shaft .reply < 4) : Room x .shaft .reply f
  | periodic (f : Frame) (none : x.waitingCount .shaft .periodic = 0) : Room x .shaft .periodic f
  | urgent (f : Frame) (none : x.waitingCount .shaft .urgent = 0) : Room x .shaft .urgent f
  | demand (l : Lane) (f : Frame) (channels : laneChannels l ≠ [])
      (none : x.waitingCount (.lane l) .demand = 0) (idle : x.sendsDemand (.lane l) = false) :
      Room x (.lane l) .demand f

/-- A change of a waiting frame in its place: the buffer, the tag and, of a SAMPLE, the node stay. -/
def KeepsPlace (g : Queued → Queued) : Prop :=
  ∀ e, (g e).buffer = e.buffer ∧ (g e).tag = e.tag ∧ ∀ src, (g e).sampleFrom src = e.sampleFrom src

/-- What can happen to the frames of the part. -/
inductive PathMove : FramePath → FramePath → Prop
  /-- No frame moves. -/
  | still {x y : FramePath} (free : y.free = x.free) (queue : y.queue = x.queue) (tx : y.tx = x.tx) :
      PathMove x y
  /-- A frame takes the head of the free list and goes to the tail of a queue. -/
  | place {x : FramePath} {p : Port} {tag : Tag} {f : Frame} {b : Nat} {rest : List Nat}
      (free : x.free = b :: rest) (room : Room x p tag f) :
      PathMove x { x with free := rest, queue := x.queue.set p (x.queue.get p ++ [⟨b, tag, f⟩]) }
  /-- Waiting frames are refreshed in their places. -/
  | refresh {x : FramePath} (p : Port) {g : Queued → Queued} (place : KeepsPlace g) :
      PathMove x { x with queue := x.queue.set p ((x.queue.get p).map g) }
  /-- A transmission starts. -/
  | start {x : FramePath} {p : Port} {e : Queued} (now : Nat) (idle : x.tx.get p = none)
      (waits : e ∈ x.queue.get p) :
      PathMove x { x with queue := x.queue.set p ((x.queue.get p).erase e)
                          tx := x.tx.set p (some ⟨e, now⟩) }
  /-- A transmission completes. -/
  | finish {x : FramePath} {p : Port} {t : Transmission} (sends : x.tx.get p = some t) :
      PathMove x { x with free := x.free ++ [t.entry.buffer], tx := x.tx.set p none }
  /-- Every frame is dropped, and its buffer returns (R149). -/
  | drop (x : FramePath) : PathMove x (restartPath x)
  /-- Every buffer is free again (R171). -/
  | clear {x y : FramePath} (free : y.free = allBuffers) (queue : y.queue = .all [])
      (tx : y.tx = .all none) : PathMove x y

/-- A run of moves. -/
abbrev PathMoves : FramePath → FramePath → Prop := Relation.ReflTransGen PathMove

/-! ## The frames port by port -/

/-- The frames that hold a buffer for a port. -/
def FramePath.heldAt (x : FramePath) (p : Port) : List Queued :=
  x.queue.get p ++ (x.sending p).toList

/-- The frames that hold a buffer for the other ports. -/
def FramePath.heldBeyond (x : FramePath) (p : Port) : List Queued :=
  (allPorts.erase p).flatMap x.queue.get ++ (allPorts.erase p).filterMap x.sending

theorem FramePath.held_perm (x : FramePath) (p : Port) :
    x.held.Perm (x.heldAt p ++ x.heldBeyond p) := by
  have split : allPorts.Perm (p :: allPorts.erase p) := List.perm_cons_erase (mem_allPorts p)
  have queues : (allPorts.flatMap x.queue.get).Perm
      (x.queue.get p ++ (allPorts.erase p).flatMap x.queue.get) := by
    simpa using split.flatMap_right x.queue.get
  have senders : (allPorts.filterMap x.sending).Perm
      ((x.sending p).toList ++ (allPorts.erase p).filterMap x.sending) := by
    refine (split.filterMap x.sending).trans (.of_eq ?_)
    rw [List.filterMap_cons]
    cases x.sending p <;> rfl
  refine (queues.append senders).trans ?_
  simp only [FramePath.heldAt, FramePath.heldBeyond, List.append_assoc]
  refine List.Perm.append_left _ ?_
  rw [← List.append_assoc, ← List.append_assoc]
  exact List.perm_append_comm.append_right _

/-- A move at one port leaves what the others hold. -/
theorem FramePath.heldBeyond_congr {x y : FramePath} {p : Port}
    (queue : ∀ q, q ≠ p → y.queue.get q = x.queue.get q)
    (tx : ∀ q, q ≠ p → y.tx.get q = x.tx.get q) : y.heldBeyond p = x.heldBeyond p := by
  have away : ∀ q ∈ allPorts.erase p, q ≠ p := fun q hq =>
    ((List.Nodup.mem_erase_iff (by decide)).mp hq).1
  unfold FramePath.heldBeyond FramePath.sending
  congr 1
  · exact List.flatMap_congr fun q hq => queue q (away q hq)
  · exact List.filterMap_congr fun q hq => by rw [tx q (away q hq)]

theorem FramePath.held_of_all {x : FramePath} (queue : x.queue = .all []) (tx : x.tx = .all none) :
    x.held = [] := by
  simp [FramePath.held, FramePath.sending, queue, tx]

/-- R149: the buffers in transmission return first, and then those that wait. -/
theorem restartPath_free (x : FramePath) :
    (restartPath x).free = x.free ++ ((allPorts.filterMap x.sending).map Queued.buffer ++
      (allPorts.flatMap x.queue.get).map Queued.buffer) := by
  rw [List.map_filterMap, List.map_flatMap, ← List.append_assoc]
  simp only [restartPath, FramePath.sending, Option.map_map]
  rfl

/-! ## The laws as laws of the path -/

/-- R141, as `State.poolLaw` says it. -/
def FramePath.poolLaw (x : FramePath) : Prop :=
  (x.free ++ x.held.map Queued.buffer).Perm allBuffers

/-- R141, as `State.forwardedLaw` says it. -/
def FramePath.forwardedLaw (x : FramePath) : Prop :=
  (x.held.countP fun e => e.tag.forwarded) ≤ 30

/-- The free buffers and the held frames are 40 together. -/
theorem FramePath.poolLaw.length {x : FramePath} (h : x.poolLaw) :
    x.free.length + x.held.length = 40 := by
  have counted := List.Perm.length_eq h
  rwa [List.length_append, List.length_map] at counted

section
variable {x y : FramePath} {p : Port}

/-- The laws of the pool after a move at one port, from what the move does to that port's frames. -/
theorem FramePath.poolLaw_of_heldAt (law : x.poolLaw)
    (queue : ∀ q, q ≠ p → y.queue.get q = x.queue.get q)
    (tx : ∀ q, q ≠ p → y.tx.get q = x.tx.get q)
    (moved : (y.free ++ (y.heldAt p).map Queued.buffer).Perm
      (x.free ++ (x.heldAt p).map Queued.buffer)) : y.poolLaw := by
  have beyond := FramePath.heldBeyond_congr queue tx
  have buffers : ∀ z : FramePath, (z.free ++ z.held.map Queued.buffer).Perm
      (z.free ++ (z.heldAt p).map Queued.buffer ++ (z.heldBeyond p).map Queued.buffer) := fun z => by
    rw [List.append_assoc, ← List.map_append]
    exact ((z.held_perm p).map _).append_left _
  refine (buffers y).trans (.trans ?_ ((buffers x).symm.trans law))
  rw [beyond]
  exact moved.append_right _

theorem FramePath.forwardedLaw_of_heldAt (law : x.forwardedLaw)
    (queue : ∀ q, q ≠ p → y.queue.get q = x.queue.get q)
    (tx : ∀ q, q ≠ p → y.tx.get q = x.tx.get q)
    (moved : (y.heldAt p).countP (fun e => e.tag.forwarded) ≤
      (x.heldAt p).countP fun e => e.tag.forwarded) : y.forwardedLaw := by
  have beyond := FramePath.heldBeyond_congr queue tx
  have counted : ∀ z : FramePath, z.held.countP (fun e => e.tag.forwarded) =
      (z.heldAt p).countP (fun e => e.tag.forwarded) +
        (z.heldBeyond p).countP fun e => e.tag.forwarded := fun z => by
    rw [(z.held_perm p).countP_eq, List.countP_append]
  have before : x.held.countP (fun e => e.tag.forwarded) ≤ 30 := law
  unfold FramePath.forwardedLaw
  rw [counted x] at before
  rw [counted y, beyond]
  omega

end

theorem Room.forwarded_reserve {x : FramePath} {p : Port} {tag : Tag} {f : Frame}
    (room : Room x p tag f) (h : tag.forwarded = true) : 10 < x.free.length := by
  cases room with
  | node _ _ _ reserve => exact reserve
  | sample _ _ reserve _ => exact reserve
  | reply | periodic | urgent | demand => simp [Tag.forwarded] at h

/-- Each move keeps every buffer on the free list or with exactly one frame. -/
theorem PathMove.poolLaw {x y : FramePath} (move : PathMove x y) (law : x.poolLaw) : y.poolLaw := by
  cases move with
  | still free queue tx =>
    unfold FramePath.poolLaw FramePath.held FramePath.sending at *
    rwa [free, queue, tx]
  | @place p tag f b rest free room =>
    refine FramePath.poolLaw_of_heldAt (p := p) law (fun q hq => by simp [hq]) (fun q _ => rfl) ?_
    simp only [FramePath.heldAt, FramePath.sending, PerPort.get_set, if_true, free, List.map_append,
      List.map_cons, List.append_assoc, List.cons_append, List.nil_append]
    rw [← List.append_assoc]
    exact List.perm_middle.trans (.of_eq (by simp))
  | refresh p place =>
    refine FramePath.poolLaw_of_heldAt (p := p) law (fun q hq => by simp [hq]) (fun q _ => rfl)
      (.of_eq ?_)
    simp [FramePath.heldAt, FramePath.sending, (place _).1]
  | @start p e now idle waits =>
    refine FramePath.poolLaw_of_heldAt (p := p) law (fun q hq => by simp [hq])
      (fun q hq => by simp [hq]) (List.Perm.append_left _ ?_)
    simp only [FramePath.heldAt, FramePath.sending, PerPort.get_set, if_true, idle, Option.map_some,
      Option.map_none, Option.toList_some, Option.toList_none, List.append_nil]
    exact (List.perm_append_singleton ..).trans (List.perm_cons_erase waits).symm |>.map _
  | @finish p t sends =>
    refine FramePath.poolLaw_of_heldAt (p := p) law (fun q _ => rfl) (fun q hq => by simp [hq]) ?_
    simp only [FramePath.heldAt, FramePath.sending, PerPort.get_set, if_true, sends, Option.map_some,
      Option.map_none, Option.toList_some, Option.toList_none, List.append_nil, List.map_append,
      List.map_cons, List.map_nil, List.append_assoc]
    exact List.perm_append_comm.append_left _
  | drop =>
    unfold FramePath.poolLaw
    rw [FramePath.held_of_all rfl rfl, List.map_nil, List.append_nil, restartPath_free]
    rw [FramePath.poolLaw, FramePath.held, List.map_append] at law
    exact (List.perm_append_comm.append_left _).trans law
  | clear free queue tx =>
    unfold FramePath.poolLaw
    rw [FramePath.held_of_all queue tx, free]
    simp

/-- Each move keeps the forwarded frames to 30 buffers: one is placed only with more than 10 free. -/
theorem PathMove.forwardedLaw {x y : FramePath} (move : PathMove x y) (pool : x.poolLaw)
    (law : x.forwardedLaw) : y.forwardedLaw := by
  cases move with
  | still free queue tx =>
    unfold FramePath.forwardedLaw FramePath.held FramePath.sending at *
    rwa [queue, tx]
  | @place p tag f b rest free room =>
    cases forwarded : tag.forwarded
    · refine FramePath.forwardedLaw_of_heldAt (p := p) law (fun q hq => by simp [hq])
        (fun q _ => rfl) ?_
      simp [FramePath.heldAt, FramePath.sending, forwarded]
    · have reserve := room.forwarded_reserve forwarded
      have after := (PathMove.place free room).poolLaw pool |>.length
      rw [free, List.length_cons] at reserve
      refine List.countP_le_length.trans ?_
      simp only at after
      omega
  | refresh p place =>
    refine FramePath.forwardedLaw_of_heldAt (p := p) law (fun q hq => by simp [hq])
      (fun q _ => rfl) (le_of_eq ?_)
    simp [FramePath.heldAt, FramePath.sending, List.countP_map, Function.comp_def, (place _).2.1]
  | @start p e now idle waits =>
    refine FramePath.forwardedLaw_of_heldAt (p := p) law (fun q hq => by simp [hq])
      (fun q hq => by simp [hq]) (le_of_eq ?_)
    simp only [FramePath.heldAt, FramePath.sending, PerPort.get_set, if_true, idle, Option.map_some,
      Option.map_none, Option.toList_some, Option.toList_none, List.append_nil]
    exact ((List.perm_append_singleton ..).trans (List.perm_cons_erase waits).symm).countP_eq _
  | @finish p t sends =>
    refine FramePath.forwardedLaw_of_heldAt (p := p) law (fun q _ => rfl) (fun q hq => by simp [hq]) ?_
    simp [FramePath.heldAt, FramePath.sending]
  | drop =>
    unfold FramePath.forwardedLaw
    rw [FramePath.held_of_all rfl rfl]
    simp
  | clear free queue tx =>
    unfold FramePath.forwardedLaw
    rw [FramePath.held_of_all queue tx]
    simp

end Sys2Proof.Machine

/-! SUPPORT. Each move of the frame path keeps the law of the upper queue and the law of the own frames
(R129, R138, R143, R144), and what the four laws leave for an own frame. -/

namespace Sys2Proof.Machine

/-! ## The law of the upper queue (R143) -/

/-- The sorts of frames above of which only so many may wait, with their numbers. -/
inductive Limited : (Queued → Bool) → Nat → Prop
  | sample (src : Byte) : Limited (Queued.sampleFrom src) 1
  | periodic : Limited (fun e => decide (e.tag = .periodic)) 1
  | urgent : Limited (fun e => decide (e.tag = .urgent)) 1
  | reply : Limited (fun e => decide (e.tag = .reply)) 4

/-- R143, as `State.upperQueueLaw` says it. -/
def FramePath.upperLaw (x : FramePath) : Prop :=
  ∀ ⦃sort : Queued → Bool⦄ ⦃n : Nat⦄, Limited sort n → (x.queue.get .shaft).countP sort ≤ n

theorem State.upperQueueLaw_iff (s : State) : s.upperQueueLaw ↔ s.path.upperLaw := by
  constructor
  · rintro ⟨sample, periodic, urgent, reply⟩ sort n limited
    cases limited with
    | sample src => exact sample src
    | periodic => exact periodic
    | urgent => exact urgent
    | reply => exact reply
  · exact fun law => ⟨fun src => law (.sample src), law .periodic, law .urgent, law .reply⟩

/-- A sort that a refreshed frame keeps: it is told by the tag and, of a SAMPLE, the node. -/
theorem Limited.keeps {sort : Queued → Bool} {n : Nat} (limited : Limited sort n)
    {g : Queued → Queued} (place : KeepsPlace g) (e : Queued) : sort (g e) = sort e := by
  obtain ⟨-, tag, sample⟩ := place e
  cases limited with
  | sample src => exact sample src
  | periodic | urgent | reply => simp only [tag]

/-- With room for a frame, its sort is below its number. -/
theorem Room.below_limit {x : FramePath} {tag : Tag} {f : Frame} {b n : Nat} {sort : Queued → Bool}
    (room : Room x .shaft tag f) (limited : Limited sort n) (belongs : sort ⟨b, tag, f⟩ = true) :
    (x.queue.get .shaft).countP sort < n := by
  cases limited with
  | sample src =>
    obtain ⟨rfl, rfl⟩ : tag = .sample ∧ f.src = src := of_decide_eq_true belongs
    cases room with
    | sample _ _ _ first =>
      rw [List.countP_eq_zero.mpr fun e he => by simpa using List.any_eq_false.mp first e he]
      omega
  | periodic =>
    obtain rfl : tag = .periodic := of_decide_eq_true belongs
    cases room with | periodic _ none => exact Nat.lt_one_iff.mpr none
  | urgent =>
    obtain rfl : tag = .urgent := of_decide_eq_true belongs
    cases room with | urgent _ none => exact Nat.lt_one_iff.mpr none
  | reply =>
    obtain rfl : tag = .reply := of_decide_eq_true belongs
    cases room with | reply _ few => exact few

theorem PathMove.upperLaw {x y : FramePath} (move : PathMove x y) (law : x.upperLaw) :
    y.upperLaw := by
  intro sort n limited
  have before := law limited
  cases move with
  | still free queue tx => rwa [queue]
  | @place p tag f b rest free room =>
    obtain rfl | other := eq_or_ne p .shaft
    · simp only [PerPort.get_set, if_true, List.countP_append, List.countP_singleton]
      split
      next belongs => exact room.below_limit limited belongs
      next => exact before
    · rwa [PerPort.get_set, if_neg other.symm]
  | refresh p place =>
    rw [PerPort.get_set]
    split
    next here =>
      subst here
      rw [List.countP_map, Function.comp_def]
      simpa only [limited.keeps place] using before
    next => exact before
  | start now idle waits =>
    rw [PerPort.get_set]
    split
    next here => subst here; exact (List.erase_sublist.countP_le).trans before
    next => exact before
  | finish sends => exact before
  | drop => exact Nat.zero_le n
  | clear free queue tx => rw [queue]; exact Nat.zero_le n

/-! ## The law of the own frames (R129, R138, R142, R144) -/

/-- R129, R138, R142, R144, as `State.ownFrameLaw` says it. -/
structure FramePath.ownLaw (x : FramePath) : Prop where
  demands : ∀ l, x.waitingCount (.lane l) .demand + (x.sendsDemand (.lane l)).toNat ≤ 1
  waits : ∀ p, ∀ e ∈ x.queue.get p, tagOf p e.tag = true
  sends : ∀ p e, x.sending p = some e → tagOf p e.tag = true
  share : ∀ p, x.forwardedWaiting p ≤ forwardedShare p

theorem State.demandsSending_eq (s : State) (l : Lane) :
    s.demandsSending l = (s.path.sendsDemand (.lane l)).toNat := by
  rw [State.demandsSending, State.demandInTransmission_eq]
  cases s.path.sendsDemand (.lane l) <;> rfl

theorem State.ownFrameLaw_iff (s : State) : s.ownFrameLaw ↔ s.path.ownLaw := by
  constructor
  · rintro ⟨demands, waits, sends, share⟩
    refine ⟨fun l => s.demandsSending_eq l ▸ demands l, waits, fun p e sent => ?_, share⟩
    obtain ⟨t, transmits, rfl⟩ := Option.map_eq_some_iff.mp sent
    exact sends p t transmits
  · rintro ⟨demands, waits, sends, share⟩
    refine ⟨fun l => (s.demandsSending_eq l).symm ▸ demands l, waits, fun p t transmits => ?_, share⟩
    exact sends p _ (Option.map_eq_some_iff.mpr ⟨t, transmits, rfl⟩)

theorem Room.tagOf {x : FramePath} {p : Port} {tag : Tag} {f : Frame} (room : Room x p tag f) :
    tagOf p tag = true := by
  cases room with
  | node => cases p <;> rfl
  | demand l _ channels => simp [Machine.tagOf, channels]
  | sample | reply | periodic | urgent => rfl

theorem Room.share {x : FramePath} {p : Port} {tag : Tag} {f : Frame} (room : Room x p tag f)
    (forwarded : tag.forwarded = true) : x.forwardedWaiting p < forwardedShare p := by
  cases room with
  | node _ _ share => exact share
  | sample _ share => exact share
  | reply | periodic | urgent | demand => simp [Tag.forwarded] at forwarded

theorem Room.demand_first {x : FramePath} {p : Port} {f : Frame} (room : Room x p .demand f) :
    x.waitingCount p .demand = 0 ∧ x.sendsDemand p = false := by
  cases room with | demand l _ _ none idle => exact ⟨none, idle⟩

theorem FramePath.ownLaw_of_empty {x : FramePath} (queue : x.queue = .all []) (tx : x.tx = .all none) :
    x.ownLaw := by
  refine ⟨fun l => ?_, fun p e he => ?_, fun p e he => ?_, fun p => ?_⟩
  · simp [FramePath.waitingCount, FramePath.sendsDemand, FramePath.sending, queue, tx]
  · simp [queue] at he
  · simp [FramePath.sending, tx] at he
  · simp [FramePath.forwardedWaiting, queue]

/-- Of a frame that leaves its queue for the transmitter, a DEMAND is counted once before and after. -/
theorem demands_erase {q : List Queued} {e : Queued} (waits : e ∈ q) :
    (q.erase e).countP (fun x => decide (x.tag = .demand)) + (decide (e.tag = .demand)).toNat =
      q.countP fun x => decide (x.tag = .demand) := by
  rw [(List.perm_cons_erase waits).countP_eq, List.countP_cons]
  cases decide (e.tag = .demand) <;> rfl

theorem PathMove.ownLaw {x y : FramePath} (move : PathMove x y) (law : x.ownLaw) : y.ownLaw := by
  obtain ⟨demands, waits, sends, share⟩ := law
  cases move with
  | still free queue tx =>
    constructor <;>
      simp only [FramePath.waitingCount, FramePath.sendsDemand, FramePath.sending,
        FramePath.forwardedWaiting, queue, tx] <;> assumption
  | @place p tag f b rest free room =>
    refine ⟨fun l => ?_, fun q e he => ?_, sends, fun q => ?_⟩
    · have before := demands l
      simp only [FramePath.waitingCount, FramePath.sendsDemand, FramePath.sending,
        PerPort.get_set] at before ⊢
      split
      next here =>
        subst here
        rw [List.countP_append, List.countP_singleton]
        split
        next belongs =>
          obtain rfl : tag = .demand := of_decide_eq_true belongs
          obtain ⟨none, idle⟩ := room.demand_first
          simp only [FramePath.waitingCount, FramePath.sendsDemand, FramePath.sending] at none idle
          rw [none, idle]; rfl
        next => exact before
      next => exact before
    · simp only [PerPort.get_set] at he
      split at he
      next here =>
        subst here
        obtain old | rfl := List.mem_append.mp he |>.imp_right List.mem_singleton.mp
        · exact waits _ e old
        · exact room.tagOf
      next => exact waits q e he
    · simp only [FramePath.forwardedWaiting, PerPort.get_set]
      split
      next here =>
        subst here
        rw [List.countP_append, List.countP_singleton]
        split
        next forwarded => exact room.share forwarded
        next => exact share _
      next => exact share q
  | @refresh p g place =>
    have counted : ∀ test : Tag → Bool, ∀ q, (((x.queue.set p ((x.queue.get p).map g)).get q).countP
        fun e => test e.tag) = (x.queue.get q).countP fun e => test e.tag := by
      intro test q
      rw [PerPort.get_set]
      split
      next here => subst here; simp [List.countP_map, Function.comp_def, (place _).2.1]
      next => rfl
    refine ⟨fun l => ?_, fun q e he => ?_, sends, fun q => ?_⟩
    · exact (congrArg (· + _) (counted (fun t => decide (t = .demand)) (.lane l))).trans_le (demands l)
    · simp only [PerPort.get_set] at he
      split at he
      next here =>
        subst here
        obtain ⟨old, hold, rfl⟩ := List.mem_map.mp he
        rw [(place old).2.1]; exact waits _ old hold
      next => exact waits q e he
    · exact (counted Tag.forwarded q).trans_le (share q)
  | @start p e now idle there =>
    refine ⟨fun l => ?_, fun q d hd => ?_, fun q d hd => ?_, fun q => ?_⟩
    · have before := demands l
      simp only [FramePath.waitingCount, FramePath.sendsDemand, FramePath.sending,
        PerPort.get_set] at before ⊢
      split
      next here =>
        subst here
        rw [← demands_erase there, idle] at before
        exact before
      next => exact before
    · simp only [PerPort.get_set] at hd
      split at hd
      next here => subst here; exact waits _ d (List.mem_of_mem_erase hd)
      next => exact waits q d hd
    · simp only [FramePath.sending, PerPort.get_set] at hd
      split at hd
      next here => subst here; cases hd; exact waits _ _ there
      next => exact sends q d hd
    · simp only [FramePath.forwardedWaiting, PerPort.get_set]
      split
      next here => subst here; exact (List.erase_sublist.countP_le).trans (share _)
      next => exact share q
  | @finish p t sent =>
    refine ⟨fun l => ?_, waits, fun q d hd => ?_, share⟩
    · have before := demands l
      simp only [FramePath.waitingCount, FramePath.sendsDemand, FramePath.sending,
        PerPort.get_set] at before ⊢
      split
      next => exact (Nat.le_add_right _ _).trans before
      next => exact before
    · simp only [FramePath.sending, PerPort.get_set] at hd
      split at hd
      next => simp at hd
      next => exact sends q d hd
  | drop => exact FramePath.ownLaw_of_empty rfl rfl
  | clear free queue tx => exact FramePath.ownLaw_of_empty queue tx

end Sys2Proof.Machine

/-! SUPPORT. The buffers counted: how many frames of the part's own hold one, what that leaves free, and
the statement about it (R144). -/

namespace Sys2Proof.Machine

/-- A frame of the part's own. -/
def Queued.own (e : Queued) : Bool := !e.tag.forwarded

theorem FramePath.held_countP (x : FramePath) (test : Queued → Bool) :
    x.held.countP test = (allPorts.map fun p => (x.heldAt p).countP test).sum := by
  have senders : allPorts.filterMap x.sending = allPorts.flatMap fun p => (x.sending p).toList :=
    List.filterMap_eq_flatMap_toList ..
  rw [FramePath.held, List.countP_append, senders, List.countP_flatMap, List.countP_flatMap,
    ← List.sum_map_add]
  simp only [FramePath.heldAt, List.countP_append, Function.comp_apply]

/-- Own frames that wait above are REPLY and REPORT frames. -/
theorem FramePath.ownLaw.own_waiting_shaft {x : FramePath} (law : x.ownLaw) :
    (x.queue.get .shaft).countP Queued.own = x.waitingCount .shaft .reply +
      x.waitingCount .shaft .periodic + x.waitingCount .shaft .urgent := by
  have waiting : ∀ q : List Queued, (∀ e ∈ q, tagOf .shaft e.tag = true) → q.countP Queued.own =
      q.countP (fun e => decide (e.tag = .reply)) + q.countP (fun e => decide (e.tag = .periodic)) +
        q.countP fun e => decide (e.tag = .urgent) := by
    intro q belongs
    induction q with
    | nil => rfl
    | cons e q ih =>
      obtain ⟨here, later⟩ := List.forall_mem_cons.mp belongs
      simp only [List.countP_cons, ih later]
      cases tag : e.tag <;> simp [Queued.own, Tag.forwarded, tagOf, tag] at here ⊢ <;> omega
  exact waiting _ (law.waits .shaft)

theorem tagOf_lane_own {l : Lane} {e : Queued} (belongs : tagOf (.lane l) e.tag = true) :
    e.own = decide (e.tag = .demand) := by
  cases tag : e.tag <;> simp [Queued.own, Tag.forwarded, tagOf, tag] at belongs ⊢

/-- The own frames that wait for a lane are its DEMAND frames. -/
theorem FramePath.ownLaw.own_waiting_lane {x : FramePath} (law : x.ownLaw) (l : Lane) :
    (x.queue.get (.lane l)).countP Queued.own = x.waitingCount (.lane l) .demand :=
  List.countP_congr fun e he => by rw [tagOf_lane_own (law.waits _ e he)]

/-- Besides the own frames that wait above, one may be in transmission. -/
theorem FramePath.ownLaw.own_shaft {x : FramePath} (law : x.ownLaw) :
    (x.heldAt .shaft).countP Queued.own ≤ x.waitingCount .shaft .reply +
      x.waitingCount .shaft .periodic + x.waitingCount .shaft .urgent + 1 := by
  have sending : (x.sending .shaft).toList.countP Queued.own ≤ 1 :=
    List.countP_le_length.trans (by cases x.sending .shaft <;> simp)
  rw [FramePath.heldAt, List.countP_append, law.own_waiting_shaft]
  exact Nat.add_le_add_left sending _

/-- The own frames of a lane are its DEMAND frames, waiting and in transmission. -/
theorem FramePath.ownLaw.own_lane {x : FramePath} (law : x.ownLaw) (l : Lane) :
    (x.heldAt (.lane l)).countP Queued.own =
      x.waitingCount (.lane l) .demand + (x.sendsDemand (.lane l)).toNat := by
  have sending : (x.sending (.lane l)).toList.countP Queued.own =
      (x.sendsDemand (.lane l)).toNat := by
    unfold FramePath.sendsDemand
    cases sent : x.sending (.lane l) with
    | none => rfl
    | some e =>
      simp only [Option.toList_some, List.countP_singleton, Option.any_some,
        tagOf_lane_own (law.sends _ e sent)]
      cases decide (e.tag = .demand) <;> rfl
  rw [FramePath.heldAt, List.countP_append, law.own_waiting_lane, sending]

/-- A lane without channels holds no own frame. -/
theorem FramePath.ownLaw.own_attitude {x : FramePath} (law : x.ownLaw) :
    (x.heldAt (.lane .attitude)).countP Queued.own = 0 := by
  have none_own : ∀ e : Queued, tagOf (.lane .attitude) e.tag = true → e.own = false := by
    intro e belongs
    cases tag : e.tag <;> simp [Queued.own, Tag.forwarded, tagOf, laneChannels, tag] at belongs ⊢
  refine List.countP_eq_zero.mpr fun e he => ?_
  obtain waits | sent := List.mem_append.mp he
  · simp [none_own e (law.waits _ e waits)]
  · simp [none_own e (law.sends _ e (by simpa using sent))]

/-- With no buffer free, the forwarded frames hold at most 30 and so the own ones at least 10. -/
theorem FramePath.poolLaw.own_of_full {x : FramePath} (pool : x.poolLaw) (forwarded : x.forwardedLaw)
    (full : x.free = []) : 10 ≤ x.held.countP Queued.own := by
  have total := pool.length
  have split := List.length_eq_countP_add_countP (fun e : Queued => e.tag.forwarded) (l := x.held)
  have own : x.held.countP Queued.own = x.held.countP fun e => decide ¬e.tag.forwarded = true :=
    List.countP_congr fun e _ => by simp [Queued.own]
  unfold FramePath.forwardedLaw at forwarded
  rw [full, List.length_nil] at total
  omega

/-- R144: at the most, own frames are four REPLY frames, a REPORT of either sort and the frame in
transmission above, and one DEMAND on each of three lanes, ten together; where one of them is missing,
a buffer is free. -/
theorem FramePath.free_of_missing {x : FramePath} (pool : x.poolLaw) (forwarded : x.forwardedLaw)
    (upper : x.upperLaw) (own : x.ownLaw)
    (missing : (∃ l, laneChannels l ≠ [] ∧
        x.waitingCount (.lane l) .demand + (x.sendsDemand (.lane l)).toNat = 0) ∨
      x.waitingCount .shaft .reply < 4 ∨ x.waitingCount .shaft .periodic = 0 ∨
      x.waitingCount .shaft .urgent = 0) : x.free ≠ [] := by
  intro full
  have needed := pool.own_of_full forwarded full
  have counted : x.held.countP Queued.own = (x.heldAt .shaft).countP Queued.own +
      ((x.heldAt (.lane .drive)).countP Queued.own + ((x.heldAt (.lane .steer)).countP Queued.own +
        ((x.heldAt (.lane .attitude)).countP Queued.own +
          (x.heldAt (.lane .slurry)).countP Queued.own))) := x.held_countP _
  have shaft := own.own_shaft
  have replies : x.waitingCount .shaft .reply ≤ 4 := upper .reply
  have periodic : x.waitingCount .shaft .periodic ≤ 1 := upper .periodic
  have urgent : x.waitingCount .shaft .urgent ≤ 1 := upper .urgent
  have drive := own.demands .drive
  have steer := own.demands .steer
  have slurry := own.demands .slurry
  rw [own.own_attitude, own.own_lane, own.own_lane, own.own_lane] at counted
  obtain ⟨l, channels, demand⟩ | few := missing
  · cases l with
    | attitude => exact channels rfl
    | drive | steer | slurry => omega
  · omega

/-- The frames that wait for a port are forwarded or own. -/
theorem FramePath.waiting_length (x : FramePath) (p : Port) :
    (x.queue.get p).length ≤ x.forwardedWaiting p + (x.queue.get p).countP Queued.own := by
  refine (List.length_eq_countP_add_countP (fun e : Queued => e.tag.forwarded)).trans_le ?_
  refine Nat.add_le_add_left (le_of_eq (List.countP_congr fun e _ => ?_)) _
  simp [Queued.own]

/-- Settles O8: the count of R144, and the shares with the own frames of each queue. -/
theorem ownFrameFindsBuffer : Obligations.OwnFrameFindsBuffer := by
  intro s pool forwarded upper own
  have upper := s.upperQueueLaw_iff.mp upper
  have own := s.ownFrameLaw_iff.mp own
  have free := FramePath.free_of_missing (x := s.path) pool forwarded upper own
  refine ⟨fun l channels none => free (.inl ⟨l, channels, s.demandsSending_eq l ▸ none⟩),
    fun few => free (.inr (.inl few)), fun none => free (.inr (.inr (.inl none))),
    fun none => free (.inr (.inr (.inr none))), ?_, fun l => ?_⟩
  · have length := s.path.waiting_length .shaft
    have share : s.path.forwardedWaiting .shaft ≤ 18 := own.share .shaft
    have replies : s.path.waitingCount .shaft .reply ≤ 4 := upper .reply
    have periodic : s.path.waitingCount .shaft .periodic ≤ 1 := upper .periodic
    have urgent : s.path.waitingCount .shaft .urgent ≤ 1 := upper .urgent
    rw [own.own_waiting_shaft] at length
    unfold State.queueOf
    omega
  · have length := s.path.waiting_length (.lane l)
    have share : s.path.forwardedWaiting (.lane l) ≤ 5 := own.share (.lane l)
    have demands := own.demands l
    rw [own.own_waiting_lane] at length
    unfold State.queueOf
    omega

end Sys2Proof.Machine

/-! SUPPORT. What regulation, interlocks, trips and own frames leave: the pickups, the survey, the class
selector, the tables and the cut factor stand, and the frames of the part only move as they may. Said
once for each shared operation; the laws of the pool, of the queues, of the tables and of the
measurements follow from it. -/

namespace Sys2Proof.Machine

/-- What is left by an operation that regulates, trips or sends: everything measured and written, and of
the frames only moves. -/
structure Regulated (s t : State) : Prop where
  pickup : t.pickup = s.pickup
  selector : t.selector = s.selector
  survey : t.survey = s.survey
  settings : t.settings = s.settings
  straps : t.straps = s.straps
  envelope : t.lanes.envelope = s.lanes.envelope
  route : t.path.route = s.path.route
  cut : t.slurry.cut = s.slurry.cut
  moves : PathMoves s.path t.path

namespace Regulated

theorem refl (s : State) : Regulated s s := ⟨rfl, rfl, rfl, rfl, rfl, rfl, rfl, rfl, .refl⟩

theorem trans {s t u : State} (h : Regulated s t) (k : Regulated t u) : Regulated s u :=
  ⟨k.pickup.trans h.pickup, k.selector.trans h.selector, k.survey.trans h.survey,
    k.settings.trans h.settings, k.straps.trans h.straps, k.envelope.trans h.envelope,
    k.route.trans h.route, k.cut.trans h.cut, h.moves.trans k.moves⟩

theorem foldl {α : Type} {g : State → α → State} (hg : ∀ t a, Regulated t (g t a)) (as : List α)
    (s : State) : Regulated s (as.foldl g s) := by
  induction as generalizing s with
  | nil => exact refl s
  | cons a as ih => exact (hg s a).trans (ih (g s a))

/-! ### Changes of one block -/

theorem onLoop (g : Gear) (f : DriveLoop → DriveLoop) (s : State) : Regulated s (s.onLoop g f) :=
  ⟨rfl, rfl, rfl, rfl, rfl, rfl, rfl, rfl, .refl⟩

theorem onSteering (f : Steering → Steering) (s : State) : Regulated s (s.onSteering f) :=
  ⟨rfl, rfl, rfl, rfl, rfl, rfl, rfl, rfl, .refl⟩

theorem onOrders (f : Orders → Orders) (s : State) : Regulated s (s.onOrders f) :=
  ⟨rfl, rfl, rfl, rfl, rfl, rfl, rfl, rfl, .refl⟩

theorem onLane (l : Lane) (f : LaneBox → LaneBox) (s : State) : Regulated s (s.onLane l f) :=
  ⟨rfl, rfl, rfl, rfl, rfl, rfl, rfl, rfl, .refl⟩

theorem onDemand (ch : Channel) (f : Demand → Demand) (s : State) : Regulated s (s.onDemand ch f) :=
  ⟨rfl, rfl, rfl, rfl, rfl, s.envelope_onDemand ch f, rfl, rfl, .refl⟩

theorem onSlurry (f : Slurry → Slurry) (s : State)
    (cut : ∀ x, (f x).cut = x.cut := by exact fun _ => rfl) : Regulated s (s.onSlurry f) :=
  ⟨rfl, rfl, rfl, rfl, rfl, rfl, rfl, cut _, .refl⟩

/-- No frame moves where the free list, the queues and the transmitters stand. -/
theorem onPath_still {f : FramePath → FramePath} (s : State)
    (route : (f s.path).route = s.path.route) (free : (f s.path).free = s.path.free)
    (queue : (f s.path).queue = s.path.queue) (tx : (f s.path).tx = s.path.tx) :
    Regulated s (s.onPath f) :=
  ⟨rfl, rfl, rfl, rfl, rfl, rfl, route, rfl, .single (.still free queue tx)⟩

/-! ### Frames placed and refreshed -/

theorem enqueue {p : Port} {tag : Tag} {f : Frame} {s : State} (room : Room s.path p tag f) :
    Regulated s (enqueue p tag f s) := by
  cases free : s.path.free with
  | nil => rw [Machine.enqueue, free]; exact refl s
  | cons b rest =>
    rw [enqueue_cons free]
    exact ⟨rfl, rfl, rfl, rfl, rfl, rfl, rfl, rfl, .single (.place free room)⟩

theorem refreshWaiting (p : Port) {tag : Tag} (f : Frame) (s : State) (own : tag ≠ .sample) :
    Regulated s (refreshWaiting p tag f s) := by
  refine ⟨rfl, rfl, rfl, rfl, rfl, rfl, rfl, rfl, .single (.refresh p fun e => ?_)⟩
  split
  next same => exact ⟨rfl, rfl, fun src => by simp [Queued.sampleFrom, same, own]⟩
  next => exact ⟨rfl, rfl, fun src => rfl⟩

theorem sendReport {tag : Tag} (s : State) (report : tag = .periodic ∨ tag = .urgent) :
    Regulated s (sendReport tag s) := by
  unfold Machine.sendReport
  split
  next => exact refreshWaiting _ _ s (by obtain rfl | rfl := report <;> simp)
  next none =>
    have none := State.waiting_eq_false.mp (Bool.eq_false_iff.mpr none)
    obtain rfl | rfl := report
    · exact enqueue (.periodic _ none)
    · exact enqueue (.urgent _ none)

theorem reply (items : List Word) {s : State} (few : s.replyCap = false) :
    Regulated s (reply items s) :=
  enqueue (.reply _ (Nat.not_le.mp (of_decide_eq_false few)))

/-! ### DEMAND frames, requested values and owners -/

theorem markClamped (l : Lane) (s : State) : Regulated s (markClamped l s) :=
  foldl (fun t _ => onDemand _ _ t) _ s

theorem sendDemand {l : Lane} (a : Nat) {s : State} (channels : laneChannels l ≠ [])
    (idle : s.demandInTransmission l = false) : Regulated s (sendDemand l a s) := by
  have marked_path : (Machine.markClamped l s).path = s.path := by rw [markClamped_eq]
  unfold Machine.sendDemand
  refine .trans ?_ (onLane ..)
  split
  next => exact (markClamped l s).trans (refreshWaiting _ _ _ (by simp))
  next none =>
    refine (markClamped l s).trans (enqueue (.demand l _ channels ?_ ?_)) <;> rw [marked_path]
    · exact State.waiting_eq_false.mp (Bool.eq_false_iff.mpr none)
    · rw [← State.demandInTransmission_eq]; exact idle

theorem composeDue (l : Lane) (s : State) : Regulated s (composeDue l s) := by
  unfold Machine.composeDue
  split
  next => exact refl s
  next up =>
    split
    next => exact refl s
    next a _ =>
      split
      next => exact onLane ..
      next idle => exact sendDemand a (not_or.mp up).1 (Bool.eq_false_iff.mpr idle)

theorem setRequested (ch : Channel) (v : Int) (s : State) : Regulated s (setRequested ch v s) := by
  unfold Machine.setRequested
  split
  · exact refl s
  · exact (onDemand ..).trans (composeDue ..)

theorem setOwner (ch : Channel) (o : Owner) (s : State) : Regulated s (setOwner ch o s) := by
  unfold Machine.setOwner
  split
  · exact refl s
  · exact onDemand ..

/-! ### The slurry loop and the feed limit -/

theorem writePump (v : Int) (s : State) : Regulated s (writePump v s) :=
  (onSlurry _ s).trans (setRequested ..)

theorem formFeed (s : State) : Regulated s (formFeed s) := onSlurry _ s

theorem startHoldDelay (s : State) : Regulated s (startHoldDelay s) := onSlurry _ s

theorem enterSlurryRun (v : Int) (s : State) : Regulated s (enterSlurryRun v s) := by
  unfold Machine.enterSlurryRun
  extract_lets entered driven
  have run : Regulated s entered := onSlurry _ s
  have pumped : Regulated s driven := run.trans ((setOwner ..).trans (writePump ..))
  refine pumped.trans ?_
  split
  · exact startHoldDelay _
  · exact refl _

theorem enterFlush (s : State) : Regulated s (enterFlush s) :=
  (onSlurry _ s).trans (writePump ..)

theorem agitationExit (s : State) : Regulated s (agitationExit s) := by
  unfold Machine.agitationExit
  split
  · exact refl s
  split
  · exact enterSlurryRun ..
  · exact enterFlush s

theorem zeroSlurry (new : SlurryState) (s : State) : Regulated s (zeroSlurry new s) :=
  (onSlurry _ s).trans ((setOwner ..).trans (writePump ..))

theorem startAgitation (phase : AgitationPhase) (demand time : Setting) (s : State) :
    Regulated s (startAgitation phase demand time s) :=
  (onSlurry _ s).trans (writePump ..)

/-! ### The drive loops and the order link -/

theorem valveEntry (g : Gear) (new : LoopState) (s : State) : Regulated s (valveEntry g new s) := by
  unfold Machine.valveEntry
  split
  · exact (setOwner ..).trans (setRequested ..)
  · exact (setOwner ..).trans (setRequested ..)
  · exact (setOwner ..).trans (setRequested ..)
  · exact refl s

theorem loopMoved (g : Gear) (old : LoopState) (s : State) : Regulated s (loopMoved g old s) := by
  unfold Machine.loopMoved
  split
  · exact refl s
  split
  · exact (startHoldDelay s).trans ((agitationExit _).trans (formFeed _))
  split
  · exact (startHoldDelay s).trans (formFeed _)
  · exact formFeed s

theorem enterLoop (g : Gear) (new : LoopState) (s : State) : Regulated s (enterLoop g new s) :=
  (onLoop ..).trans ((valveEntry ..).trans (loopMoved ..))

theorem enterStopping (g : Gear) (s : State) : Regulated s (enterStopping g s) := by
  unfold Machine.enterStopping
  simp only
  split
  · exact (enterLoop ..).trans (enterLoop ..)
  · exact enterLoop ..

theorem stopLoop (g : Gear) (s : State) : Regulated s (stopLoop g s) := by
  unfold Machine.stopLoop
  split
  case h_1 => exact enterLoop ..
  case h_2 | h_3 | h_4 | h_5 => exact enterStopping g s
  all_goals exact refl s

theorem stopBoth (s : State) : Regulated s (stopBoth s) := (stopLoop ..).trans (stopLoop ..)

theorem enterWork (g : Gear) (s : State) : Regulated s (enterWork g s) := enterLoop ..

theorem holdLoop (g : Gear) (s : State) : Regulated s (holdLoop g s) := by
  unfold Machine.holdLoop
  split
  · exact enterLoop ..
  · exact refl s

theorem unholdLoop (g : Gear) (s : State) : Regulated s (unholdLoop g s) := by
  unfold Machine.unholdLoop
  split
  · exact enterLoop ..
  · exact refl s

theorem setLink (new : LinkState) (s : State) : Regulated s (setLink new s) := by
  unfold Machine.setLink
  split
  · exact refl s
  have moved := onOrders (fun x => { x with link := new }) s
  refine moved.trans (.trans ?_ (formFeed _))
  split
  · exact (holdLoop ..).trans (holdLoop ..)
  · split
    · exact (unholdLoop ..).trans (unholdLoop ..)
    · exact refl _
  all_goals exact refl _

theorem orderLinkStep (s : State) : Regulated s (orderLinkStep s) := by
  unfold Machine.orderLinkStep
  split
  · exact refl s
  · exact (setLink ..).trans (onOrders ..)

/-! ### Steering -/

theorem zeroPlates (o : Owner) (s : State) : Regulated s (zeroPlates o s) :=
  foldl (fun t _ => (setOwner _ _ t).trans (setRequested ..)) _ s

theorem enterSteeringClear (new : SteerState) (o : Owner) (s : State) :
    Regulated s (enterSteeringClear new o s) :=
  (onSteering _ s).trans (zeroPlates o _)

theorem enterSteeringHold (s : State) : Regulated s (enterSteeringHold s) := onSteering ..

theorem regulatePlates (s : State) : Regulated s (regulatePlates s) :=
  foldl (fun t _ => setRequested _ _ t) _ s

theorem steeringWork (s : State) : Regulated s (steeringWork s) := by
  have auto : Regulated s (autoWork s) := by
    unfold autoWork
    exact onSteering ..
  unfold Machine.steeringWork
  split
  · exact refl s
  · exact refl s
  · refine .trans ?_ (regulatePlates _)
    split
    · exact enterSteeringHold s
    · exact auto
  · refine .trans ?_ (regulatePlates _)
    split
    · exact refl s
    · exact auto

/-! ### Trips -/

theorem tripSlurry (s : State) : Regulated s (tripSlurry s) := (zeroSlurry ..).trans (stopBoth _)

theorem tripUnlessStopped (g : Gear) (s : State) : Regulated s (tripUnlessStopped g s) := by
  unfold Machine.tripUnlessStopped
  split
  · exact refl s
  · exact enterLoop ..

theorem actOnLatch (k : TripKind) (s : State) : Regulated s (actOnLatch k s) := by
  unfold Machine.actOnLatch
  split
  · simp only
    split
    · exact (stopBoth s).trans (enterSteeringHold _)
    · exact stopBoth s
  · exact (enterLoop ..).trans (stopLoop ..)
  · exact (enterLoop ..).trans (stopLoop ..)
  · exact tripSlurry s
  · exact tripSlurry s
  · exact (tripUnlessStopped ..).trans (tripUnlessStopped ..)
  · split
    · exact refl s
    · exact enterSteeringClear ..
  · exact refl s
  · split
    · exact refl s
    · exact tripSlurry s

theorem latch (k : TripKind) (s : State) : Regulated s (latch k s) := by
  unfold Machine.latch
  refine .trans ?_ (sendReport _ (.inr rfl))
  refine .trans ?_ (actOnLatch ..)
  refine .trans ?_ (onOrders ..)
  split
  · exact onOrders ..
  · exact refl s

theorem releaseLoop (g : Gear) (s : State) : Regulated s (releaseLoop g s) := by
  unfold Machine.releaseLoop
  split
  · exact enterLoop ..
  · exact refl s

theorem releaseSlurry (s : State) : Regulated s (releaseSlurry s) := by
  unfold Machine.releaseSlurry
  split
  · exact zeroSlurry ..
  · exact refl s

theorem removeTrip (k : TripKind) (s : State) : Regulated s (removeTrip k s) := by
  unfold Machine.removeTrip
  refine .trans ?_ (releaseSlurry _)
  refine .trans ?_ (releaseLoop ..)
  refine .trans ?_ (releaseLoop ..)
  split
  · exact (onOrders ..).trans ((setLink ..).trans (onOrders ..))
  · exact onOrders ..

theorem resetKind (k : TripKind) (s : State) : Regulated s (resetKind k s).2 := by
  unfold Machine.resetKind
  split
  · exact refl s
  split
  · exact refl s
  · exact removeTrip k s

theorem resetTrip (w : Word) (s : State) : Regulated s (resetTrip w s).2 := by
  unfold Machine.resetTrip
  split
  · exact refl s
  · exact resetKind ..
  · split
    · exact refl s
    · exact resetKind ..

/-! ### The drive update, after the class -/

theorem computeStages (g : Gear) (inp : DriveInputs) (s : State) :
    Regulated s (computeStages g inp s) :=
  (onLoop g _ s).trans (setRequested ..)

theorem healthTest (g : Gear) (inp : DriveInputs) (s : State) : Regulated s (healthTest g inp s) := by
  unfold Machine.healthTest
  split
  · exact enterLoop ..
  · exact enterLoop ..
  · exact enterWork g s
  · exact enterLoop ..
  · exact refl s

theorem stallTest (g : Gear) (inp : DriveInputs) (s : State) : Regulated s (stallTest g inp s) := by
  unfold Machine.stallTest
  split
  · exact refl s
  split
  · split
    · exact (enterLoop ..).trans (holdLoop ..)
    · exact onLoop ..
  · exact onLoop ..

theorem advancePhase (g : Gear) (s : State) : Regulated s (advancePhase g s) := by
  unfold Machine.advancePhase
  simp only
  split
  · exact onLoop ..
  split
  · exact refl s
  · exact onLoop ..
  · split
    · exact onLoop ..
    · exact latch ..

theorem unjamEnd (g : Gear) (inp : DriveInputs) (s : State) : Regulated s (unjamEnd g inp s) := by
  unfold Machine.unjamEnd
  simp only
  split
  · exact advancePhase g s
  split
  · exact (onLoop ..).trans (advancePhase ..)
  split
  · exact (enterWork g s).trans (unholdLoop ..)
  · exact (onLoop ..).trans (advancePhase ..)

theorem endTests (g : Gear) (inp : DriveInputs) (s : State) : Regulated s (endTests g inp s) := by
  unfold Machine.endTests
  split
  · exact stallTest g inp s
  · exact stallTest g inp s
  · exact unjamEnd g inp s
  · split
    · exact enterLoop ..
    · exact refl s
  · exact refl s

theorem computingUpdate (g : Gear) (s : State) : Regulated s (computingUpdate g s) := by
  unfold Machine.computingUpdate
  simp only
  split
  · exact (healthTest g _ s).trans ((computeStages g _ _).trans (endTests ..))
  · exact healthTest ..

theorem releaseTest (g : Gear) (s : State) : Regulated s (releaseTest g s) := by
  unfold Machine.releaseTest
  split
  · exact refl s
  split
  · exact enterLoop ..
  split
  · exact refl s
  · exact enterLoop ..

/-- A drive update regulates from the class that it evaluates (R57). -/
theorem driveUpdate (g : Gear) (s : State) :
    Regulated (evaluateClass (s.onLoop g fun l => { l with timer := s.startMs .drivePeriod }))
      (driveUpdate g s) := by
  unfold Machine.driveUpdate
  simp only
  split
  case h_4 => exact releaseTest ..
  case h_5 | h_6 | h_7 | h_8 | h_9 => exact computingUpdate ..
  all_goals exact refl _

theorem overpressureTest (s : State) : Regulated s (overpressureTest s) := by
  have counted : Regulated s (countPressures s) := (onLoop ..).trans (onLoop ..)
  have drawn : Regulated s { countPressures s with draws := (countPressures s).draws + 1 } :=
    counted.trans ⟨rfl, rfl, rfl, rfl, rfl, rfl, rfl, rfl, .refl⟩
  obtain ⟨-, -, same⟩ | ⟨g, -, -, same⟩ | ⟨-, -, g, same⟩ := overpressureTest_cases s <;> rw [same]
  · exact counted
  · exact counted.trans (latch ..)
  · exact drawn.trans ((latch ..).trans (latch ..))

/-! ### The slurry loop's events -/

theorem primingWork (s : State) : Regulated s (primingWork s) := by
  unfold Machine.primingWork
  split
  · exact onSlurry _ s
  split
  · exact (onSlurry _ s).trans (writePump ..)
  · exact latch ..

theorem primingSample (s : State) : Regulated s (primingSample s) := by
  unfold Machine.primingSample
  split
  · exact refl s
  split
  · exact onSlurry _ s
  split
  · split
    · exact enterSlurryRun ..
    · exact onSlurry _ s
  · exact onSlurry _ s

theorem primingStale (s : State) : Regulated s (primingStale s) := by
  unfold Machine.primingStale
  split
  · exact onSlurry _ s
  · exact refl s

theorem backOff (s : State) : Regulated s (backOff s) := by
  unfold Machine.backOff
  simp only
  split
  · exact (onSlurry _ s).trans ((writePump ..).trans (latch ..))
  · exact (onSlurry _ s).trans (writePump ..)

theorem slurryFirst (s : State) : Regulated s (slurryFirst s) := by
  unfold Machine.slurryFirst
  split
  · exact primingWork s
  · unfold flowWork
    split
    · split
      · exact backOff s
      · exact (onSlurry _ s).trans (writePump ..)
    · exact refl s
  all_goals exact refl s

theorem holdDelayExpired (s : State) : Regulated s (holdDelayExpired s) := by
  unfold Machine.holdDelayExpired
  simp only
  split
  · exact (onSlurry _ s).trans (startAgitation ..)
  · exact onSlurry _ s

theorem phaseExpired (s : State) : Regulated s (phaseExpired s) := by
  unfold Machine.phaseExpired
  split
  · exact startAgitation ..
  · exact startAgitation ..
  · exact enterSlurryRun ..
  · exact onSlurry _ s

/-! ### Orders of the loops -/

theorem startDrives (s : State) : Regulated s (startDrives s).2 := by
  unfold Machine.startDrives
  split
  · exact refl s
  split
  · exact refl s
  split
  · exact refl s
  · exact (enterLoop ..).trans (enterLoop ..)

theorem modeGearbox (g : Gear) (w : Word) (s : State) : Regulated s (modeGearbox g w s).2 := by
  unfold Machine.modeGearbox
  split
  · split
    · exact enterLoop ..
    split <;> exact refl s
  · split
    · exact enterLoop ..
    · exact refl s
  all_goals exact refl s

theorem modeSteering (w : Word) (s : State) : Regulated s (modeSteering w s).2 := by
  unfold Machine.modeSteering
  split
  · exact refl s
  · simp only
    split
    · exact refl s
    · exact enterSteeringClear ..
  · split
    · exact refl s
    split
    · exact refl s
    split
    · exact refl s
    · exact enterSteeringClear ..
  · split
    · exact refl s
    split
    · exact refl s
    split
    · exact refl s
    · exact enterSteeringClear ..

theorem startPump (s : State) : Regulated s (startPump s).2 := by
  unfold Machine.startPump
  split
  · exact refl s
  split
  · exact refl s
  split
  · exact refl s
  · exact (onSlurry _ s).trans (writePump ..)

theorem stopPump (s : State) : Regulated s (stopPump s).2 := by
  unfold Machine.stopPump
  split
  · exact refl s
  split
  · exact refl s
  · exact zeroSlurry ..

theorem enterPumpManual (s : State) : Regulated s (enterPumpManual s) :=
  (onSlurry _ s).trans (setOwner ..)

theorem modePump (w : Word) (s : State) : Regulated s (modePump w s).2 := by
  unfold Machine.modePump
  split
  · split
    case h_1 | h_2 | h_3 => exact enterPumpManual s
    all_goals exact refl s
  · split
    · exact enterSlurryRun ..
    · exact refl s
  all_goals exact refl s

/-! ### Timers of the orders block -/

theorem orderTimerExpired (s : State) : Regulated s (orderTimerExpired s) := by
  unfold Machine.orderTimerExpired
  split
  · exact (setLink ..).trans (onOrders ..)
  · exact (setLink ..).trans ((onOrders ..).trans (latch ..))
  all_goals exact onOrders ..

theorem reportTimerExpired (s : State) : Regulated s (reportTimerExpired s) :=
  (onOrders _ s).trans (sendReport _ (.inl rfl))

/-! ### Lanes -/

theorem faultLane (l : Lane) (s : State) : Regulated s (faultLane l s) :=
  (onLane ..).trans (latch ..)

theorem countBad (l : Lane) (s : State) : Regulated s (countBad l s) := by
  unfold Machine.countBad
  split
  · exact refl s
  split
  · exact faultLane l s
  · exact onLane ..

theorem laneAlive (l : Lane) (s : State) : Regulated s (laneAlive l s) := by
  unfold Machine.laneAlive
  split
  · exact onLane ..
  · exact (onLane ..).trans (composeDue ..)

theorem emptyArea (p : Port) (s : State) : Regulated s (emptyArea p s) :=
  onPath_still s rfl rfl rfl rfl

theorem storeChars (p : Port) (rx : Reception) (s : State) : Regulated s (storeChars p rx s) :=
  onPath_still s rfl rfl rfl rfl

/-! ### Forwarded frames -/

theorem offerNode (p : Port) (f : Frame) (s : State) : Regulated s (offerFrame p .node f s) := by
  unfold offerFrame
  split
  · exact refl s
  next room =>
    obtain ⟨share, reserve⟩ := not_or.mp room
    exact enqueue (.node p f (Nat.not_le.mp share) (Nat.not_le.mp reserve))

theorem offerSample (f : Frame) (s : State) : Regulated s (offerSample f s) := by
  unfold Machine.offerSample
  split
  · refine ⟨rfl, rfl, rfl, rfl, rfl, rfl, rfl, rfl, .single (.refresh .shaft fun e => ?_)⟩
    split
    next same =>
      obtain ⟨-, node⟩ : e.tag = .sample ∧ e.frame.src = f.src := of_decide_eq_true same
      exact ⟨rfl, rfl, fun src => by simp [Queued.sampleFrom, node]⟩
    next => exact ⟨rfl, rfl, fun src => rfl⟩
  next first =>
    unfold offerFrame
    split
    · exact refl s
    next room =>
      obtain ⟨share, reserve⟩ := not_or.mp room
      exact enqueue (.sample f (Nat.not_le.mp share) (Nat.not_le.mp reserve)
        (Bool.eq_false_iff.mpr first))

theorem decimate (f : Frame) (s : State) : Regulated s (decimate f s) := by
  have counted : ∀ n, Regulated s (s.onPath fun x =>
      { x with decimation := x.decimation.set f.src.toNat n }) :=
    fun n => onPath_still s rfl rfl rfl rfl
  unfold Machine.decimate
  simp only
  split
  · exact counted 0
  split
  · exact counted _
  · exact (counted 0).trans (offerSample ..)

theorem nodeDown (f : Frame) (s : State) : Regulated s (nodeDown f s) := by
  unfold Machine.nodeDown
  split
  · exact refl s
  split
  · exact offerNode ..
  · exact refl s

/-! ### Operator DEMAND frames -/

theorem mergeItem (ch : Channel) (w : Word) (s : State) : Regulated s (mergeItem ch w s) := by
  unfold Machine.mergeItem
  split
  · exact (onDemand ..).trans (setRequested ..)
  · exact refl s

theorem mergeItems (chs : List Channel) (ws : List Word) (s : State) :
    Regulated s (mergeItems chs ws s) := by
  induction chs generalizing ws s with
  | nil => exact refl s
  | cons ch chs ih =>
    cases ws with
    | nil => exact refl s
    | cons w ws => exact (mergeItem ch w s).trans (ih ws _)

theorem operatorDemand (dest : Byte) (items : List Word) (s : State) :
    Regulated s (operatorDemand dest items s) := by
  unfold Machine.operatorDemand
  split
  · exact refl s
  split
  · exact refl s
  · exact mergeItems ..

theorem deadmanExpired (ch : Channel) (s : State) : Regulated s (deadmanExpired ch s) :=
  (onDemand ..).trans (setRequested ..)

theorem refreshExpired (l : Lane) (s : State) : Regulated s (refreshExpired l s) := by
  unfold Machine.refreshExpired
  simp only
  split
  · exact onLane ..
  · exact (onLane ..).trans (composeDue ..)

/-! ### Transmission -/

theorem setLastSent (chs : List Channel) (ws : List Word) (s : State) :
    Regulated s (setLastSent chs ws s) := by
  induction chs generalizing ws s with
  | nil => exact refl s
  | cons ch chs ih =>
    cases ws with
    | nil => exact refl s
    | cons w ws => exact (onDemand ch _ s).trans (ih ws _)

theorem noteStart (p : Port) (e : Queued) (s : State) : Regulated s (noteStart p e s) := by
  unfold Machine.noteStart
  split
  · exact onPath_still s rfl rfl rfl rfl
  · split
    · exact setLastSent ..
    · exact refl s

theorem startTransmission (p : Port) (s : State) : Regulated s (startTransmission p s) := by
  obtain ⟨same, -⟩ | ⟨e, idle, selected, same⟩ := startTransmission_cases p s <;> rw [same]
  · exact refl s
  · refine .trans ?_ (noteStart p e _)
    exact ⟨rfl, rfl, rfl, rfl, rfl, rfl, rfl, rfl, .single (.start s.now idle (selected_mem selected))⟩

theorem demandComplete (l : Lane) (s : State) : Regulated s (demandComplete l s) := by
  unfold Machine.demandComplete
  simp only
  split
  · exact (onLane ..).trans (composeDue ..)
  · exact onLane ..

theorem finishTransmission {p : Port} {t : Transmission} {s : State} (sends : s.txOf p = some t) :
    Regulated s (finishTransmission p t s) := by
  have returned : Regulated s (returnBuffer p t s) :=
    ⟨rfl, rfl, rfl, rfl, rfl, rfl, rfl, rfl, .single (.finish sends)⟩
  unfold Machine.finishTransmission
  refine .trans ?_ (startTransmission ..)
  split
  · split
    · exact returned.trans (demandComplete ..)
    · exact returned
  · exact returned

theorem completeTransmission (p : Port) (s : State) : Regulated s (completeTransmission p s) := by
  unfold Machine.completeTransmission
  split
  · exact refl s
  next t sends =>
    unfold expiry
    split
    · exact finishTransmission sends
    · exact refl s

/-- An expiry regulates if its event does. -/
theorem expiry (t : Timer) {f : State → State} {s : State} (h : Regulated s (f s)) :
    Regulated s (expiry t f s) := by
  unfold Machine.expiry
  split
  · exact h
  · exact refl s

end Regulated

end Sys2Proof.Machine

/-! SUPPORT. The laws of the pickups and of the survey as laws of one block, and that what measures and what
records keeps them (R10, R16, R18, R72, R76, R78). -/

namespace Sys2Proof.Machine

/-! ## A pickup -/

/-- R10, R16, R18, as `State.pickupLaw` says it of each gearbox. -/
def Pickup.Sound (p : Pickup) : Prop :=
  p.history.length ≤ 8 ∧ (∀ n ∈ p.history, 1 ≤ n ∧ n ≤ 16777215) ∧
    (p.ref = none → p.history = []) ∧ p.badRun ≤ 3 ∧ p.goodRun ≤ 15

theorem State.pickupLaw_iff (s : State) : s.pickupLaw ↔ ∀ g, (s.pickupOf g).Sound := Iff.rfl

namespace Pickup.Sound

/-- Only the history, the timing reference and the runs are asked of. -/
theorem of_eq {p q : Pickup} (h : p.Sound) (history : q.history = p.history) (ref : q.ref = p.ref)
    (bad : q.badRun = p.badRun) (good : q.goodRun = p.goodRun) : q.Sound := by
  unfold Pickup.Sound
  rwa [history, ref, bad, good]

theorem onTrack {p : Pickup} (h : p.Sound) (k : Track) (f : TrackState → TrackState) :
    (p.onTrack k f).Sound := by cases k <;> exact h.of_eq rfl rfl rfl rfl

/-- An emptied history is as good as any. -/
theorem emptied {p q : Pickup} (h : p.Sound) (history : q.history = []) (bad : q.badRun = p.badRun)
    (good : q.goodRun = p.goodRun) : q.Sound := by
  obtain ⟨-, -, -, badRun, goodRun⟩ := h
  refine ⟨?_, ?_, fun _ => history, bad ▸ badRun, good ▸ goodRun⟩ <;> simp [history]

theorem powerOn (a b : Bool) : (Pickup.powerOn a b).Sound := by simp [Pickup.Sound, Pickup.powerOn]

theorem timeFrom {p : Pickup} (s : State) (length : p.history.length ≤ 8)
    (periods : ∀ n ∈ p.history, 1 ≤ n ∧ n ≤ 16777215) (bad : p.badRun ≤ 3) (good : p.goodRun ≤ 15) :
    (s.timeFrom p).Sound :=
  ⟨length, periods, fun none => by simp [State.timeFrom] at none, bad, good⟩

end Pickup.Sound

/-- The runs stay below their limits, and the rest is not touched (R18). -/
theorem healthAfter_runs (bad : Bool) {p : Pickup} (badRun : p.badRun ≤ 3) (goodRun : p.goodRun ≤ 15) :
    (healthAfter bad p).badRun ≤ 3 ∧ (healthAfter bad p).goodRun ≤ 15 ∧
      (healthAfter bad p).history = p.history := by
  unfold healthAfter
  split
  · split
    · exact ⟨Nat.zero_le _, Nat.zero_le _, rfl⟩
    · exact ⟨by simp only; omega, goodRun, rfl⟩
  · exact ⟨Nat.zero_le _, goodRun, rfl⟩
  · split
    · exact ⟨Nat.zero_le _, Nat.zero_le _, rfl⟩
    · exact ⟨badRun, by simp only; omega, rfl⟩
  · exact ⟨badRun, Nat.zero_le _, rfl⟩

namespace Pickup.Sound

/-- A captured period is from 1 to 16 777 215 µs, and at most 8 are kept (R10). -/
theorem capture {p : Pickup} (h : p.Sound) (s : State) (r : Nat) : (s.capture r p).Sound := by
  obtain ⟨-, periods, -, badRun, goodRun⟩ := h
  unfold State.capture
  extract_lets period direction kept entered
  have entered_periods : ∀ n ∈ entered.history, 1 ≤ n ∧ n ≤ 16777215 := by
    intro n member
    obtain rfl | older := List.mem_cons.mp (List.mem_of_mem_take member)
    · simp only [period, State.elapsedSince, counterStop]
      omega
    · simp only [kept] at older
      split at older
      · exact periods n older
      · simp at older
  obtain ⟨bad, good, same⟩ :=
    healthAfter_runs (periodBad p.high period p.bEdge (s.averageOf entered)) (p := entered) badRun goodRun
  exact timeFrom s (by rw [same]; exact List.length_take_le ..) (by rwa [same]) bad good

theorem acceptedEdge {p : Pickup} (h : p.Sound) (s : State) (k : Track) (level : Bool) :
    (s.acceptedEdge k level p).Sound := by
  unfold State.acceptedEdge
  split
  next none =>
    obtain ⟨length, periods, -, bad, good⟩ := h
    exact timeFrom s length periods bad good
  next r _ => exact h.capture s r
  next => exact h
  next => exact h.of_eq rfl rfl rfl rfl
  next => exact h.of_eq rfl rfl rfl rfl

theorem acceptLevel {p : Pickup} (h : p.Sound) (s : State) (k : Track) (level : Bool) :
    (s.acceptLevel k level p).Sound := (h.onTrack k _).acceptedEdge s k level

theorem rawChange {p : Pickup} (h : p.Sound) (s : State) (k : Track) (level : Bool) :
    (s.rawChange k level p).Sound := by
  unfold State.rawChange
  split
  · exact h
  split
  · exact h.onTrack ..
  split
  · exact h.acceptLevel ..
  · exact h.onTrack ..

theorem filterExpired {p : Pickup} (h : p.Sound) (s : State) (k : Track) :
    (s.filterExpired k p).Sound := by
  unfold State.filterExpired
  split
  · exact h.onTrack ..
  · exact h.acceptLevel ..

theorem zeroExpired {p : Pickup} (h : p.Sound) : p.zeroExpired.Sound := h.emptied rfl rfl rfl

end Pickup.Sound

/-! ## The survey -/

/-- R72, R76, R78, as `State.trajectoryLaw` says it of the survey. -/
def Survey.Sound (v : Survey) : Prop :=
  (v.trajectory.map Station.index).Pairwise (· < ·) ∧
    (∀ st ∈ v.trajectory, st.index ≤ v.frontier) ∧
    (v.state ≠ .idle → (stationAt v.trajectory v.frontier).isSome = true) ∧
    v.frontier % v.spacing.step = 0 ∧ v.frontier ≤ 1023

theorem State.trajectoryLaw_iff (s : State) : s.trajectoryLaw ↔ s.survey.Sound := Iff.rfl

/-- A record beyond all others goes to the end of the table. -/
theorem recordStation_beyond {st : Station} {t : List Station} (h : ∀ x ∈ t, x.index < st.index) :
    recordStation st t = t ++ [st] := by
  induction t with
  | nil => rfl
  | cons x rest ih =>
    obtain ⟨first, later⟩ := List.forall_mem_cons.mp h
    unfold recordStation
    rw [if_neg (by omega), if_neg (by omega), ih later, List.cons_append]

theorem recordNext_state (m : Means) (first : Bool) (v : Survey) :
    (recordNext m first v).state = v.state := by
  unfold recordNext applyPending
  simp only
  split
  · split <;> rfl
  · rfl

namespace Survey.Sound

variable {v : Survey}

/-- Only the table, the frontier, the spacing and whether a panel is open are asked of. -/
theorem of_eq {w : Survey} (h : v.Sound) (trajectory : w.trajectory = v.trajectory)
    (frontier : w.frontier = v.frontier) (spacing : w.spacing = v.spacing)
    (idle : v.state = .idle → w.state = .idle) : w.Sound := by
  obtain ⟨rising, within, record, multiple, bound⟩ := h
  unfold Survey.Sound
  rw [trajectory, frontier, spacing]
  exact ⟨rising, within, fun opened => record (mt idle opened), multiple, bound⟩

theorem clearInterval (h : v.Sound) : v.clearInterval.Sound := h.of_eq rfl rfl rfl id

/-- A spacing that the frontier suits may take effect. -/
theorem respaced {w : Survey} (h : v.Sound) (trajectory : w.trajectory = v.trajectory)
    (frontier : w.frontier = v.frontier) (state : w.state = v.state)
    (suits : v.frontier % w.spacing.step = 0) : w.Sound := by
  obtain ⟨rising, within, record, -, bound⟩ := h
  unfold Survey.Sound
  rw [trajectory, frontier, state]
  exact ⟨rising, within, record, suits, bound⟩

theorem applyPending (h : v.Sound) : (applyPending v).Sound := by
  unfold Machine.applyPending
  split
  · split
    next suits => exact h.respaced rfl rfl rfl suits
    next => exact h
  · exact h

/-- A record at the next station, within the table (R72). -/
theorem recordNext (h : v.Sound) (m : Means) (first : Bool) (fits : v.exhausted = false) :
    (recordNext m first v).Sound := by
  obtain ⟨rising, within, -, multiple, -⟩ := h
  have step_pos := v.spacing.step_pos
  have next_le : v.frontier + v.spacing.step ≤ 1023 := Nat.not_lt.mp (of_decide_eq_false fits)
  refine applyPending ?_
  dsimp only [Survey.Sound]
  rw [recordStation_beyond fun x member => by have := within x member; simp only; omega]
  refine ⟨?_, ?_, fun _ => ?_, ?_, next_le⟩
  · rw [List.map_append, List.pairwise_append]
    refine ⟨rising, List.pairwise_singleton .., ?_⟩
    rintro i member j one
    obtain ⟨x, inside, rfl⟩ := List.mem_map.mp member
    have := within x inside
    simp only [List.map_cons, List.map_nil, List.mem_singleton] at one
    omega
  · intro st member
    obtain inside | one := List.mem_append.mp member
    · have := within st inside
      omega
    · rw [List.mem_singleton.mp one]
  · simp [stationAt]
  · rw [Nat.add_mod_right, multiple]

/-- An open panel may go on to any state. -/
theorem opened (h : v.Sound) (opened : v.state ≠ .idle) (new : SurveyState) :
    Survey.Sound { v with state := new } := by
  obtain ⟨rising, within, record, multiple, bound⟩ := h
  exact ⟨rising, within, fun _ => record opened, multiple, bound⟩

theorem recordPasses (h : v.Sound) (opened : v.state ≠ .idle) (m : Means) (fuel : Nat) (first : Bool) :
    (recordPasses m fuel first v).Sound := by
  induction fuel generalizing v first with
  | zero => exact h
  | succ fuel ih =>
    unfold Machine.recordPasses
    split
    · exact h
    split
    · exact h.opened opened .full
    next fits =>
      have next := h.recordNext m first (Bool.eq_false_iff.mpr fits)
      have next_opened : (Machine.recordNext m first v).state ≠ .idle := by rwa [recordNext_state]
      simp only
      split
      · exact next.opened next_opened .full
      · exact ih next next_opened false

theorem recordingTest (h : v.Sound) : (recordingTest v).Sound := by
  unfold Machine.recordingTest
  split
  · exact h
  next surveying =>
    have opened : v.state ≠ .idle := by rw [not_not.mp surveying]; decide
    have done := h.recordPasses opened (crossingMeans v) 1024 true
    simp only
    split
    · exact done
    · exact done.clearInterval

theorem surveyEvaluated (h : v.Sound) (valid : Bool) : (surveyEvaluated valid v).Sound := by
  unfold Machine.surveyEvaluated
  split
  next state =>
    split
    · exact h
    · exact h.opened (by simp [state]) .paused
  next state =>
    split
    · exact (h.opened (by simp [state]) .surveying).recordingTest
    · exact h
  all_goals exact h

theorem disagreeAfter (h : v.Sound) (c : Comparison) : (disagreeAfter c v).Sound := by
  unfold Machine.disagreeAfter
  repeat' split
  all_goals exact h.of_eq rfl rfl rfl id

theorem fuseSample (h : v.Sound) (x : AttitudeItems) : (fuseSample x v).Sound := by
  unfold Machine.fuseSample
  split <;> exact h.of_eq rfl rfl rfl id

theorem offerToInterval (h : v.Sound) : (offerToInterval v).Sound := by
  unfold Machine.offerToInterval
  split
  · exact h.of_eq rfl rfl rfl id
  · exact h

theorem closePanel (h : v.Sound) : (closePanel v).Sound := by
  unfold Machine.closePanel
  split
  · exact h
  · exact h.of_eq rfl rfl rfl fun _ => rfl

theorem orderSpacing (h : v.Sound) (p : Spacing) : (orderSpacing p v).Sound := by
  unfold Machine.orderSpacing
  split
  next applies =>
    have respaced : Survey.Sound { v with spacing := p, pending := none } :=
      h.respaced rfl rfl rfl applies.2
    exact respaced.recordingTest
  · exact h.of_eq rfl rfl rfl id

/-- A panel opens with one record, at a start index that suits its step (R69). -/
theorem openPanel (v : Survey) : (openPanel v).Sound := by
  have start : ∀ depth step, 1 ≤ step → startIndex depth step % step = 0 ∧ startIndex depth step ≤ 1023 := by
    intro depth step positive
    unfold startIndex
    simp only
    split
    · exact ⟨Nat.mul_mod_left .., Nat.div_mul_le_self ..⟩
    · exact ⟨Nat.mul_mod_left .., by omega⟩
  obtain ⟨multiple, bound⟩ := start v.depth _ (v.pending.getD v.spacing).step_pos.1
  exact ⟨List.pairwise_singleton .., by simp [Machine.openPanel], fun _ => by simp [stationAt, Machine.openPanel],
    multiple, bound⟩

theorem restartSurvey (h : v.Sound) : (restartSurvey v).Sound := by
  obtain ⟨rising, within, record, multiple, bound⟩ := h
  refine ⟨rising, within, fun opened => record fun idle => opened ?_, multiple, bound⟩
  simp [Machine.restartSurvey, idle]

end Survey.Sound

/-! ## The frontier never falls -/

theorem le_frontier_recordPasses (m : Means) (fuel : Nat) (first : Bool) (v : Survey) :
    v.frontier ≤ (recordPasses m fuel first v).frontier := by
  induction fuel generalizing v first with
  | zero => exact le_rfl
  | succ fuel ih =>
    have next : v.frontier ≤ (recordNext m first v).frontier := by rw [recordNext_frontier]; omega
    unfold recordPasses
    split
    · exact le_rfl
    split
    · exact le_rfl
    simp only
    split
    · exact next
    · exact next.trans (ih false _)

theorem le_frontier_recordingTest (v : Survey) : v.frontier ≤ (recordingTest v).frontier := by
  unfold recordingTest
  split
  · exact le_rfl
  · simp only
    split
    · exact le_frontier_recordPasses ..
    · exact le_frontier_recordPasses ..

theorem le_frontier_surveyEvaluated (valid : Bool) (v : Survey) :
    v.frontier ≤ (surveyEvaluated valid v).frontier := by
  unfold surveyEvaluated
  split
  · split <;> exact le_rfl
  · split
    · exact le_frontier_recordingTest { v with state := .surveying }
    · exact le_rfl
  all_goals exact le_rfl

theorem disagreeAfter_frontier (c : Comparison) (v : Survey) :
    (disagreeAfter c v).frontier = v.frontier := by
  unfold disagreeAfter
  repeat' split
  all_goals rfl

theorem fuseSample_frontier (x : AttitudeItems) (v : Survey) :
    (fuseSample x v).frontier = v.frontier := by
  unfold fuseSample
  split <;> rfl

theorem offerToInterval_frontier (v : Survey) : (offerToInterval v).frontier = v.frontier := by
  unfold offerToInterval
  split <;> rfl

theorem closePanel_frontier (v : Survey) : (closePanel v).frontier = v.frontier := by
  unfold closePanel
  split <;> rfl

theorem le_frontier_orderSpacing (p : Spacing) (v : Survey) :
    v.frontier ≤ (orderSpacing p v).frontier := by
  unfold orderSpacing
  split
  · exact le_frontier_recordingTest { v with spacing := p, pending := none }
  · exact le_rfl

end Sys2Proof.Machine

/-! SUPPORT. Every event as a run of elementary changes: the part regulates, a pickup measures, the survey
works, a class is named, a table word is written, the cut factor is formed, or the part is reset. -/

namespace Sys2Proof.Machine

/-- The elementary changes of the part; with `lowers`, also the two that may lower the frontier. -/
inductive Change (lowers : Bool) : State → State → Prop
  | regulated {s t : State} (h : Regulated s t) : Change lowers s t
  | pickup (s : State) (g : Gear) (f : Pickup → Pickup) (sound : ∀ p, p.Sound → (f p).Sound) :
      Change lowers s (s.onPickup g f)
  | survey (s : State) (f : Survey → Survey) (sound : ∀ v, v.Sound → (f v).Sound)
      (rises : ∀ v, v.frontier ≤ (f v).frontier) : Change lowers s (s.onSurvey f)
  | classNamed (s : State) (f : Selector → Selector)
      (tables : ∀ x, (f x).classTable = x.classTable ∧ (f x).bandTable = x.bandTable ∧
        (f x).curveTable = x.curveTable)
      (names : s.tableLaw → (f s.selector).operatorClass ≤ 7 ∧ (f s.selector).classInEffect ≤ 7) :
      Change lowers s (s.onSelector f)
  | written (s : State) (t : Table) (index : Nat) (w : Word) (passes : s.checkWord t index w = none) :
      Change lowers s (putWord t index w s)
  | cutFormed (s : State) : Change lowers s (formCut s)
  | restarted (s : State) : Change lowers s (restartBlocks s)
  | held (s : State) : Change lowers s (enterReset s)
  | panelOpened (s : State) (h : lowers = true) : Change lowers s (s.onSurvey openPanel)
  | poweredOn (straps : Straps) (s : State) (h : lowers = true) : Change lowers s (powerOn straps s)

/-- A run of elementary changes. -/
abbrev Changes (lowers : Bool) : State → State → Prop := Relation.ReflTransGen (Change lowers)

/-- The commands that may lower the frontier. -/
def lowersFrontier : Instr → Bool
  | .panelBegin _ _ => true
  | .powerOnReset _ _ => true
  | _ => false

/-! ## What orders leave of the upper queue -/

theorem holdLoop_kept (g : Gear) (s : State) : LanesKept s (holdLoop g s) := by
  unfold holdLoop
  split
  · exact enterLoop_kept ..
  · exact .refl s

theorem unholdLoop_kept (g : Gear) (s : State) : LanesKept s (unholdLoop g s) := by
  unfold unholdLoop
  split
  · exact enterLoop_kept ..
  · exact .refl s

theorem setLink_upper (new : LinkState) (s : State) :
    (setLink new s).queueOf .shaft = s.queueOf .shaft := by
  rw [setLink_eq]; rfl

theorem startDrives_upper (s : State) : (startDrives s).2.queueOf .shaft = s.queueOf .shaft := by
  unfold startDrives
  split
  · rfl
  split
  · rfl
  split
  · rfl
  · exact ((enterLoop_kept ..).trans (enterLoop_kept ..)).upper

theorem modeGearbox_upper (g : Gear) (w : Word) (s : State) :
    (modeGearbox g w s).2.queueOf .shaft = s.queueOf .shaft := by
  unfold modeGearbox
  split
  · split
    · exact (enterLoop_kept ..).upper
    split <;> rfl
  · split
    · exact (enterLoop_kept ..).upper
    · rfl
  all_goals rfl

theorem modeSteering_upper (w : Word) (s : State) :
    (modeSteering w s).2.queueOf .shaft = s.queueOf .shaft := by
  unfold modeSteering
  split
  · rfl
  · simp only
    split
    · rfl
    · exact (enterSteeringClear_kept ..).upper
  all_goals
    split
    · rfl
    split
    · rfl
    split
    · rfl
    · exact (enterSteeringClear_kept ..).upper

theorem modePump_upper (w : Word) (s : State) :
    (modePump w s).2.queueOf .shaft = s.queueOf .shaft := by
  have manual : (enterPumpManual s).queueOf .shaft = s.queueOf .shaft :=
    ((LanesKept.onSlurry _ s).trans (setOwner_kept ..)).upper
  unfold modePump
  split
  · split
    case h_1 | h_2 | h_3 => exact manual
    all_goals rfl
  · split
    · exact (enterSlurryRun_kept ..).upper
    · rfl
  all_goals rfl

theorem startPump_upper (s : State) : (startPump s).2.queueOf .shaft = s.queueOf .shaft := by
  unfold startPump
  split
  · rfl
  split
  · rfl
  split
  · rfl
  · exact ((LanesKept.onSlurry _ s).trans (writePump_kept ..)).upper

theorem stopPump_upper (s : State) : (stopPump s).2.queueOf .shaft = s.queueOf .shaft := by
  unfold stopPump
  split
  · rfl
  split
  · rfl
  · exact (zeroSlurry_kept ..).upper

theorem beginPanel_upper (s : State) : (beginPanel s).2.queueOf .shaft = s.queueOf .shaft := by
  unfold beginPanel
  split
  · rfl
  split <;> rfl

theorem takeSpacing_upper (w : Word) (s : State) :
    (takeSpacing w s).2.queueOf .shaft = s.queueOf .shaft := by
  unfold takeSpacing
  split <;> rfl

theorem removeTrip_upper (k : TripKind) (s : State) :
    (removeTrip k s).queueOf .shaft = s.queueOf .shaft := by
  have release : ∀ g t, (releaseLoop g t).queueOf .shaft = t.queueOf .shaft := by
    intro g t
    unfold releaseLoop
    split
    · exact (enterLoop_kept ..).upper
    · rfl
  have slurry : ∀ t, (releaseSlurry t).queueOf .shaft = t.queueOf .shaft := by
    intro t
    unfold releaseSlurry
    split
    · exact (zeroSlurry_kept ..).upper
    · rfl
  unfold removeTrip
  rw [slurry, release, release]
  split
  · exact (setLink_upper ..)
  · rfl

theorem resetTrip_upper (w : Word) (s : State) :
    (resetTrip w s).2.queueOf .shaft = s.queueOf .shaft := by
  have kind : ∀ k, (resetKind k s).2.queueOf .shaft = s.queueOf .shaft := by
    intro k
    unfold resetKind
    split
    · rfl
    split
    · rfl
    · exact removeTrip_upper k s
  unfold resetTrip
  split
  · rfl
  · exact kind _
  · split
    · rfl
    · exact kind _

/-- Only the upper queue is asked of. -/
theorem State.replyCap_congr {s t : State} (h : t.queueOf .shaft = s.queueOf .shaft) :
    t.replyCap = s.replyCap := by
  rw [State.replyCap, State.replyCap, State.repliesWaiting, State.repliesWaiting, h]

theorem putWord_upper (t : Table) (i : Nat) (w : Word) (s : State) :
    (putWord t i w s).queueOf .shaft = s.queueOf .shaft := by
  cases t <;> try rfl
  unfold putWord putSetting
  simp only
  split <;> rfl

theorem writeWords_upper (t : Table) (i n : Nat) (ws : List Word) (s : State) :
    (writeWords t i n ws s).state.queueOf .shaft = s.queueOf .shaft := by
  induction ws generalizing i n s with
  | nil => rfl
  | cons w ws ih =>
    unfold writeWords
    split
    · rfl
    · rw [ih, putWord_upper]

/-! ## Orders -/

section
variable {b : Bool} {s t u : State}

theorem Regulated.changes (h : Regulated s t) : Changes b s t := .single (.regulated h)

/-- The model's own fields and the drive's base target are not part of any frame or table. -/
theorem Regulated.of_sameBlocks (h : SameBlocks s t) : Regulated s t :=
  ⟨h.pickup, h.selector, h.survey, h.settings, h.straps, by rw [h.lanes], by rw [h.path], by rw [h.slurry],
    by rw [h.path]⟩

/-- A REPLY after an act that leaves the upper queue. -/
theorem changes_reply (items : List Word) (acts : Changes b s t)
    (upper : t.queueOf .shaft = s.queueOf .shaft) (few : s.replyCap = false) :
    Changes b s (reply items t) :=
  acts.trans (Regulated.reply items ((State.replyCap_congr upper).trans few)).changes

theorem changes_takeOrder {code : Nat} {args : List Word} {act : State → Result × State}
    (acts : ∀ s, Changes b s (act s).2)
    (upper : ∀ s, (act s).2.queueOf .shaft = s.queueOf .shaft) (s : State) :
    Changes b s (takeOrder code args act s) := by
  have linked : Changes b s (orderLinkStep s) := (Regulated.orderLinkStep s).changes
  unfold takeOrder
  simp only
  split
  · exact linked
  next few =>
    have few := Bool.eq_false_iff.mpr few
    split
    · exact linked.trans (changes_reply _ .refl rfl few)
    · exact linked.trans (changes_reply _ (acts _) (upper _) few)

/-- An order whose act regulates. -/
theorem changes_takeOrder_regulated {code : Nat} {args : List Word} {act : State → Result × State}
    (acts : ∀ s, Regulated s (act s).2)
    (upper : ∀ s, (act s).2.queueOf .shaft = s.queueOf .shaft) (s : State) :
    Changes b s (takeOrder code args act s) :=
  changes_takeOrder (fun s => (acts s).changes) upper s

end

end Sys2Proof.Machine

/-! SUPPORT. Every event is a run of elementary changes. -/

namespace Sys2Proof.Machine

section
variable {b : Bool}

/-! ## Updates and expiries -/

/-- The class in effect names a row: it is the operator's or a valid band's (R57). -/
theorem evaluatedClass_le {s : State} (law : s.tableLaw) : s.evaluatedClass ≤ 7 := by
  obtain ⟨-, -, -, -, -, -, operator, -⟩ := law
  unfold State.evaluatedClass
  split
  · exact operator
  split
  next entry found =>
    have contains := List.find?_some found
    simp only [bandContains, bandValid, Bool.and_eq_true, decide_eq_true_eq] at contains
    exact contains.1.1
  next => exact operator

theorem changes_evaluateClass (s : State) : Changes b s (evaluateClass s) := by
  unfold evaluateClass
  split
  · exact .refl
  · unfold clampIntegrators
    refine .trans (.trans ?_ (Regulated.onLoop ..).changes) (Regulated.onLoop ..).changes
    refine .single (.classNamed s _ (fun _ => ⟨rfl, rfl, rfl⟩) fun law => ?_)
    have effect := evaluatedClass_le law
    obtain ⟨-, -, -, -, -, -, operator, -⟩ := law
    exact ⟨operator, effect⟩

theorem changes_driveUpdate (g : Gear) (s : State) : Changes b s (driveUpdate g s) := by
  refine .trans ?_ (Regulated.driveUpdate g s).changes
  exact (Regulated.onLoop ..).changes.trans (changes_evaluateClass _)

theorem changes_evaluateSurvey (s : State) : Changes b s (evaluateSurvey s) :=
  .single (.survey s _ (fun _ h => h.surveyEvaluated _) (le_frontier_surveyEvaluated _))

/-- A change of the survey that leaves its table, its frontier, its spacing and its state. -/
theorem changes_onSurvey_depth (f : Survey → Survey) (s : State)
    (same : ∀ v, (f v).trajectory = v.trajectory ∧ (f v).frontier = v.frontier ∧
      (f v).spacing = v.spacing ∧ (f v).state = v.state) : Changes b s (s.onSurvey f) := by
  refine .single (.survey s f (fun v h => ?_) fun v => ?_)
  · obtain ⟨trajectory, frontier, spacing, state⟩ := same v
    exact h.of_eq trajectory frontier spacing fun idle => state.trans idle
  · exact (same v).2.1.ge

theorem changes_depthFrame (items : List Word) (s : State) : Changes b s (depthFrame items s) := by
  unfold depthFrame
  split
  · unfold takeDepth
    refine .tail (.trans ?_ (changes_evaluateSurvey _))
      (.survey _ recordingTest (fun _ h => h.recordingTest) le_frontier_recordingTest)
    exact changes_onSurvey_depth _ s fun _ => ⟨rfl, rfl, rfl, rfl⟩
  · exact .refl

theorem changes_depthExpired (s : State) : Changes b s (depthExpired s) := by
  unfold depthExpired
  refine .trans ?_ (changes_evaluateSurvey _)
  exact changes_onSurvey_depth _ s fun _ => ⟨rfl, rfl, rfl, rfl⟩

theorem changes_attitudeSample (x : AttitudeItems) (s : State) :
    Changes b s (attitudeSample x s) := by
  unfold attitudeSample
  refine .tail (.trans ?_ (changes_evaluateSurvey _)) (.survey _ offerToInterval
    (fun _ h => h.offerToInterval) fun v => (offerToInterval_frontier v).ge)
  refine .single (.survey s _ (fun _ h => (h.disagreeAfter _).fuseSample x) fun v => ?_)
  rw [fuseSample_frontier, disagreeAfter_frontier]

theorem changes_slurryUpdate (s : State) : Changes b s (slurryUpdate s) := by
  have cut : ∀ t : State, Changes b t (slurryCut t) := by
    intro t
    unfold slurryCut
    split
    · exact .refl
    · exact .single (.cutFormed t)
  unfold slurryUpdate
  refine .trans (.trans (.trans ?_ (Regulated.slurryFirst _).changes) (cut _)) (Regulated.formFeed _).changes
  exact (Regulated.onSlurry ..).changes

theorem changes_freshnessExpired (l : Lane) (s : State) : Changes b s (freshnessExpired l s) := by
  unfold freshnessExpired
  simp only
  split
  · exact (Regulated.onLane ..).changes
  · exact (Regulated.onLane ..).changes
  · exact (Regulated.onLane ..).changes.trans (changes_evaluateSurvey _)
  · exact ((Regulated.onLane ..).trans (Regulated.primingStale _)).changes

theorem changes_expiry (t : Timer) {f : State → State} {s : State} (h : Changes b s (f s)) :
    Changes b s (expiry t f s) := by
  unfold expiry
  split
  · exact h
  · exact .refl

/-! ## Frames from a lane -/

theorem changes_handSample (l : Lane) (s : State) : Changes b s (handSample l s) := by
  unfold handSample
  split
  · exact (Regulated.overpressureTest _).changes
  · exact .refl
  · exact changes_attitudeSample ..
  · exact (Regulated.primingSample _).changes

theorem changes_useSample (l : Lane) (items : List Word) (s : State) :
    Changes b s (useSample l items s) := by
  refine .trans ?_ (changes_handSample l _)
  exact (Regulated.onLane ..).changes

theorem changes_laneArrival (l : Lane) (area : ReceiveArea) (s : State) :
    Changes b s (laneArrival l area s) := by
  unfold laneArrival
  split
  · exact (Regulated.countBad ..).changes
  · exact .refl
  · exact ((Regulated.countBad ..).trans (Regulated.decimate ..)).changes
  · split
    · exact (Regulated.laneAlive ..).changes.trans
        ((changes_useSample ..).trans (Regulated.decimate ..).changes)
    split
    · exact ((Regulated.laneAlive ..).trans (Regulated.offerNode ..)).changes
    · exact (Regulated.laneAlive ..).changes

theorem changes_laneReception (l : Lane) (rx : Reception) (s : State) :
    Changes b s (laneReception l rx s) :=
  ((Regulated.storeChars ..).trans (Regulated.emptyArea ..)).changes.trans (changes_laneArrival ..)

/-! ## Orders and TABLE frames -/

theorem changes_beginPanel (s : State) : Changes true s (beginPanel s).2 := by
  unfold beginPanel
  split
  · exact .refl
  split
  · exact .refl
  · exact .single (.panelOpened s rfl)

theorem changes_takeSpacing (w : Word) (s : State) : Changes b s (takeSpacing w s).2 := by
  unfold takeSpacing
  split
  · exact .refl
  · exact .single (.survey s _ (fun _ h => h.orderSpacing _) (le_frontier_orderSpacing _))

theorem changes_setClass (w : Word) (s : State) : Changes b s (s.onSelector fun x =>
    { x with operatorClass := (clamp 0 7 (signed w)).toNat }) := by
  refine .single (.classNamed s _ (fun _ => ⟨rfl, rfl, rfl⟩) fun law => ⟨?_, ?_⟩)
  · have := clamp_mem (lo := 0) (hi := 7) (signed w) (by omega)
    simp only
    omega
  · obtain ⟨-, -, -, -, -, -, -, effect⟩ := law
    exact effect

theorem changes_takeRead (args : List Word) (s : State) : Changes b s (takeRead args s) := by
  unfold takeRead
  split
  · exact .refl
  next few =>
    have few := Bool.eq_false_iff.mpr few
    split <;> exact changes_reply _ .refl rfl few

theorem changes_writeWords (t : Table) (i n : Nat) (ws : List Word) (s : State) :
    Changes b s (writeWords t i n ws s).state := by
  induction ws generalizing i n s with
  | nil => exact .refl
  | cons w ws ih =>
    unfold writeWords
    split
    · exact .refl
    next passes => exact .head (.written s t i w passes) (ih ..)

theorem changes_takeWrite (args : List Word) (s : State) : Changes b s (takeWrite args s) := by
  unfold takeWrite
  split
  · exact .refl
  next few =>
    have few := Bool.eq_false_iff.mpr few
    split
    · exact changes_reply _ .refl rfl few
    · exact changes_reply _ (changes_writeWords ..) (writeWords_upper ..) few

theorem changes_takeBadTable (items : List Word) (s : State) : Changes b s (takeBadTable items s) := by
  unfold takeBadTable
  split
  · exact .refl
  next few => exact changes_reply _ .refl rfl (Bool.eq_false_iff.mpr few)

/-! ## RESTART -/

/-- The last sent values of channels are set, and only the lane block changes. -/
theorem foldl_lastSent_eq (chs : List Channel) (v : Channel → Int) (s : State) :
    ∃ x, chs.foldl (fun t ch => t.onDemand ch fun d => { d with lastSent := v ch }) s =
      { s with lanes := x } :=
  foldl_lanes_eq (g := fun t ch => t.onDemand ch fun d => { d with lastSent := v ch })
    (fun _ _ => ⟨_, rfl⟩) chs s

theorem Regulated.foldl_lastSent (chs : List Channel) (v : Channel → Int) (s : State) :
    Regulated s (chs.foldl (fun t ch => t.onDemand ch fun d => { d with lastSent := v ch }) s) :=
  Regulated.foldl (fun t ch => Regulated.onDemand ch _ t) chs s

/-- A zero DEMAND moves no frame of another lane, and none in transmission. -/
theorem zeroDemand_path (l : Lane) (s : State) :
    (zeroDemand l s).path.tx = s.path.tx ∧
      ∀ k, k ≠ l → (zeroDemand l s).queueOf (.lane k) = s.queueOf (.lane k) := by
  unfold zeroDemand
  split
  · exact ⟨rfl, fun _ _ => rfl⟩
  split
  · exact ⟨rfl, fun _ _ => rfl⟩
  · obtain ⟨x, sent⟩ := foldl_lastSent_eq (laneChannels l) s.zeroValue (markClamped l s)
    rw [sent]
    unfold enqueue
    split
    · simp [State.queueOf]
    · refine ⟨by simp [State.onPath], fun k other => ?_⟩
      simp [State.onPath, State.queueOf, other]

/-- R133: a zero DEMAND for a lane that holds no frame. -/
theorem Regulated.zeroDemand {l : Lane} {s : State} (empty : s.queueOf (.lane l) = [])
    (idle : s.txOf (.lane l) = none) : Regulated s (zeroDemand l s) := by
  unfold Machine.zeroDemand
  split
  · exact refl s
  next up =>
    split
    · exact refl s
    · have marked := (markClamped l s).trans (foldl_lastSent (laneChannels l) s.zeroValue _)
      have path : ((laneChannels l).foldl (fun t ch => t.onDemand ch fun d =>
          { d with lastSent := s.zeroValue ch }) (Machine.markClamped l s)).path = s.path := by
        obtain ⟨x, sent⟩ := foldl_lastSent_eq (laneChannels l) s.zeroValue (Machine.markClamped l s)
        rw [sent]
        exact markClamped_path l s
      refine marked.trans (enqueue (.demand l _ (not_or.mp up).1 ?_ ?_)) <;> rw [path]
      · unfold State.queueOf at empty
        simp [FramePath.waitingCount, empty]
      · unfold State.txOf at idle
        simp [FramePath.sendsDemand, FramePath.sending, idle]

/-- R133: the zero DEMAND frames of lanes that hold no frame. -/
theorem Regulated.zeroDemands {lanes : List Lane} {s : State} (distinct : lanes.Nodup)
    (empty : ∀ l ∈ lanes, s.queueOf (.lane l) = []) (idle : ∀ l ∈ lanes, s.txOf (.lane l) = none) :
    Regulated s (lanes.foldl (fun t l => Machine.zeroDemand l t) s) := by
  induction lanes generalizing s with
  | nil => exact refl s
  | cons l lanes ih =>
    obtain ⟨other, distinct⟩ := List.nodup_cons.mp distinct
    obtain ⟨tx, queue⟩ := zeroDemand_path l s
    have apart : ∀ k ∈ lanes, k ≠ l := fun k inside same => other (same ▸ inside)
    refine (zeroDemand (empty l (.head _)) (idle l (.head _))).trans (ih distinct ?_ ?_)
    · exact fun k inside => (queue k (apart k inside)).trans (empty k (.tail _ inside))
    · intro k inside
      unfold State.txOf at idle ⊢
      rw [tx]
      exact idle k (.tail _ inside)

theorem enqueue_tx (p : Port) (tag : Tag) (f : Frame) (s : State) :
    (enqueue p tag f s).path.tx = s.path.tx := by
  unfold enqueue
  split <;> rfl

theorem enqueue_queueOf_other {p q : Port} {tag : Tag} {f : Frame} {s : State} (other : q ≠ p) :
    (enqueue p tag f s).queueOf q = s.queueOf q := by
  unfold enqueue
  split
  · rfl
  · simp [State.onPath, State.queueOf, other]

theorem changes_takeRestart (args : List Word) (s : State) : Changes b s (takeRestart args s) := by
  have linked : Changes b s (orderLinkStep s) := (Regulated.orderLinkStep s).changes
  have restarted : (restartBlocks (orderLinkStep s)).replyCap = false := by
    rfl
  unfold takeRestart
  simp only
  split
  · exact linked
  next few =>
    have few := Bool.eq_false_iff.mpr few
    split
    · exact linked.trans (changes_reply _ .refl rfl few)
    split
    · exact linked.trans (changes_reply _ .refl rfl few)
    · refine (linked.tail (.restarted _)).trans ?_
      have replied : Changes b (restartBlocks (orderLinkStep s))
          (replyOrder 13 .ok (restartBlocks (orderLinkStep s))) := changes_reply _ .refl rfl restarted
      refine replied.trans ?_
      refine (Regulated.zeroDemands (by decide) (fun l _ => ?_) fun l _ => ?_).changes
      · rw [replyOrder, reply, enqueue_queueOf_other (by simp)]
        cases l <;> rfl
      · rw [State.txOf, replyOrder, reply, enqueue_tx]
        cases l <;> rfl

/-! ## Every event -/

theorem changes_resetLow (cause : LowCause) (s : State) : Changes b s (resetLow cause s) := by
  have same : SameBlocks s { s with draws := s.draws + 1 } :=
    ⟨rfl, rfl, rfl, rfl, rfl, rfl, rfl, rfl, rfl, rfl, rfl⟩
  have drawn : Changes b s { s with draws := s.draws + 1 } := (Regulated.of_sameBlocks same).changes
  unfold resetLow
  split
  · exact .single (.held s)
  split
  · exact .single (.held s)
  simp only
  split
  · exact drawn.tail (.held _)
  · exact drawn

/-- Every event is a run of elementary changes. -/
theorem changes_workOf (c : Instr) (s : State) : Changes (lowersFrontier c) s (workOf c s) := by
  have order : ∀ {b : Bool} {t : State}, Changes b (emptyArea .shaft s) t → Changes b s t :=
    fun h => (Regulated.emptyArea .shaft s).changes.trans h
  cases c with
  | pickupRawChange dt g k level => exact .single (.pickup s g _ fun _ h => h.rawChange s k level)
  | filterTimerExpiry dt g k =>
    exact changes_expiry _ (.single (.pickup s g _ fun _ h => h.filterExpired s k))
  | zeroWindowExpiry dt g => exact changes_expiry _ (.single (.pickup s g _ fun _ h => h.zeroExpired))
  | driveUpdate dt g => exact changes_expiry _ (changes_driveUpdate g s)
  | sampleArrival dt l rx => exact changes_laneReception l rx s
  | laneFrameArrival dt l rx => exact changes_laneReception l rx s
  | silenceTimerExpiry dt l => exact changes_expiry _ (Regulated.faultLane l s).changes
  | freshnessExpiry dt l => exact changes_expiry _ (changes_freshnessExpired l s)
  | depth dt items => exact order (changes_depthFrame items _)
  | depthFreshnessExpiry dt => exact changes_expiry _ (changes_depthExpired s)
  | steeringUpdate dt =>
    exact changes_expiry _ ((Regulated.onSteering _ s).trans (Regulated.steeringWork _)).changes
  | slurryUpdate dt => exact changes_expiry _ (changes_slurryUpdate s)
  | holdDelayExpiry dt => exact changes_expiry _ (Regulated.holdDelayExpired s).changes
  | phaseTimerExpiry dt => exact changes_expiry _ (Regulated.phaseExpired s).changes
  | orderTimerExpiry dt => exact changes_expiry _ (Regulated.orderTimerExpired s).changes
  | reportTimerExpiry dt => exact changes_expiry _ (Regulated.reportTimerExpired s).changes
  | keep dt args => exact order (Regulated.orderLinkStep _).changes
  | driveStart dt args =>
    exact order (changes_takeOrder_regulated Regulated.startDrives startDrives_upper _)
  | driveStop dt args =>
    simp only [workOf]
    refine order (changes_takeOrder_regulated (fun t => ?_) (fun t => ?_) _)
    · exact Regulated.stopBoth t
    · exact (stopBoth_kept t).upper
  | speed dt args =>
    simp only [workOf]
    refine order (changes_takeOrder_regulated (fun t => ?_) (fun t => ?_) _)
    · exact ⟨rfl, rfl, rfl, rfl, rfl, rfl, rfl, rfl, .refl⟩
    · rfl
  | setClass dt args =>
    simp only [workOf]
    refine order (changes_takeOrder (fun t => ?_) (fun t => ?_) _)
    · exact changes_setClass (firstArg args) t
    · rfl
  | modeGearbox dt g args =>
    exact order (changes_takeOrder_regulated (Regulated.modeGearbox g _) (modeGearbox_upper g _) _)
  | modeSteering dt args =>
    exact order (changes_takeOrder_regulated (Regulated.modeSteering _) (modeSteering_upper _) _)
  | modePump dt args =>
    exact order (changes_takeOrder_regulated (Regulated.modePump _) (modePump_upper _) _)
  | pumpStart dt args =>
    exact order (changes_takeOrder_regulated Regulated.startPump startPump_upper _)
  | pumpStop dt args => exact order (changes_takeOrder_regulated Regulated.stopPump stopPump_upper _)
  | panelBegin dt args => exact order (changes_takeOrder changes_beginPanel beginPanel_upper _)
  | panelEnd dt args =>
    simp only [workOf]
    refine order (changes_takeOrder (fun t => ?_) (fun _ => rfl) _)
    exact .single (.survey t closePanel (fun _ h => h.closePanel) fun v => (closePanel_frontier v).ge)
  | setSpacing dt args =>
    exact order (changes_takeOrder (changes_takeSpacing _) (takeSpacing_upper _) _)
  | tripReset dt args =>
    exact order (changes_takeOrder_regulated (Regulated.resetTrip _) (resetTrip_upper _) _)
  | restart dt args => exact order (changes_takeRestart args _)
  | tableRead dt args => exact order (changes_takeRead args _)
  | tableWrite dt args => exact order (changes_takeWrite args _)
  | operatorDemand dt dest items => exact order (Regulated.operatorDemand dest items _).changes
  | deadmanExpiry dt ch => exact changes_expiry _ (Regulated.deadmanExpired ch s).changes
  | refreshTimerExpiry dt l => exact changes_expiry _ (Regulated.refreshExpired l s).changes
  | nodeDown dt f => exact order (Regulated.nodeDown f _).changes
  | shaftFrameDiscard dt rx => exact order .refl
  | transmissionStart dt p => exact (Regulated.startTransmission p s).changes
  | transmissionComplete dt p => exact (Regulated.completeTransmission p s).changes
  | powerOnReset dt straps => exact .single (.poweredOn straps s rfl)
  | orderBadCode dt items =>
    refine order (.trans (Regulated.orderLinkStep _).changes ?_)
    simp only [workOf]
    split
    · exact .refl
    next few => exact changes_reply _ .refl rfl (Bool.eq_false_iff.mpr few)
  | tableBadCode dt items => exact order (changes_takeBadTable items _)
  | modeBadTarget dt args =>
    exact order (changes_takeOrder (fun _ => .refl) (fun _ => rfl) _)
  | rstnLow dt cause => exact changes_resetLow cause s

end

end Sys2Proof.Machine

/-! SUPPORT. What steps keep of the frames: the laws of the pool and of the queues. -/

namespace Sys2Proof.Machine

section
variable {b : Bool} {s t : State}

/-- Of the frames an elementary change makes moves only. -/
theorem Change.moves (change : Change b s t) : PathMoves s.path t.path := by
  cases change with
  | regulated h => exact h.moves
  | pickup | survey | classNamed | panelOpened => exact .refl
  | written _ table index w passes =>
    cases table with
    | route => exact .single (.still rfl rfl rfl)
    | settings =>
      unfold putWord putSetting
      simp only
      split <;> exact .refl
    | _ => exact .refl
  | cutFormed =>
    unfold formCut
    split <;> exact .refl
  | restarted => exact .single (.drop s.path)
  | held => exact .single (.clear rfl rfl rfl)
  | poweredOn => exact .single (.clear rfl rfl rfl)

theorem Changes.moves (changes : Changes b s t) : PathMoves s.path t.path := by
  induction changes with
  | refl => exact .refl
  | tail _ change ih => exact ih.trans change.moves

/-- Of the frames a step makes moves only. -/
theorem step_moves (h : step s = .next t) : PathMoves s.path t.path := by
  obtain same | ⟨u, c, same, -, ⟨g, k, level, rfl⟩ | rfl⟩ := step_cases h
  · rw [same.path]
  · rw [← same.path]
    exact .refl
  · rw [← same.path]
    exact (changes_workOf c u).moves

end

/-- A law of the frame path that every move keeps. -/
theorem PathMoves.keeps {P : FramePath → Prop} (move : ∀ {x y}, PathMove x y → P x → P y)
    {x y : FramePath} (moves : PathMoves x y) (law : P x) : P y := by
  induction moves with
  | refl => exact law
  | tail _ last ih => exact move last ih


/-- Settles O6: a step makes moves of the frame path only, and each of them keeps both laws. -/
theorem stepKeepsPoolLaw : Obligations.StepKeepsPoolLaw := by
  intro s t pool forwarded h
  have both : t.path.poolLaw ∧ t.path.forwardedLaw :=
    PathMoves.keeps (P := fun x => x.poolLaw ∧ x.forwardedLaw)
      (fun move law => ⟨move.poolLaw law.1, move.forwardedLaw law.1 law.2⟩) (step_moves h)
      ⟨pool, forwarded⟩
  exact both

/-- Settles O7, as O6: each move of the frame path keeps the laws of the queues. -/
theorem stepKeepsQueueLaws : Obligations.StepKeepsQueueLaws := by
  intro s t h
  rw [State.upperQueueLaw_iff, State.upperQueueLaw_iff, State.ownFrameLaw_iff, State.ownFrameLaw_iff]
  exact ⟨PathMoves.keeps PathMove.upperLaw (step_moves h), PathMoves.keeps PathMove.ownLaw (step_moves h)⟩

end Sys2Proof.Machine

/-! SUPPORT. What steps keep of the pickups, of the trajectory table and of the frontier. -/

namespace Sys2Proof.Machine

section
variable {b : Bool} {s t : State}

/-- Every pickup keeps to the laws of a pickup. -/
theorem Change.pickups (change : Change b s t) (law : ∀ g, (s.pickupOf g).Sound) :
    ∀ g, (t.pickupOf g).Sound := by
  have same : ∀ {u : State}, u.pickup = s.pickup → ∀ g, (u.pickupOf g).Sound := fun {u} h g => by
    unfold State.pickupOf
    rw [h]
    exact law g
  have pair : ∀ {u : State} (f : Pickup → Pickup), u.pickup = ⟨f s.pickup.one, f s.pickup.two⟩ →
      (∀ p, p.Sound → (f p).Sound) → ∀ g, (u.pickupOf g).Sound := fun {u} f h sound g => by
    unfold State.pickupOf
    rw [h]
    cases g
    · exact sound _ (law .g1)
    · exact sound _ (law .g2)
  cases change with
  | regulated h => exact same h.pickup
  | pickup _ k f sound =>
    intro g
    rw [State.pickupOf_onPickup]
    split
    · exact sound _ (law _)
    · exact law g
  | survey | classNamed | panelOpened => exact same rfl
  | written _ table index w passes => exact same (by rw [putWord_eq])
  | cutFormed =>
    unfold formCut
    split <;> exact same rfl
  | restarted => exact pair restartPickup rfl fun _ _ => .powerOn ..
  | held => exact pair idlePickup rfl fun _ h => h.of_eq rfl rfl rfl rfl
  | poweredOn => intro g; cases g <;> exact .powerOn ..

/-- The survey keeps to the laws of its table. -/
theorem Change.surveyed (change : Change b s t) (law : s.survey.Sound) : t.survey.Sound := by
  cases change with
  | regulated h => rwa [h.survey]
  | survey _ f sound => exact sound _ law
  | panelOpened => exact .openPanel _
  | pickup | classNamed => exact law
  | written _ table index w passes => rwa [putWord_eq]
  | cutFormed =>
    unfold formCut
    split <;> exact law
  | restarted => exact law.restartSurvey
  | held => exact law.of_eq rfl rfl rfl id
  | poweredOn => exact ⟨.nil, nofun, fun opened => absurd rfl opened, rfl, Nat.zero_le _⟩

/-- But for a panel that opens and a power-on reset, the frontier never falls. -/
theorem Change.frontier (change : Change false s t) : s.survey.frontier ≤ t.survey.frontier := by
  cases change with
  | regulated h => rw [h.survey]
  | survey _ f _ rises => exact rises _
  | panelOpened h => contradiction
  | pickup | classNamed => exact le_rfl
  | written _ table index w passes => rw [putWord_eq]
  | cutFormed =>
    unfold formCut
    split <;> exact le_rfl
  | restarted => exact le_rfl
  | held => exact le_rfl
  | poweredOn _ h => contradiction

/-- A property that every elementary change keeps is kept by a run of them. -/
theorem Changes.keeps {P : State → Prop} (change : ∀ {s t}, Change b s t → P s → P t)
    (changes : Changes b s t) (hs : P s) : P t := by
  induction changes with
  | refl => exact hs
  | tail _ last ih => exact change last ih

/-- Settles O12: every pin change and every elementary change of an event keeps the laws of the pickups
and of the survey, and only the two that may lower the frontier do. -/
theorem stepKeepsMeasurementLaws : Obligations.StepKeepsMeasurementLaws := by
  intro s t h
  refine ⟨?_, ?_, fun not_panel not_power => ?_⟩
  · refine step_keeps (P := State.pickupLaw) (fun same law g => ?_) (fun g k level u law => ?_)
      (fun c u => Changes.keeps Change.pickups (changes_workOf c u)) h
    · rw [State.pickupOf, same.pickup]
      exact law g
    · exact Change.pickups (b := false) (.pickup u g _ fun p sound => sound.onTrack k _) law
  · refine step_keeps (P := State.trajectoryLaw) (fun same law => ?_) (fun g k level u law => law)
      (fun c u => Changes.keeps (P := fun s => s.survey.Sound) Change.surveyed (changes_workOf c u)) h
    rw [State.trajectoryLaw_iff, same.survey]
    exact law
  · obtain same | ⟨u, c, same, taken, ⟨g, k, level, rfl⟩ | rfl⟩ := step_cases h
    · rw [same.survey]
    · rw [← same.survey]
      exact le_rfl
    · have lowers : lowersFrontier c = false := by
        cases c with
        | panelBegin dt args => exact absurd taken (not_panel dt args)
        | powerOnReset dt straps => exact absurd taken (not_power dt straps)
        | _ => rfl
      have changes := changes_workOf c u
      rw [lowers] at changes
      rw [← same.survey]
      exact Changes.keeps (P := fun t => u.survey.frontier ≤ t.survey.frontier)
        (fun change before => before.trans change.frontier) changes le_rfl

end

end Sys2Proof.Machine

/-! SUPPORT. A word that passes the check of its table leaves the table as its chapter says (R51, R55, R60,
R115, R128, R137, R166). -/

namespace Sys2Proof.Machine

/-- A word read back from a table in which one word was set. -/
theorem getD_set_word (table : List Word) (i j : Nat) (w d : Word) :
    (table.set i w).getD j d = if i = j ∧ i < table.length then w else table.getD j d := by
  rw [List.getD_eq_getElem?_getD, List.getElem?_set, List.getD_eq_getElem?_getD]
  by_cases same : i = j
  · subst same
    by_cases inside : i < table.length
    · simp [inside]
    · simp [inside]
  · simp [same]

/-- What a passed check says of the tests before it. -/
theorem ite_some_eq_none {α : Type} {p : Prop} [Decidable p] {a : α} {x : Option α} :
    (if p then some a else x) = none ↔ ¬ p ∧ x = none := by
  split <;> simp_all

section
variable {index : Nat} {w : Word}

/-! ## The route table (R137) -/

/-- A lane word read back: the word written, or as it was. -/
theorem routeWord_set (table : List Word) (a word : Nat) :
    routeWord (table.set index w) a word =
      if index = a * 3 + word ∧ index < table.length then w.toNat else routeWord table a word := by
  unfold routeWord
  rw [getD_set_word]
  split <;> rfl

theorem not_mappedElsewhere {table : List Word} {address : Nat}
    (h : mappedElsewhere table address w = false) {a : Nat} (bound : a < 64) (other : a ≠ address) :
    routeWord table a 0 ≠ w.toNat := by
  simp only [mappedElsewhere, List.any_eq_false, List.mem_range, decide_eq_true_eq, not_and] at h
  exact h a bound other

theorem routeTableOk_set {s : State} (law : routeTableOk s.ownAddress s.path.route)
    (passes : s.checkRoute index w = none) : routeTableOk s.ownAddress (s.path.route.set index w) := by
  obtain ⟨length, ranges, unique, own⟩ := law
  simp only [State.checkRoute, ite_some_eq_none] at passes
  obtain ⟨range, passes⟩ := passes
  have range : routeRange (index % 3) w = true := by simpa using range
  have lane_word : index % 3 = 0 → w ≠ 0 → ¬ (index / 3 ≤ 1 ∨ index / 3 = s.ownAddress) ∧
      mappedElsewhere s.path.route (index / 3) w = false := by
    intro lane mapped
    simp only [lane, ne_eq, not_true_eq_false, if_false, ite_some_eq_none] at passes
    exact ⟨fun taken => passes.1 ⟨mapped, taken⟩, Bool.eq_false_iff.mpr fun elsewhere => passes.2.1 ⟨mapped, elsewhere⟩⟩
  refine ⟨by rw [List.length_set, length], fun i hi => ?_, ?_, ?_⟩
  · rw [getD_set_word]
    split
    next here => rw [← here.1]; exact range
    next => exact ranges i hi
  · intro a ha c hc mapped same
    rw [routeWord_set, routeWord_set] at same
    rw [routeWord_set] at mapped
    by_cases here : index = a * 3 + 0 ∧ index < s.path.route.length <;>
      by_cases there : index = c * 3 + 0 ∧ index < s.path.route.length
    · omega
    · rw [if_pos here] at mapped
      rw [if_pos here, if_neg there] at same
      exact absurd same.symm (not_mappedElsewhere (lane_word (by omega) fun zero => mapped (by simp [zero])).2 hc (by omega))
    · rw [if_neg here, if_pos there] at same
      rw [if_neg here] at mapped
      exact absurd same (not_mappedElsewhere
        (lane_word (by omega) fun zero => mapped (by simp [same, zero])).2 ha (by omega))
    · rw [if_neg here, if_neg there] at same
      rw [if_neg here] at mapped
      exact unique a ha c hc mapped same
  · intro a ha reserved
    rw [routeWord_set]
    split
    next here =>
      by_contra mapped
      exact (lane_word (by omega) fun zero => mapped (by simp [zero])).1
        (by rwa [show index / 3 = a by omega])
    next => exact own a ha reserved

/-! ## The envelope table (R128) -/

theorem envelopeOk_set {table : List Word} (law : envelopeOk table)
    (passes : checkEnvelope table index w = none) : envelopeOk (table.set index w) := by
  obtain ⟨length, entries⟩ := law
  refine ⟨by rw [List.length_set, length], fun e he => ?_⟩
  obtain ⟨low, order, high, slew⟩ := entries e he
  simp only [getD_set_word, length]
  unfold checkEnvelope at passes
  have word : index % 3 = 0 ∨ index % 3 = 1 ∨ index % 3 = 2 := by omega
  by_cases here : index / 3 = e
  · obtain word | word | word := word <;>
      simp only [word, ite_some_eq_none, not_not, not_lt, here] at passes
    · obtain ⟨⟨above, below⟩, ordered, -⟩ := passes
      rw [if_pos (by omega), if_neg (by omega), if_neg (by omega)]
      exact ⟨above, ordered, high, slew⟩
    · obtain ⟨⟨above, below⟩, ordered, -⟩ := passes
      rw [if_neg (by omega), if_pos (by omega), if_neg (by omega)]
      exact ⟨low, ordered, below, slew⟩
    · rw [if_neg (by omega), if_neg (by omega), if_pos (by omega)]
      exact ⟨low, order, high, passes.1⟩
  · rw [if_neg (by omega), if_neg (by omega), if_neg (by omega)]
    exact ⟨low, order, high, slew⟩

/-! ## The class table (R51) -/

theorem classWord_set (table : List Word) (row f : Nat) :
    classWord (table.set index w) row f =
      if index = row * 21 + f ∧ index < table.length then unsigned w else classWord table row f := by
  unfold classWord
  rw [getD_set_word]
  split <;> rfl

theorem classTableOk_set {table : List Word} (law : classTableOk table)
    (range : classRange (index % 21) w = true)
    (order : pressureOrder table (index / 21) (index % 21) w = false) :
    classTableOk (table.set index w) := by
  obtain ⟨length, rows⟩ := law
  refine ⟨by rw [List.length_set, length], fun row hrow => ?_⟩
  obtain ⟨ranges, below, above⟩ := rows row hrow
  refine ⟨fun f hf => ?_, ?_⟩
  · rw [getD_set_word]
    split
    next here => rwa [show f = index % 21 by omega]
    next => exact ranges f hf
  · have lim : ClassField.pLim.number = 6 := rfl
    have top : ClassField.pMax.number = 7 := rfl
    have trip : ClassField.pTrip.number = 9 := rfl
    rw [classWord_set, classWord_set, classWord_set, length]
    unfold pressureOrder at order
    by_cases here : index / 21 = row
    · subst here
      by_cases first : index % 21 = ClassField.pLim.number
      · rw [if_pos first, decide_eq_false_iff_not, not_le] at order
        rw [if_pos (by omega), if_neg (by omega), if_neg (by omega)]
        exact ⟨order, above⟩
      by_cases second : index % 21 = ClassField.pMax.number
      · rw [if_neg first, if_pos second, decide_eq_false_iff_not, not_or, not_le, not_lt] at order
        rw [if_neg (by omega), if_pos (by omega), if_neg (by omega)]
        exact order
      by_cases third : index % 21 = ClassField.pTrip.number
      · rw [if_neg first, if_neg second, if_pos third, decide_eq_false_iff_not, not_lt] at order
        rw [if_neg (by omega), if_neg (by omega), if_pos (by omega)]
        exact ⟨below, order⟩
      rw [if_neg (by omega), if_neg (by omega), if_neg (by omega)]
      exact ⟨below, above⟩
    · rw [if_neg (by omega), if_neg (by omega), if_neg (by omega)]
      exact ⟨below, above⟩

/-! ## The band table (R55) -/

theorem bandTableOk_set {table : List Word} (law : bandTableOk table)
    (passes : checkBand table index w = none) : bandTableOk (table.set index w) := by
  obtain ⟨length, ranges, -⟩ := law
  simp only [checkBand, ite_some_eq_none, Bool.not_eq_false] at passes
  obtain ⟨range, order⟩ := passes
  refine ⟨by rw [List.length_set, length], fun i hi => ?_, ?_⟩
  · rw [getD_set_word]
    split
    next here => rwa [← here.1]
    next => exact ranges i hi
  · by_contra broken
    simp [broken] at order

/-! ## The curve table (R60) -/

theorem curveTableOk_set {table : List Word} (law : curveTableOk table)
    (passes : checkCurve table index w = none) : curveTableOk (table.set index w) := by
  obtain ⟨length, curves⟩ := law
  refine ⟨by rw [List.length_set, length], fun c hc => ?_⟩
  obtain ⟨rising, within⟩ := curves c hc
  unfold checkCurve at passes
  unfold curveX curveY at *
  simp only [getD_set_word, length, Nat.add_sub_cancel] at *
  by_cases y : index % 2 = 1
  · simp only [y, if_true, ite_some_eq_none, not_lt] at passes
    refine ⟨fun i hi => ?_, fun i hi => ?_⟩
    · rw [if_neg (by omega), if_neg (by omega)]
      exact rising i hi
    · split
      · exact passes.1
      · exact within i hi
  · simp only [y, if_false, ite_some_eq_none, not_or, not_and, not_le] at passes
    obtain ⟨⟨above, below⟩, -⟩ := passes
    refine ⟨fun i hi => ?_, fun i hi => ?_⟩
    · by_cases first : index = c * 18 + i * 2
      · rw [if_pos (by omega), if_neg (by omega)]
        have := below (by omega)
        rwa [show index / 18 * 18 + (index % 18 / 2 + 1) * 2 = c * 18 + (i + 1) * 2 by omega] at this
      by_cases second : index = c * 18 + (i + 1) * 2
      · rw [if_neg (by omega), if_pos (by omega)]
        have := above (by omega)
        rwa [show index / 18 * 18 + (index % 18 / 2 - 1) * 2 = c * 18 + i * 2 by omega] at this
      · rw [if_neg (by omega), if_neg (by omega)]
        exact rising i hi
    · rw [if_neg (by omega)]
      exact within i hi

/-! ## The settings table (R166) -/

/-- A setting read after a word has been written. -/
theorem setting_set (s : State) (x : Setting) :
    State.setting { s with settings := s.settings.set index w } x =
      if index = x.index ∧ index < s.settings.length then settingNumber index w else s.setting x := by
  unfold State.setting
  simp only [getD_set_word]
  split
  next here => rw [here.1]
  next => rfl

theorem settingsOk_set {s : State} (law : s.settingsOk) (passes : s.checkSetting index w = none) :
    State.settingsOk { s with settings := s.settings.set index w } := by
  obtain ⟨length, ranges, prime, density⟩ := law
  simp only [State.checkSetting, ite_some_eq_none, Bool.not_eq_false, Bool.not_eq_true] at passes
  obtain ⟨range, order, -⟩ := passes
  refine ⟨by rw [List.length_set, length], fun i hi => ?_, ?_, ?_⟩
  · simp only [getD_set_word]
    split
    next here => rwa [← here.1]
    next => exact ranges i hi
  · have start : Setting.primeStart.index = 15 := rfl
    have top : Setting.primeMax.index = 17 := rfl
    rw [setting_set, setting_set, length]
    unfold State.settingOrder at order
    by_cases first : index = Setting.primeStart.index
    · rw [if_pos first, decide_eq_false_iff_not, not_lt] at order
      rwa [if_pos (by omega), if_neg (by omega)]
    by_cases second : index = Setting.primeMax.index
    · rw [if_neg first, if_pos second, decide_eq_false_iff_not, not_lt] at order
      rwa [if_neg (by omega), if_pos (by omega)]
    · rwa [if_neg (by omega), if_neg (by omega)]
  · have start : Setting.primeStart.index = 15 := rfl
    have top : Setting.primeMax.index = 17 := rfl
    have low : Setting.densityLow.index = 32 := rfl
    have high : Setting.densityHigh.index = 33 := rfl
    rw [setting_set, setting_set, length]
    unfold State.settingOrder at order
    by_cases first : index = Setting.densityLow.index
    · rw [if_neg (by omega), if_neg (by omega), if_pos first, decide_eq_false_iff_not, not_le] at order
      rwa [if_pos (by omega), if_neg (by omega)]
    by_cases second : index = Setting.densityHigh.index
    · rw [if_neg (by omega), if_neg (by omega), if_neg first, if_pos second, decide_eq_false_iff_not,
        not_le] at order
      rwa [if_neg (by omega), if_pos (by omega)]
    · rwa [if_neg (by omega), if_neg (by omega)]

end

end Sys2Proof.Machine

/-! SUPPORT. The ranges of settings and class fields, the parts of the cut factor, and what steps keep of the
writable tables and of the cut factor. -/

namespace Sys2Proof.Machine

/-! ## Settings and class fields in their ranges -/

theorem Setting.index_lt (x : Setting) : x.index < 43 := by cases x <;> decide

/-- R166: a setting lies between the ends of its row. -/
theorem setting_mem {s : State} (law : s.settingsOk) {x : Setting} {r : SettingRow}
    (row : settingRows[x.index]? = some r) : r.lo ≤ s.setting x ∧ s.setting x ≤ r.hi := by
  obtain ⟨-, ranges, -⟩ := law
  have range := ranges x.index x.index_lt
  simp only [settingRange, row, SettingRow.holds, Bool.and_eq_true, decide_eq_true_eq] at range
  exact range.1.1

theorem ClassField.number_lt (f : ClassField) : f.number < 21 := by cases f <;> decide

/-- R50: a field of the class in effect lies between the ends of its row. -/
theorem classField_mem {s : State} (law : classTableOk s.selector.classTable)
    (named : s.selector.classInEffect ≤ 7) {f : ClassField} {r : SettingRow}
    (row : classRanges[f.number]? = some r) : r.lo ≤ s.classField f ∧ s.classField f ≤ r.hi := by
  obtain ⟨-, rows⟩ := law
  obtain ⟨ranges, -⟩ := rows s.selector.classInEffect (by omega)
  have range := ranges f.number f.number_lt
  simp only [classRange, row, SettingRow.holds, decide_eq_true_eq] at range
  exact range

/-! ## The parts of the cut factor (R114) -/

section
variable {cMin lo hi qSet : Int}

/-- The slope of the density part lies between its ends. -/
theorem densitySlope_mem (h : cMin ≤ 1024) (order : lo < hi) {rho : Int} (above : lo ≤ rho)
    (below : rho ≤ hi) : 0 ≤ roundDiv ((1024 - cMin) * (rho - lo)) (hi - lo) ∧
      roundDiv ((1024 - cMin) * (rho - lo)) (hi - lo) ≤ 1024 - cMin := by
  have width : 0 < hi - lo := by omega
  refine ⟨roundDiv_nonneg (mul_nonneg (by omega) (by omega)) width, roundDiv_le width ?_⟩
  exact mul_le_mul_of_nonneg_left (by omega) (by omega)

theorem cutDensity_mem (h : cMin ≤ 1024) (order : lo < hi) (rho : Int) :
    cMin ≤ cutDensity cMin lo hi rho ∧ cutDensity cMin lo hi rho ≤ 1024 := by
  unfold cutDensity
  split
  · exact ⟨h, le_rfl⟩
  split
  · exact ⟨le_rfl, h⟩
  · have slope := densitySlope_mem h order (rho := rho) (by omega) (by omega)
    omega

theorem cutFlow_mem (h : cMin ≤ 1024) (positive : 0 < qSet) (q : Int) :
    cMin ≤ cutFlow cMin qSet q ∧ cutFlow cMin qSet q ≤ 1024 := by
  unfold cutFlow
  split
  · exact ⟨h, le_rfl⟩
  · exact ⟨le_max_left .., max_le h (roundDiv_le positive (by omega))⟩

/-- The density part never rises with the density. -/
theorem cutDensity_anti (h : cMin ≤ 1024) (order : lo < hi) {rho rho' : Int} (le : rho ≤ rho') :
    cutDensity cMin lo hi rho' ≤ cutDensity cMin lo hi rho := by
  by_cases low : rho ≤ lo
  · exact (cutDensity_mem h order rho').2.trans_eq (if_pos low).symm
  by_cases high : hi ≤ rho'
  · have bottom : cutDensity cMin lo hi rho' = cMin := by
      rw [cutDensity, if_neg (by omega), if_pos high]
    exact bottom.trans_le (cutDensity_mem h order rho).1
  · rw [cutDensity, cutDensity, if_neg (by omega), if_neg high, if_neg low, if_neg (by omega)]
    have := roundDiv_mono (b := hi - lo) (by omega)
      (mul_le_mul_of_nonneg_left (sub_le_sub_right le lo) (show 0 ≤ 1024 - cMin by omega))
    omega

/-- The flow part never falls with the flow. -/
theorem cutFlow_mono (h : cMin ≤ 1024) (positive : 0 < qSet) {q q' : Int} (le : q ≤ q') :
    cutFlow cMin qSet q ≤ cutFlow cMin qSet q' := by
  by_cases full : qSet ≤ q'
  · exact (cutFlow_mem h positive q).2.trans_eq (if_pos full).symm
  · rw [cutFlow, cutFlow, if_neg (by omega), if_neg full]
    exact max_le_max le_rfl (roundDiv_mono positive (by omega))

end

/-- Settles O41: the ends and the slopes of both parts. -/
theorem cutFactorParts : Obligations.CutFactorParts := by
  intro cMin lo hi qSet _ h order positive
  refine ⟨fun rho => ⟨(cutDensity_mem h order rho).1, (cutDensity_mem h order rho).2, fun low => if_pos low, ?_, ?_⟩,
    fun rho rho' => cutDensity_anti h order,
    fun q => ⟨(cutFlow_mem h positive q).1, (cutFlow_mem h positive q).2, fun full => if_pos full, ?_⟩,
    fun q q' => cutFlow_mono h positive⟩
  · intro high
    rw [cutDensity, if_neg (by omega), if_pos high]
  · intro above below
    rw [cutDensity, if_neg (by omega), if_neg (by omega)]
  · intro short
    rw [cutFlow, if_neg (by omega)]

/-! ## Table writes -/

section
variable {b : Bool} {s t : State}

/-- Only the tables, the classes and the own address are asked of. -/
theorem State.tableLaw_congr (law : s.tableLaw) (straps : t.straps = s.straps)
    (route : t.path.route = s.path.route) (envelope : t.lanes.envelope = s.lanes.envelope)
    (selector : t.selector = s.selector) (settings : t.settings = s.settings) : t.tableLaw := by
  unfold State.tableLaw State.settingsOk State.setting State.ownAddress at *
  rwa [straps, route, envelope, selector, settings]

/-- A word that passes its check keeps every table within its chapter. -/
theorem tableLaw_putWord {table : Table} {index : Nat} {w : Word} (law : s.tableLaw)
    (passes : s.checkWord table index w = none) : (putWord table index w s).tableLaw := by
  obtain ⟨route, envelope, classes, bands, curves, settings, operator, effect⟩ := law
  cases table with
  | route => exact ⟨routeTableOk_set route passes, envelope, classes, bands, curves, settings, operator, effect⟩
  | envelope =>
    exact ⟨route, envelopeOk_set envelope passes, classes, bands, curves, settings, operator, effect⟩
  | classes =>
    simp only [State.checkWord, State.checkClass, ite_some_eq_none, Bool.not_eq_false, Bool.not_eq_true]
      at passes
    obtain ⟨-, range, order, -⟩ := passes
    exact ⟨route, envelope, classTableOk_set classes range order, bands, curves, settings, operator, effect⟩
  | bands =>
    exact ⟨route, envelope, classes, bandTableOk_set bands passes, curves, settings, operator, effect⟩
  | curves =>
    exact ⟨route, envelope, classes, bands, curveTableOk_set curves passes, settings, operator, effect⟩
  | settings =>
    have written := settingsOk_set settings passes
    unfold putWord putSetting
    simp only
    split <;> exact ⟨route, envelope, classes, bands, curves, written, operator, effect⟩
  | trajectory | identification => contradiction

/-- The route table at the end of power-on reset maps no address below 10 (R149). -/
theorem routeTableOk_powerOn (addr : BitVec 3) : routeTableOk (2 + addr.toNat) FramePath.powerOn.route := by
  have low : ∀ a < 10, routeWord FramePath.powerOn.route a 0 = 0 := by decide +kernel
  refine ⟨by decide +kernel, by decide +kernel, by decide +kernel, fun a _ reserved => low a ?_⟩
  omega

/-- The tables at the end of power-on reset (R58, R133, R149, R162). -/
theorem tableLaw_powerOn (straps : Straps) (s : State) : (powerOn straps s).tableLaw := by
  refine ⟨routeTableOk_powerOn straps.addr, ?_, ?_, ?_, ?_, ?_, ?_, ?_⟩
  · show envelopeOk LaneBlock.powerOn.envelope
    unfold envelopeOk
    decide +kernel
  · show classTableOk Selector.powerOn.classTable
    unfold classTableOk
    decide +kernel
  · show bandTableOk Selector.powerOn.bandTable
    unfold bandTableOk
    decide +kernel
  · show curveTableOk Selector.powerOn.curveTable
    unfold curveTableOk
    decide +kernel
  · show defaultSettings.length = 43 ∧
      (∀ i < 43, settingRange i (settingNumber i (defaultSettings.getD i 0)) = true) ∧
      settingNumber 15 (defaultSettings.getD 15 0) ≤ settingNumber 17 (defaultSettings.getD 17 0) ∧
      settingNumber 32 (defaultSettings.getD 32 0) < settingNumber 33 (defaultSettings.getD 33 0)
    decide +kernel
  · exact (by decide : Selector.powerOn.operatorClass ≤ 7)
  · exact (by decide : Selector.powerOn.classInEffect ≤ 7)

theorem Change.tables (change : Change b s t) (law : s.tableLaw) : t.tableLaw := by
  cases change with
  | regulated h => exact State.tableLaw_congr law h.straps h.route h.envelope h.selector h.settings
  | classNamed _ f tables names =>
    obtain ⟨operator', effect'⟩ := names law
    obtain ⟨classes', bands', curves'⟩ := tables s.selector
    obtain ⟨route, envelope, classes, bands, curves, settings, -, -⟩ := law
    refine ⟨route, envelope, ?_, ?_, ?_, settings, operator', effect'⟩
    · exact classes' ▸ classes
    · exact bands' ▸ bands
    · exact curves' ▸ curves
  | pickup | survey | panelOpened => exact law
  | written _ table index w passes => exact tableLaw_putWord law passes
  | cutFormed =>
    unfold formCut
    split <;> exact law
  | restarted => exact law
  | held => exact law
  | poweredOn => exact tableLaw_powerOn ..

theorem powerOn_cut {timer : Timer} :
    128 ≤ (Slurry.powerOn timer).cut ∧ (Slurry.powerOn timer).cut ≤ 1024 := by
  simp [Slurry.powerOn]

/-- The cut factor stays from 128 to 1024: each part lies from C_min to 1024, and C_min from 128 (R114). -/
theorem Change.cut (change : Change b s t) (law : s.tableLaw) (cut : s.cutLaw) : t.cutLaw := by
  obtain ⟨-, -, classes, -, -, settings, -, effect⟩ := law
  cases change with
  | regulated h =>
    unfold State.cutLaw
    rwa [h.cut]
  | written _ table index w passes =>
    cases table with
    | settings =>
      unfold putWord putSetting
      simp only
      split
      next minimum =>
        simp only [State.checkWord, State.checkSetting, ite_some_eq_none, Bool.not_eq_false] at passes
        obtain ⟨range, -⟩ := passes
        obtain ⟨low, high⟩ := cut
        have row : settingRows[index]? = some ⟨128, 1024, 256⟩ := by rw [minimum]; rfl
        simp only [settingRange, row, SettingRow.holds, Bool.and_eq_true, decide_eq_true_eq] at range
        exact ⟨le_max_of_le_left low, max_le high range.1.1.2⟩
      next => exact cut
    | _ => exact cut
  | cutFormed =>
    have least := setting_mem settings (x := .cutMin) (r := ⟨128, 1024, 256⟩) rfl
    have flow := classField_mem classes effect (f := .qSet) (r := ⟨100, 6000, 100⟩) rfl
    simp only at least flow
    obtain ⟨-, -, -, density⟩ := settings
    unfold formCut
    split
    next rho q _ _ _ =>
      have byDensity := cutDensity_mem least.2 density rho
      have byFlow := cutFlow_mem (qSet := s.classField .qSet) least.2 (by omega) q
      exact ⟨le_min (by omega) (by omega), (min_le_left _ _).trans byDensity.2⟩
    next => exact cut
  | restarted => exact powerOn_cut
  | poweredOn => exact powerOn_cut
  | _ => exact cut

/-- What O13 asks of a state that comes after `s`. -/
def TablesKept (s u : State) : Prop := u.tableLaw ∧ (s.cutLaw → u.cutLaw)

/-- Settles O13: every elementary change of an event keeps the tables, and with them the cut factor. -/
theorem stepKeepsTableLaws : Obligations.StepKeepsTableLaws := by
  intro s t law h
  have blocks : ∀ {u v : State}, SameBlocks u v → TablesKept s u → TablesKept s v := by
    rintro u v same ⟨tables, cut⟩
    refine ⟨State.tableLaw_congr tables same.straps (by rw [same.path]) (by rw [same.lanes]) same.selector
      same.settings, fun before => ?_⟩
    rw [State.cutLaw, same.slurry]
    exact cut before
  have change : ∀ {b : Bool} {u v : State}, Change b u v → TablesKept s u → TablesKept s v := by
    rintro b u v change ⟨tables, cut⟩
    exact ⟨change.tables tables, fun before => change.cut tables (cut before)⟩
  exact step_keeps (P := TablesKept s) blocks (fun _ _ _ _ kept => kept)
    (fun c u => Changes.keeps change (changes_workOf c u)) h ⟨law, id⟩

end

end Sys2Proof.Machine

/-! SUPPORT. What is quiet: the operations that send, measure, time or write, and that no law of the loops, of
steering, of the trips or of the owners looks at. Said once for each shared operation. -/

namespace Sys2Proof.Machine

/-- What the laws look at in a drive loop. -/
def DriveLoop.core (l : DriveLoop) : LoopState × Int × UnjamPhase × Int × Bool × Nat :=
  (l.state, l.integ, l.phase, l.ramped, l.sat, l.stallCount)

/-- What the laws look at in the slurry loop. -/
def Slurry.core (x : Slurry) : SlurryState × AgitationPhase × Int × Int × Nat × Nat × Nat × Int :=
  (x.state, x.phase, x.output, x.integ, x.detectCount, x.dwellCount, x.suctionCount, x.feed)

/-- What the laws look at in steering. -/
def Steering.core (x : Steering) : SteerState × Option Int × Option Int × PerPlate Int × Int :=
  (x.state, x.projX, x.projY, x.targets, x.trim)

/-- What the laws look at in the orders block. -/
def Orders.core (x : Orders) : LinkState × List TripKind × Option TripRecord := (x.link, x.trips, x.record)

/-- Nothing that a law of the loops, of steering, of the trips or of the owners looks at has changed. -/
structure Quiet (s t : State) : Prop where
  loop : ∀ g, (t.loopOf g).core = (s.loopOf g).core
  slurry : t.slurry.core = s.slurry.core
  steering : t.steering.core = s.steering.core
  orders : t.orders.core = s.orders.core
  owner : ∀ ch, (t.demand ch).owner = (s.demand ch).owner
  iMax : t.classField .iMax = s.classField .iMax

namespace Quiet

variable {s t u : State}

theorem refl (s : State) : Quiet s s := ⟨fun _ => rfl, rfl, rfl, rfl, fun _ => rfl, rfl⟩

theorem trans (h : Quiet s t) (k : Quiet t u) : Quiet s u :=
  ⟨fun g => (k.loop g).trans (h.loop g), k.slurry.trans h.slurry, k.steering.trans h.steering,
    k.orders.trans h.orders, fun ch => (k.owner ch).trans (h.owner ch), k.iMax.trans h.iMax⟩

theorem foldl {α : Type} {g : State → α → State} (hg : ∀ t a, Quiet t (g t a)) (as : List α)
    (s : State) : Quiet s (as.foldl g s) := by
  induction as generalizing s with
  | nil => exact refl s
  | cons a as ih => exact (hg s a).trans (ih (g s a))

/-- Only the lanes and the frames move, and no owner. -/
theorem of_lanes (h : t = { s with lanes := t.lanes, path := t.path })
    (owner : ∀ ch, (t.demand ch).owner = (s.demand ch).owner) : Quiet s t := by
  refine ⟨fun g => ?_, ?_, ?_, ?_, owner, ?_⟩ <;> rw [h] <;> rfl

/-- Only the frames move. -/
theorem of_path (h : t = { s with path := t.path }) : Quiet s t :=
  of_lanes (h.trans (by rw [h])) fun ch => by rw [h]; rfl

/-! ### Changes of one block -/

theorem onLoop (g : Gear) (f : DriveLoop → DriveLoop) (s : State)
    (same : ∀ l, (f l).core = l.core := by exact fun _ => rfl) : Quiet s (s.onLoop g f) := by
  refine ⟨fun h => ?_, rfl, rfl, rfl, fun _ => rfl, rfl⟩
  rw [State.loopOf_onLoop]
  split
  next here => rw [here, same]
  next => rfl

theorem onSlurry (f : Slurry → Slurry) (s : State)
    (same : ∀ x, (f x).core = x.core := by exact fun _ => rfl) : Quiet s (s.onSlurry f) :=
  ⟨fun _ => rfl, same _, rfl, rfl, fun _ => rfl, rfl⟩

theorem onSteering (f : Steering → Steering) (s : State)
    (same : ∀ x, (f x).core = x.core := by exact fun _ => rfl) : Quiet s (s.onSteering f) :=
  ⟨fun _ => rfl, rfl, same _, rfl, fun _ => rfl, rfl⟩

theorem onOrders (f : Orders → Orders) (s : State)
    (same : ∀ x, (f x).core = x.core := by exact fun _ => rfl) : Quiet s (s.onOrders f) :=
  ⟨fun _ => rfl, rfl, rfl, same _, fun _ => rfl, rfl⟩

theorem onLane (l : Lane) (f : LaneBox → LaneBox) (s : State) : Quiet s (s.onLane l f) :=
  ⟨fun _ => rfl, rfl, rfl, rfl, fun ch => by rw [State.demand_onLane], rfl⟩

theorem onDemand (ch : Channel) (f : Demand → Demand) (s : State)
    (same : ∀ d, (f d).owner = d.owner := by exact fun _ => rfl) : Quiet s (s.onDemand ch f) := by
  refine of_lanes rfl fun c => ?_
  rw [State.demand_onDemand]
  split
  next here => rw [here, same]
  next => rfl

theorem onSurvey (f : Survey → Survey) (s : State) : Quiet s (s.onSurvey f) :=
  ⟨fun _ => rfl, rfl, rfl, rfl, fun _ => rfl, rfl⟩

theorem onPickup (g : Gear) (f : Pickup → Pickup) (s : State) : Quiet s (s.onPickup g f) :=
  ⟨fun _ => rfl, rfl, rfl, rfl, fun _ => rfl, rfl⟩

theorem onPath (f : FramePath → FramePath) (s : State) : Quiet s (s.onPath f) := of_path rfl

theorem of_sameBlocks (h : SameBlocks s t) : Quiet s t := by
  refine ⟨fun g => ?_, by rw [h.slurry], by rw [h.steering], by rw [h.orders], fun ch => ?_, ?_⟩
  · rw [State.loopOf, h.drive]; rfl
  · unfold State.demand
    rw [h.lanes]
  · rw [State.classField, h.selector]; rfl

/-! ### Frames, requested values, lanes -/

theorem enqueue (p : Port) (tag : Tag) (f : Frame) (s : State) : Quiet s (enqueue p tag f s) :=
  of_path (enqueue_eq p tag f s)

theorem sendReport (tag : Tag) (s : State) : Quiet s (sendReport tag s) := of_path (sendReport_eq tag s)

theorem reply (items : List Word) (s : State) : Quiet s (reply items s) := of_path (reply_eq items s)

theorem composeDue (l : Lane) (s : State) : Quiet s (composeDue l s) :=
  of_lanes (composeDue_eq l s) (composeDue_owner l s)

theorem setRequested (ch : Channel) (v : Int) (s : State) : Quiet s (setRequested ch v s) :=
  of_lanes (setRequested_eq ch v s) (setRequested_owner ch · v s)

theorem startHoldDelay (s : State) : Quiet s (startHoldDelay s) := onSlurry ..

theorem regulatePlates (s : State) : Quiet s (regulatePlates s) :=
  foldl (fun t _ => setRequested _ _ t) _ s

theorem laneAlive (l : Lane) (s : State) : Quiet s (laneAlive l s) := by
  unfold Machine.laneAlive
  split
  · exact onLane ..
  · exact (onLane ..).trans (composeDue ..)

theorem offerFrame (p : Port) (tag : Tag) (f : Frame) (s : State) : Quiet s (offerFrame p tag f s) :=
  of_path (offerFrame_eq p tag f s)

theorem decimate (f : Frame) (s : State) : Quiet s (decimate f s) := of_path (decimate_eq f s)

theorem nodeDown (f : Frame) (s : State) : Quiet s (nodeDown f s) := by
  unfold Machine.nodeDown
  split
  · exact refl s
  split
  · exact offerFrame ..
  · exact refl s

theorem mergeItem (ch : Channel) (w : Word) (s : State) : Quiet s (mergeItem ch w s) := by
  unfold Machine.mergeItem
  split
  · exact (onDemand ..).trans (setRequested ..)
  · exact refl s

theorem mergeItems (chs : List Channel) (ws : List Word) (s : State) :
    Quiet s (mergeItems chs ws s) := by
  induction chs generalizing ws s with
  | nil => exact refl s
  | cons ch chs ih =>
    cases ws with
    | nil => exact refl s
    | cons w ws => exact (mergeItem ch w s).trans (ih ws _)

theorem operatorDemand (dest : Byte) (items : List Word) (s : State) :
    Quiet s (operatorDemand dest items s) := by
  unfold Machine.operatorDemand
  split
  · exact refl s
  split
  · exact refl s
  · exact mergeItems ..

theorem deadmanExpired (ch : Channel) (s : State) : Quiet s (deadmanExpired ch s) :=
  (onDemand ..).trans (setRequested ..)

theorem refreshExpired (l : Lane) (s : State) : Quiet s (refreshExpired l s) := by
  unfold Machine.refreshExpired
  simp only
  split
  · exact onLane ..
  · exact (onLane ..).trans (composeDue ..)

theorem setLastSent (chs : List Channel) (ws : List Word) (s : State) :
    Quiet s (setLastSent chs ws s) := by
  induction chs generalizing ws s with
  | nil => exact refl s
  | cons ch chs ih =>
    cases ws with
    | nil => exact refl s
    | cons w ws => exact (onDemand ch _ s).trans (ih ws _)

theorem noteStart (p : Port) (e : Queued) (s : State) : Quiet s (noteStart p e s) := by
  unfold Machine.noteStart
  split
  · exact onPath ..
  · split
    · exact setLastSent ..
    · exact refl s

theorem startTransmission (p : Port) (s : State) : Quiet s (startTransmission p s) := by
  obtain ⟨same, -⟩ | ⟨e, -, -, same⟩ := startTransmission_cases p s <;> rw [same]
  · exact refl s
  · exact (onPath ..).trans (noteStart ..)

theorem demandComplete (l : Lane) (s : State) : Quiet s (demandComplete l s) := by
  unfold Machine.demandComplete
  simp only
  split
  · exact (onLane ..).trans (composeDue ..)
  · exact onLane ..

theorem returnBuffer (p : Port) (t : Transmission) (s : State) : Quiet s (returnBuffer p t s) :=
  ⟨fun _ => rfl, rfl, rfl, rfl, fun _ => rfl, rfl⟩

theorem completeTransmission (p : Port) (s : State) : Quiet s (completeTransmission p s) := by
  unfold Machine.completeTransmission
  split
  · exact refl s
  next t _ =>
    unfold expiry
    split
    · unfold finishTransmission
      refine (returnBuffer p t s).trans (.trans ?_ (startTransmission ..))
      split
      · split
        · exact demandComplete ..
        · exact refl _
      · exact refl _
    · exact refl s

theorem emptyArea (p : Port) (s : State) : Quiet s (emptyArea p s) := onPath ..

theorem storeChars (p : Port) (rx : Reception) (s : State) : Quiet s (storeChars p rx s) := onPath ..

theorem markClamped (l : Lane) (s : State) : Quiet s (markClamped l s) :=
  foldl (fun t _ => onDemand _ _ t) _ s

theorem zeroDemand (l : Lane) (s : State) : Quiet s (zeroDemand l s) := by
  unfold Machine.zeroDemand
  split
  · exact refl s
  split
  · exact refl s
  · exact (markClamped l s).trans ((foldl (fun t _ => onDemand _ _ t) _ _).trans (enqueue ..))

/-! ### The survey, the cut factor, the end of power-on reset -/

theorem evaluateSurvey (s : State) : Quiet s (evaluateSurvey s) := onSurvey ..

theorem depthFrame (items : List Word) (s : State) : Quiet s (depthFrame items s) := by
  unfold Machine.depthFrame
  split
  · exact (onSurvey ..).trans ((evaluateSurvey _).trans (onSurvey ..))
  · exact refl s

theorem depthExpired (s : State) : Quiet s (depthExpired s) := (onSurvey ..).trans (evaluateSurvey _)

theorem attitudeSample (x : AttitudeItems) (s : State) : Quiet s (attitudeSample x s) :=
  (onSurvey ..).trans ((evaluateSurvey _).trans (onSurvey ..))

theorem formCut (s : State) : Quiet s (formCut s) := by
  unfold Machine.formCut
  split
  · exact onSlurry ..
  · exact refl s

theorem countPressures (s : State) : Quiet s (countPressures s) := (onLoop ..).trans (onLoop ..)

/-- In power-on reset the timers stop and the frames go; no state, target or count moves (R171). -/
theorem enterReset (s : State) : Quiet s (enterReset s) := by
  refine ⟨fun g => ?_, rfl, rfl, rfl, fun ch => ?_, rfl⟩
  · cases g <;> rfl
  · cases ch with
    | valve g => cases g <;> rfl
    | plate p => cases p <;> rfl
    | pump => rfl

end Quiet

end Sys2Proof.Machine

/-! SUPPORT. A drive loop enters a state: which entries there are, and what each keeps of the laws of the
loops, of the feed limit, of the owners and of the slurry loop (R24, R27, R35, R41, R102, R116, R125). -/

namespace Sys2Proof.Machine

/-! ## The entries there are -/

/-- The states that a loop may enter from a state (chapter 2). -/
def LoopState.mayEnter (old new : LoopState) : Prop :=
  match new with
  | .stopped | .tripped => True
  | .armed | .manual => old = .stopped
  | .run | .held => old = .armed ∨ old = .opened ∨ old = .unjam ∨ old = .run ∨ old = .held
  | .unjam | .opened => old = .run ∨ old = .held
  | .stopping => old.running = true

/-- One loop enters a state that it may enter; it comes to run only with the slurry loop in RUN or MANUAL. -/
inductive LoopMove : State → State → Prop
  | enter (g : Gear) (new : LoopState) (s : State) (may : (s.loopOf g).state.mayEnter new)
      (flows : new.running = true →
        (s.loopOf g).state.running = true ∨ s.slurry.state = .run ∨ s.slurry.state = .manual) :
      LoopMove s (enterLoop g new s)

/-- A run of entries. -/
abbrev LoopMoves : State → State → Prop := Relation.ReflTransGen LoopMove

namespace LoopMoves

/-- An entry into a state in which the loop does not run. -/
theorem rest {g : Gear} {new : LoopState} {s : State} (may : (s.loopOf g).state.mayEnter new)
    (idle : new.running = false) : LoopMoves s (enterLoop g new s) :=
  .single (.enter g new s may fun run => by simp [idle] at run)

/-- A loop that runs enters another state in which it runs. -/
theorem onward {g : Gear} {new : LoopState} {s : State} (may : (s.loopOf g).state.mayEnter new)
    (run : (s.loopOf g).state.running = true) : LoopMoves s (enterLoop g new s) :=
  .single (.enter g new s may fun _ => .inl run)

theorem stop (g : Gear) (s : State) : LoopMoves s (enterLoop g .stopped s) := rest trivial rfl

theorem trip (g : Gear) (s : State) : LoopMoves s (enterLoop g .tripped s) := rest trivial rfl

theorem enterStopping {g : Gear} {s : State} (run : (s.loopOf g).state.running = true) :
    LoopMoves s (enterStopping g s) := by
  have stopping : LoopMoves s (enterLoop g .stopping s) := rest run rfl
  unfold Machine.enterStopping
  simp only
  split
  · exact stopping.trans (stop ..)
  · exact stopping

theorem stopLoop (g : Gear) (s : State) : LoopMoves s (stopLoop g s) := by
  unfold Machine.stopLoop
  split
  case h_1 => exact stop g s
  case h_2 state | h_3 state | h_4 state | h_5 state => exact enterStopping (by rw [state]; rfl)
  all_goals exact .refl

theorem stopBoth (s : State) : LoopMoves s (stopBoth s) := (stopLoop ..).trans (stopLoop ..)

theorem tripUnlessStopped (g : Gear) (s : State) : LoopMoves s (tripUnlessStopped g s) := by
  unfold Machine.tripUnlessStopped
  split
  · exact .refl
  · exact trip g s

theorem holdLoop (g : Gear) (s : State) : LoopMoves s (holdLoop g s) := by
  unfold Machine.holdLoop
  split
  next run => exact onward (by simp [run, LoopState.mayEnter]) (by rw [run]; rfl)
  next => exact .refl

theorem unholdLoop (g : Gear) (s : State) : LoopMoves s (unholdLoop g s) := by
  unfold Machine.unholdLoop
  split
  next held => exact onward (by simp [held.1, LoopState.mayEnter]) (by rw [held.1]; rfl)
  next => exact .refl

/-- From OPEN and from UNJAM a loop goes to RUN or to HELD. -/
theorem enterWork {g : Gear} {s : State}
    (state : (s.loopOf g).state = .opened ∨ (s.loopOf g).state = .unjam) :
    LoopMoves s (enterWork g s) := by
  have run : (s.loopOf g).state.running = true := by obtain h | h := state <;> rw [h] <;> rfl
  have may : ∀ new, new = LoopState.held ∨ new = .run → (s.loopOf g).state.mayEnter new := by
    rintro new (rfl | rfl) <;> exact .inr (state.imp id .inl)
  unfold Machine.enterWork
  split
  · exact onward (may _ (.inl rfl)) run
  · exact onward (may _ (.inr rfl)) run

/-- A property that every entry keeps is kept by a run of them. -/
theorem keeps {P : State → Prop} (move : ∀ {s t}, LoopMove s t → P s → P t) {s t : State}
    (moves : LoopMoves s t) (hs : P s) : P t := by
  induction moves with
  | refl => exact hs
  | tail _ last ih => exact move last ih

end LoopMoves

section
variable {s t : State}

/-! ## What an entry leaves of the other blocks -/

theorem LoopMove.eq (move : LoopMove s t) :
    t = { s with drive := t.drive, slurry := t.slurry, lanes := t.lanes, path := t.path } := by
  obtain ⟨g, new, s, -, -⟩ := move
  exact (enterLoop_eq g new s).trans (by rw [enterLoop_drive])

theorem LoopMoves.eq (moves : LoopMoves s t) :
    t = { s with drive := t.drive, slurry := t.slurry, lanes := t.lanes, path := t.path } := by
  induction moves with
  | refl => rfl
  | tail _ last ih => rw [last.eq, ih]

theorem LoopMoves.orders (moves : LoopMoves s t) : t.orders = s.orders := by rw [moves.eq]

theorem LoopMoves.steering (moves : LoopMoves s t) : t.steering = s.steering := by rw [moves.eq]

theorem LoopMoves.selector (moves : LoopMoves s t) : t.selector = s.selector := by rw [moves.eq]

theorem LoopMoves.classField (moves : LoopMoves s t) (f : ClassField) :
    t.classField f = s.classField f := by rw [State.classField, moves.selector]; rfl

/-! ## The feed limit (R116) -/

/-- A feed limit that has been formed keeps its law. -/
theorem feedLaw_of_formed (h : t.slurry.feed = t.feedLimit) : t.feedLaw := by
  intro feed
  rw [h, State.feedLimit] at feed
  split at feed
  next cuts => exact cuts
  next => exact absurd rfl feed

/-- An entry into the state that the loop is in moves no slurry loop. -/
theorem enterLoop_same_slurry {g : Gear} {new : LoopState} (same : (s.loopOf g).state = new) :
    (enterLoop g new s).slurry = s.slurry := by
  have stays : ((valveEntry g new (s.onLoop g (loopEntry s new))).loopOf g).state = (s.loopOf g).state := by
    simp [same]
  unfold enterLoop loopMoved
  rw [if_pos stays, valveEntry_slurry]
  rfl

theorem enterLoop_state (g h : Gear) (new : LoopState) (s : State) :
    ((enterLoop g new s).loopOf h).state = if h = g then new else (s.loopOf h).state := by
  rw [enterLoop_loopOf]
  split
  · rw [loopEntry_state]
  · rfl

/-- Both loops stand in a state. -/
theorem bothLoops_iff {x : LoopState} : s.bothLoops x = true ↔ ∀ g, (s.loopOf g).state = x := by
  refine ⟨fun both g => ?_, fun each => ?_⟩
  · have both := of_decide_eq_true both
    cases g
    · exact both.1
    · exact both.2
  · exact decide_eq_true ⟨each .g1, each .g2⟩

theorem LoopMove.feedLaw (move : LoopMove s t) (law : s.feedLaw) : t.feedLaw := by
  obtain ⟨g, new, s, -, -⟩ := move
  by_cases same : (s.loopOf g).state = new
  · intro feed
    rw [enterLoop_same_slurry same] at feed
    obtain ⟨run, live⟩ := law feed
    refine ⟨bothLoops_iff.mpr fun h => ?_, by rw [enterLoop_orders]; exact live⟩
    rw [enterLoop_state]
    split
    next here => rw [← same]; exact bothLoops_iff.mp run g
    next => exact bothLoops_iff.mp run h
  · exact feedLaw_of_formed (enterLoop_feed same)

/-! ## Running loops and the slurry loop (R24) -/

theorem LoopMove.runningLaw (move : LoopMove s t) (law : s.runningLaw) : t.runningLaw := by
  obtain ⟨g, new, s, -, flows⟩ := move
  have flow : ∀ h, ((enterLoop g new s).loopOf h).state.running = true →
      s.slurry.state = .run ∨ s.slurry.state = .manual := by
    intro h run
    rw [enterLoop_state] at run
    split at run
    · exact (flows run).elim (law g) id
    · exact law h run
  intro h run
  rw [enterLoop_slurryState]
  split
  · obtain state | state := flow h run <;> simp [state]
  · exact flow h run

/-! ## The loops themselves (R35, R41) -/

theorem iMax_nonneg (s : State) : 0 ≤ s.classField .iMax := by
  unfold State.classField classWord unsigned
  omega

/-- An entry keeps the integrator or sets it to 0. -/
theorem loopEntry_integ (s : State) (new : LoopState) (l : DriveLoop) :
    (loopEntry s new l).integ = l.integ ∨ (loopEntry s new l).integ = 0 := by
  cases new with
  | stopped | tripped | unjam | opened => exact .inr rfl
  | armed | manual | stopping => exact .inl rfl
  | run | held =>
    unfold loopEntry
    simp only
    split
    · exact .inr rfl
    · exact .inr rfl
    · exact .inr rfl
    · exact .inl rfl

/-- Each integrator lies within ± I_max. -/
def State.integBounded (s : State) : Prop := ∀ g, mag (s.loopOf g).integ ≤ s.classField .iMax

theorem LoopMove.integBounded (move : LoopMove s t) (law : s.integBounded) : t.integBounded := by
  obtain ⟨g, new, s, -, -⟩ := move
  intro h
  rw [enterLoop_loopOf, enterLoop_classField]
  split
  · obtain kept | zero := loopEntry_integ s new (s.loopOf g)
    · rw [kept]; exact law g
    · rw [zero]; exact iMax_nonneg s
  · exact law h

/-- What R41 asks of the integrator of one loop, given I_max. -/
def DriveLoop.integOk (iMax : Int) (l : DriveLoop) : Prop :=
  (l.state ≠ .stopping → mag l.integ ≤ iMax) ∧
    (l.state ∈ [LoopState.stopped, .armed, .opened, .manual, .tripped] → l.integ = 0)

theorem integratorLaw_iff : s.integratorLaw ↔ ∀ g, (s.loopOf g).integOk (s.classField .iMax) := Iff.rfl

theorem DriveLoop.integOk_zero {iMax : Int} (h : 0 ≤ iMax) {l : DriveLoop} (zero : l.integ = 0) :
    l.integOk iMax := by
  refine ⟨fun _ => ?_, fun _ => zero⟩
  rw [zero]
  exact h

theorem loopEntry_integOk (s : State) {new : LoopState} {l : DriveLoop} (may : l.state.mayEnter new)
    (law : l.integOk (s.classField .iMax)) : (loopEntry s new l).integOk (s.classField .iMax) := by
  have zero := fun l => DriveLoop.integOk_zero (iMax_nonneg s) (l := l)
  obtain ⟨bound, rest⟩ := law
  cases new with
  | stopped | tripped | unjam | opened => exact zero _ rfl
  | armed | manual =>
    have stopped : l.state = .stopped := may
    exact zero _ (rest (by simp [stopped]))
  | stopping => exact ⟨fun other => absurd rfl other, fun other => by simp [loopEntry] at other⟩
  | run | held =>
    unfold loopEntry
    simp only
    split
    · exact zero _ rfl
    · exact zero _ rfl
    · exact zero _ rfl
    next =>
      have moving : l.state ≠ .stopping := by
        rintro stopping
        simp [LoopState.mayEnter, stopping] at may
      exact ⟨fun _ => bound moving, fun other => by simp at other⟩

theorem LoopMove.integratorLaw (move : LoopMove s t) (law : s.integratorLaw) : t.integratorLaw := by
  obtain ⟨g, new, s, may, -⟩ := move
  refine integratorLaw_iff.mpr fun h => ?_
  rw [enterLoop_loopOf, enterLoop_classField]
  split
  · exact loopEntry_integOk s may (law g)
  · exact law h

/-- What R35 asks of one loop. -/
def DriveLoop.restOk (l : DriveLoop) : Prop :=
  (l.state ≠ .unjam → l.phase = .none) ∧
    (l.state ∈ [LoopState.stopped, .armed, .manual, .tripped] →
      l.ramped = 0 ∧ l.sat = false ∧ l.stallCount = 0)

theorem restingLoopLaw_iff : s.restingLoopLaw ↔ ∀ g, (s.loopOf g).restOk := Iff.rfl

theorem loopEntry_restOk (s : State) {new : LoopState} {l : DriveLoop} (may : l.state.mayEnter new)
    (law : l.restOk) : (loopEntry s new l).restOk := by
  obtain ⟨phase, rest⟩ := law
  cases new with
  | stopped | tripped => exact ⟨fun _ => rfl, fun _ => ⟨rfl, rfl, rfl⟩⟩
  | armed | manual =>
    have stopped : l.state = .stopped := may
    exact ⟨fun _ => phase (by simp [stopped]), fun _ => rest (by simp [stopped])⟩
  | unjam => exact ⟨fun other => absurd rfl other, fun other => by simp [loopEntry] at other⟩
  | stopping => exact ⟨fun _ => rfl, fun other => by simp [loopEntry] at other⟩
  | opened =>
    refine ⟨fun _ => phase ?_, fun other => by simp [loopEntry] at other⟩
    obtain state | state := may <;> simp [state]
  | run | held =>
    unfold loopEntry
    simp only
    split
    next state => exact ⟨fun _ => phase (by simp [state]), fun other => by simp at other⟩
    next state => exact ⟨fun _ => phase (by simp [state]), fun other => by simp at other⟩
    next => exact ⟨fun _ => rfl, fun other => by simp at other⟩
    next state => exact ⟨fun _ => phase state, fun other => by simp at other⟩

theorem LoopMove.restingLoopLaw (move : LoopMove s t) (law : s.restingLoopLaw) : t.restingLoopLaw := by
  obtain ⟨g, new, s, may, -⟩ := move
  refine restingLoopLaw_iff.mpr fun h => ?_
  rw [enterLoop_loopOf]
  split
  · exact loopEntry_restOk s may (law g)
  · exact law h

/-! ## The slurry loop and the owners (R102, R125) -/

theorem enterFlush_slurry (s : State) : (enterFlush s).slurry = { s.slurry with
    state := .flush, output := s.setting .circDemand, phase := .none, phaseTimer := s.startSec .flushTime } := by
  unfold enterFlush
  rw [writePump_slurry]
  rfl

theorem agitationExit_slurryLaw (law : s.slurryLaw) : (agitationExit s).slurryLaw := by
  unfold agitationExit State.slurryLaw
  split
  · exact law
  split
  · simp [enterSlurryRun_slurry]
  · simp [enterFlush_slurry]

/-- What an entry may do in the slurry loop: nothing, time, end an agitation, or form the feed limit. -/
theorem slurryLaw_congr (law : s.slurryLaw) (state : t.slurry.state = s.slurry.state)
    (phase : t.slurry.phase = s.slurry.phase) (output : t.slurry.output = s.slurry.output)
    (integ : t.slurry.integ = s.slurry.integ) (detect : t.slurry.detectCount = s.slurry.detectCount)
    (dwell : t.slurry.dwellCount = s.slurry.dwellCount)
    (suction : t.slurry.suctionCount = s.slurry.suctionCount) : t.slurryLaw := by
  unfold State.slurryLaw
  rwa [state, phase, output, integ, detect, dwell, suction]

theorem loopMoved_slurryLaw (g : Gear) (old : LoopState) (law : s.slurryLaw) :
    (loopMoved g old s).slurryLaw := by
  have restarted : (startHoldDelay s).slurryLaw := slurryLaw_congr law rfl rfl rfl rfl rfl rfl rfl
  have formed : ∀ {u : State}, u.slurryLaw → (formFeed u).slurryLaw := fun law =>
    slurryLaw_congr law rfl rfl rfl rfl rfl rfl rfl
  unfold loopMoved
  split
  · exact law
  split
  · exact formed (agitationExit_slurryLaw restarted)
  split
  · exact formed restarted
  · exact formed law

theorem LoopMove.slurryLaw (move : LoopMove s t) (law : s.slurryLaw) : t.slurryLaw := by
  obtain ⟨g, new, s, may, -⟩ := move
  refine loopMoved_slurryLaw g _ (slurryLaw_congr law ?_ ?_ ?_ ?_ ?_ ?_ ?_) <;> rw [valveEntry_slurry] <;> rfl

theorem valveEntry_owner (g : Gear) (new : LoopState) (s : State) (ch : Channel) :
    ((valveEntry g new s).demand ch).owner =
      if ch = .valve g ∧ (new = .stopped ∨ new = .tripped) then .loop
      else if ch = .valve g ∧ new = .manual then .operator
      else (s.demand ch).owner := by
  cases new <;> simp [valveEntry]

theorem enterSlurryRun_owner (v : Int) (s : State) (ch : Channel) :
    ((enterSlurryRun v s).demand ch).owner = if ch = .pump then .loop else (s.demand ch).owner := by
  have started : ∀ t : State, ((startHoldDelay t).demand ch).owner = (t.demand ch).owner := fun t =>
    (Quiet.startHoldDelay t).owner ch
  unfold enterSlurryRun
  extract_lets entered driven
  have same : (driven.demand ch).owner = if ch = .pump then .loop else (s.demand ch).owner := by
    simp only [driven, writePump_owner, setOwner_owner]
    rfl
  split
  · rw [started, same]
  · exact same

/-- The end of an agitation hands the pump channel to nobody but the loop. -/
theorem agitationExit_owner (s : State) (ch : Channel) :
    ((agitationExit s).demand ch).owner = (s.demand ch).owner ∨
      (ch = .pump ∧ s.slurry.state = .agitate ∧ ((agitationExit s).demand ch).owner = .loop) := by
  unfold agitationExit
  split
  · exact .inl rfl
  next agitates =>
    have agitates := not_not.mp agitates
    split
    · have run := enterSlurryRun_owner (s.setting .circDemand) s ch
      by_cases pump : ch = .pump
      · exact .inr ⟨pump, agitates, by rw [run, if_pos pump]⟩
      · exact .inl (by rw [run, if_neg pump])
    · refine .inl ?_
      unfold enterFlush
      rw [writePump_owner]
      rfl

theorem loopMoved_owner (g : Gear) (old : LoopState) (s : State) (ch : Channel) :
    ((loopMoved g old s).demand ch).owner = (s.demand ch).owner ∨
      (ch = .pump ∧ s.slurry.state = .agitate ∧ ((loopMoved g old s).demand ch).owner = .loop) := by
  unfold loopMoved
  split
  · exact .inl rfl
  split
  · exact agitationExit_owner (startHoldDelay s) ch
  split <;> exact .inl rfl

theorem enterLoop_owner (g : Gear) (new : LoopState) (s : State) (ch : Channel) (drives : ch ≠ .pump) :
    ((enterLoop g new s).demand ch).owner =
      ((valveEntry g new (s.onLoop g (loopEntry s new))).demand ch).owner :=
  (loopMoved_owner ..).resolve_right fun pump => drives pump.1

/-- A loop leaves MANUAL for STOPPED and TRIPPED only. -/
theorem LoopState.mayEnter_manual {new : LoopState} (may : LoopState.manual.mayEnter new) :
    new = .stopped ∨ new = .tripped := by
  cases new <;> simp_all [LoopState.mayEnter, LoopState.running]

theorem enterLoop_pumpManual (g : Gear) (new : LoopState) (s : State) :
    (enterLoop g new s).slurry.state = .manual ↔ s.slurry.state = .manual := by
  rw [enterLoop_slurryState]
  split
  · split
    next agitates => split <;> simp [agitates]
    next => rfl
  · rfl

theorem LoopMove.ownerLaw (move : LoopMove s t) (law : s.ownerLaw) : t.ownerLaw := by
  obtain ⟨g, new, s, may, -⟩ := move
  obtain ⟨valves, plates, pump⟩ := law
  have before : ∀ ch, ((valveEntry g new (s.onLoop g (loopEntry s new))).demand ch).owner =
      if ch = .valve g ∧ (new = .stopped ∨ new = .tripped) then .loop
      else if ch = .valve g ∧ new = .manual then .operator else (s.demand ch).owner :=
    fun ch => valveEntry_owner ..
  refine ⟨fun h => ?_, fun p => ?_, ?_⟩
  · rw [enterLoop_owner _ _ _ _ (by simp), before, enterLoop_state]
    by_cases here : h = g
    · subst here
      by_cases rest : new = .stopped ∨ new = .tripped
      · obtain rfl | rfl := rest <;> simp
      by_cases manual : new = .manual
      · simp [manual]
      · have left : (s.loopOf h).state ≠ .manual := fun state => by
          rw [state] at may
          exact rest (LoopState.mayEnter_manual may)
        simp [rest, manual, valves h, left]
    · simp [here, valves h]
  · rw [enterLoop_owner _ _ _ _ (by simp), before, enterLoop_steering]
    simpa using plates p
  · rw [enterLoop_pumpManual, ← pump]
    obtain kept | ⟨-, agitates, loop⟩ := loopMoved_owner g (s.loopOf g).state
      (valveEntry g new (s.onLoop g (loopEntry s new))) .pump
    · exact (kept.trans (by simp [before])).congr_left
    · have agitates : s.slurry.state = .agitate := by rwa [valveEntry_slurry] at agitates
      rw [pump, agitates]
      exact iff_of_false (fun operator => by simp [enterLoop, loop] at operator) (by decide)

end

end Sys2Proof.Machine

/-! SUPPORT. RUN without a HELD cause, HELD with one, and nothing cutting in LOST (R27, R34): what each change
of the loops and of the order link keeps of it. -/

namespace Sys2Proof.Machine

/-- R27, R34, as `State.heldLaw` says it, of the states of the loops and of the link. -/
def HeldOk (state : Gear → LoopState) (link : LinkState) : Prop :=
  ∀ g, (state g = .run → state g.partner ≠ .unjam ∧ link ≠ .warn) ∧
    (state g = .held → state g.partner = .unjam ∨ link = .warn) ∧
    (link = .lost → (state g).cutting = false)

/-- The states of the two loops. -/
def State.loopStates (s : State) (g : Gear) : LoopState := (s.loopOf g).state

theorem heldCause_iff (s : State) (g : Gear) :
    s.heldCause g = true ↔ s.loopStates g.partner = .unjam ∨ s.orders.link = .warn := decide_eq_true_iff

theorem heldCause_eq_false (s : State) (g : Gear) :
    s.heldCause g = false ↔ s.loopStates g.partner ≠ .unjam ∧ s.orders.link ≠ .warn := by
  rw [← Bool.not_eq_true, heldCause_iff, not_or]

theorem anyCutting_eq_false (s : State) :
    s.anyCutting = false ↔ ∀ g, (s.loopStates g).cutting = false := by
  rw [State.anyCutting, Bool.or_eq_false_iff]
  refine ⟨fun both g => ?_, fun each => ⟨each .g1, each .g2⟩⟩
  cases g
  · exact both.1
  · exact both.2

theorem heldLaw_iff (s : State) : s.heldLaw ↔ HeldOk s.loopStates s.orders.link := by
  unfold State.heldLaw HeldOk
  simp only [heldCause_iff, heldCause_eq_false, anyCutting_eq_false]
  refine ⟨fun ⟨run, held, lost⟩ g => ⟨run g, held g, fun link => lost link g⟩, fun all => ?_⟩
  exact ⟨fun g => (all g).1, fun g => (all g).2.1, fun link g => (all g).2.2 link⟩

theorem Gear.eq_or_partner (g h : Gear) : h = g ∨ h = g.partner := by cases g <;> cases h <;> decide

namespace HeldOk

variable {state : Gear → LoopState} {link : LinkState}

/-- With nothing cutting there is nothing to ask. -/
theorem of_idle (idle : ∀ g, (state g).cutting = false) : HeldOk state link := by
  intro g
  refine ⟨fun run => ?_, fun held => ?_, fun _ => idle g⟩
  · have := idle g
    rw [run] at this
    cases this
  · have := idle g
    rw [held] at this
    cases this

/-- A loop enters a state, neither from UNJAM nor into it, in which it may stand. -/
theorem enter (law : HeldOk state link) {g : Gear} {new : LoopState} (old : state g ≠ .unjam)
    (other : new ≠ .unjam) (run : new = .run → state g.partner ≠ .unjam ∧ link ≠ .warn)
    (held : new = .held → state g.partner = .unjam ∨ link = .warn)
    (lost : link = .lost → new.cutting = false) :
    HeldOk (fun h => if h = g then new else state h) link := by
  intro h
  obtain rfl | rfl := Gear.eq_or_partner g h
  · simpa using ⟨run, held, lost⟩
  · obtain ⟨run', held', lost'⟩ := law g.partner
    simp only [Gear.partner_partner, Gear.partner_ne, if_false, if_true] at run' held' ⊢
    exact ⟨fun state => ⟨other, (run' state).2⟩, fun state => .inr ((held' state).resolve_left old), lost'⟩

/-- A loop that ran enters UNJAM, and the partner in RUN is held (R43). -/
theorem jam (law : HeldOk state link) {g : Gear} (cuts : (state g).cutting = true) :
    HeldOk (fun h => if h = g then .unjam else if state h = .run then .held else state h) link := by
  have live : link ≠ .lost := fun lost => by simp [(law g).2.2 lost] at cuts
  intro h
  obtain rfl | rfl := Gear.eq_or_partner g h
  · simp [live]
  · simp only [Gear.partner_partner, Gear.partner_ne, if_false, if_true]
    refine ⟨fun run => ?_, fun _ => .inl trivial, fun lost => absurd lost live⟩
    split at run
    · cases run
    · contradiction

/-- A loop leaves UNJAM for RUN or HELD, and the partner in HELD is released if no cause is left (R46). -/
theorem free (law : HeldOk state link) {g : Gear} (unjam : state g = .unjam) :
    HeldOk (fun h =>
      if h = g then (if state g.partner = .unjam ∨ link = .warn then .held else .run)
      else if state h = .held ∧ link ≠ .warn then .run else state h) link := by
  have live : link ≠ .lost := fun lost => by
    have := (law g).2.2 lost
    rw [unjam] at this
    cases this
  have alone : state g.partner ≠ .run := fun run => by
    have := ((law g.partner).1 run).1
    rw [Gear.partner_partner] at this
    exact this unjam
  intro h
  obtain rfl | rfl := Gear.eq_or_partner g h
  · simp only [if_true, Gear.partner_ne, if_false]
    refine ⟨fun run => ?_, fun held => ?_, fun lost => absurd lost live⟩
    · have free : ¬ (state h.partner = .unjam ∨ link = .warn) := fun cause => by simp [cause] at run
      refine ⟨?_, fun warn => free (.inr warn)⟩
      split
      · decide
      · exact fun unjam => free (.inl unjam)
    · have cause : state h.partner = .unjam ∨ link = .warn := by
        by_contra none
        simp [none] at held
      refine cause.imp (fun unjam => ?_) id
      simp [unjam]
  · simp only [Gear.partner_partner, Gear.partner_ne, if_false, if_true]
    refine ⟨fun run => ⟨?_, fun warn => ?_⟩, fun held => .inr ?_, fun lost => absurd lost live⟩
    · split <;> decide
    · simp only [warn, ne_eq, not_true_eq_false, and_false, if_false] at run
      exact alone run
    · split at held
      · cases held
      next kept => exact not_not.mp fun other => kept ⟨held, other⟩

/-- The link moves to WARN, and the loops in RUN are held (R27, R153). -/
theorem warn (state : Gear → LoopState) :
    HeldOk (fun h => if state h = .run then .held else state h) .warn := by
  intro h
  dsimp only
  refine ⟨fun run => ?_, fun _ => .inr rfl, fun lost => by cases lost⟩
  split at run
  · cases run
  · contradiction

/-- The link moves from WARN to LIVE, and the loops in HELD without another cause are released. -/
theorem live (law : HeldOk state .warn) :
    HeldOk (fun h => if state h = .held ∧ state h.partner ≠ .unjam then .run else state h) .live := by
  intro h
  dsimp only
  refine ⟨fun run => ⟨?_, by decide⟩, fun held => .inl ?_, fun lost => by cases lost⟩
  · split at run
    next released =>
      split
      · decide
      · exact released.2
    next => exact absurd rfl ((law h).1 run).2
  · split at held
    · cases held
    next kept =>
      have unjam : state h.partner = .unjam := not_not.mp fun other => kept ⟨held, other⟩
      simp [unjam]

/-- The link moves between states that are neither WARN nor LOST. -/
theorem relink (law : HeldOk state link) {new : LinkState} (old : link ≠ .warn) (other : new ≠ .warn)
    (here : new ≠ .lost) : HeldOk state new := by
  intro h
  obtain ⟨run, held, -⟩ := law h
  exact ⟨fun state => ⟨(run state).1, other⟩, fun state => .inl ((held state).resolve_right old),
    fun lost => absurd lost here⟩

end HeldOk

end Sys2Proof.Machine

/-! SUPPORT. What moves the laws of the loops, of steering, of the trips and of the owners: the changes of
state of the blocks, each with what the manual asks before it, and every event as a run of them. -/

namespace Sys2Proof.Machine

/-- R155, R156: a kind enters the latch set, and the first of the set makes the record. -/
def enterKind (k : TripKind) (s : State) : State :=
  s.onOrders fun x =>
    { x with trips := insertKind k x.trips
             record := if x.trips = [] then some (s.tripRecord k) else x.record }

/-- R155: a latch enters its kind, acts, and reports. -/
theorem latch_eq_enterKind (k : TripKind) (s : State) :
    latch k s = sendReport .urgent (actOnLatch k (enterKind k s)) := by
  unfold latch enterKind
  by_cases first : s.orders.trips = []
  · simp [first, State.onOrders]
  · simp [first, State.onOrders]

/-- R157: a kind leaves the latch set, and the last takes the record with it. -/
def leaveKind (k : TripKind) (s : State) : State :=
  s.onOrders fun x =>
    { x with trips := removeKind k x.trips, record := if removeKind k x.trips = [] then none else x.record }

/-- What a computing update may do to its loop: it stays in its state, with its phase but in UNJAM, and its
integrator is kept, or bounded, and 0 in OPEN (R41, R44). -/
structure LoopWork (iMax : Int) (l m : DriveLoop) : Prop where
  computing : l.state.computing = true
  state : m.state = l.state
  phase : l.state ≠ .unjam → m.phase = l.phase
  integ : m.integ = l.integ ∨ (mag m.integ ≤ iMax ∧ (l.state = .opened → m.integ = 0))

/-- The changes of state of the blocks; with `writes`, also the writing of a table word. -/
inductive Interlock (writes : Bool) : State → State → Prop
  | quiet {s t : State} (h : Quiet s t) : Interlock writes s t
  | worked (g : Gear) (f : DriveLoop → DriveLoop) (s : State)
      (work : LoopWork (s.classField .iMax) (s.loopOf g) (f (s.loopOf g))) :
      Interlock writes s (s.onLoop g f)
  | loops {s t : State} (moves : LoopMoves s t) (held : s.heldLaw → s.orderLostLaw → t.heldLaw) :
      Interlock writes s t
  | linked (new : LinkState) (s : State) (old : s.orders.link ≠ .lost) (other : new = .live ∨ new = .warn) :
      Interlock writes s (setLink new s)
  | lost (s : State) :
      Interlock writes s (stopBoth (enterKind .orderLost ((setLink .lost s).onOrders fun x =>
        { x with timer := .idle })))
  | regained (s : State) (latched : s.latched .orderLost = true) :
      Interlock writes s (setLink .live (leaveKind .orderLost s))
  | entered (k : TripKind) (s : State) (other : k ≠ .orderLost) : Interlock writes s (enterKind k s)
  | left (k : TripKind) (s : State) (other : k ≠ .orderLost) : Interlock writes s (leaveKind k s)
  | slurryTripped (s : State) : Interlock writes s (tripSlurry s)
  | slurryStopped (s : State) (idle : s.runningLaw → ∀ g, (s.loopOf g).state.running = false) :
      Interlock writes s (zeroSlurry .stopped s)
  | slurryRun (v : Int) (s : State) : Interlock writes s (enterSlurryRun v s)
  | agitated (phase : AgitationPhase) (demand time : Setting) (s : State) (phased : phase ≠ .none)
      (old : s.slurry.state = .agitate ∨ s.slurry.state = .run ∧ s.bothLoops .stopped = true) :
      Interlock writes s (startAgitation phase demand time s)
  | slurryWorked (f : Slurry → Slurry) (s : State)
      (same : ∀ x, (f x).state = x.state ∧ (f x).phase = x.phase ∧ (f x).feed = x.feed)
      (works : s.slurry.state ≠ .stopped ∧ s.slurry.state ≠ .tripped) : Interlock writes s (s.onSlurry f)
  | primed (f : Slurry → Slurry) (s : State)
      (same : ∀ x, (f x).state = .priming ∧ (f x).phase = x.phase ∧ (f x).feed = x.feed)
      (old : s.slurry.state = .stopped) : Interlock writes s (s.onSlurry f)
  | pumpManual (s : State)
      (old : s.slurry.state = .stopped ∨ s.slurry.state = .run ∨ s.slurry.state = .agitate) :
      Interlock writes s (enterPumpManual s)
  | fed (s : State) : Interlock writes s (formFeed s)
  | steerCleared (new : SteerState) (o : Owner) (s : State) (hand : o = .operator ↔ new = .manual) :
      Interlock writes s (enterSteeringClear new o s)
  | steerHeld (s : State) (old : s.steering.state = .auto) : Interlock writes s (enterSteeringHold s)
  | steerWorked (s : State) (old : s.steering.state = .auto ∨ s.steering.state = .hold) :
      Interlock writes s (autoWork s)
  | classed (s : State) : Interlock writes s (evaluateClass s)
  | written (t : Table) (index : Nat) (w : Word) (s : State) (passes : s.checkWord t index w = none)
      (allowed : writes = true) : Interlock writes s (putWord t index w s)
  | restarted (s : State) : Interlock writes s (restartBlocks s)
  | poweredOn (straps : Straps) (s : State) : Interlock writes s (powerOn straps s)

/-- A run of changes of state. -/
abbrev Interlocks (writes : Bool) : State → State → Prop := Relation.ReflTransGen (Interlock writes)

theorem Quiet.interlocks {b : Bool} {s t : State} (h : Quiet s t) : Interlocks b s t := .single (.quiet h)

/-! ## The states of the loops after their compound changes -/

section
variable {s : State}

theorem enterLoop_loopStates (g : Gear) (new : LoopState) (s : State) :
    (enterLoop g new s).loopStates = fun h => if h = g then new else s.loopStates h :=
  funext fun h => enterLoop_state g h new s

theorem holdLoop_loopStates (g : Gear) (s : State) :
    (holdLoop g s).loopStates =
      fun h => if h = g ∧ s.loopStates g = .run then .held else s.loopStates h := by
  funext h
  show ((holdLoop g s).loopOf h).state =
    if h = g ∧ (s.loopOf g).state = .run then .held else (s.loopOf h).state
  rw [holdLoop_loopOf, apply_ite DriveLoop.state]

theorem unholdLoop_loopStates (g : Gear) (s : State) :
    (unholdLoop g s).loopStates = fun h =>
      if h = g ∧ s.loopStates g = .held ∧ s.heldCause g = false then .run else s.loopStates h := by
  funext h
  show ((unholdLoop g s).loopOf h).state =
    if h = g ∧ (s.loopOf g).state = .held ∧ s.heldCause g = false then .run else (s.loopOf h).state
  rw [unholdLoop_loopOf, apply_ite DriveLoop.state]

/-- A stopped loop neither cuts nor is about to (R25). -/
theorem stopOutcome_idle (s : State) (g : Gear) : (s.stopOutcome g).cutting = false := by
  unfold State.stopOutcome
  split <;> (try split) <;> rfl

theorem stopOutcome_not_running (s : State) (g : Gear) : (s.stopOutcome g).running = false := by
  unfold State.stopOutcome
  split <;> (try split) <;> rfl

theorem heldLaw_stopBoth (s : State) : (stopBoth s).heldLaw :=
  (heldLaw_iff _).mpr (.of_idle fun g => by rw [State.loopStates, stopBoth_state]; exact stopOutcome_idle s g)

theorem heldLaw_tripLoop (g : Gear) (s : State) :
    (stopLoop g.partner (enterLoop g .tripped s)).heldLaw := by
  refine (heldLaw_iff _).mpr (.of_idle fun h => ?_)
  obtain rfl | rfl := Gear.eq_or_partner g h
  · have kept := stopLoop_partner h.partner (enterLoop h .tripped s)
    rw [Gear.partner_partner] at kept
    rw [State.loopStates, kept, enterLoop_state, if_pos rfl]
    rfl
  · rw [State.loopStates, stopLoop_state]
    exact stopOutcome_idle ..

theorem tripUnlessStopped_loopStates (g : Gear) (s : State) :
    (tripUnlessStopped g s).loopStates =
      fun h => if h = g ∧ s.loopStates g ≠ .stopped then .tripped else s.loopStates h := by
  funext h
  unfold tripUnlessStopped State.loopStates
  split
  next stopped => simp [stopped]
  next moves => rw [enterLoop_state]; simp [moves]

theorem heldLaw_tripBoth (s : State) : (tripUnlessStopped .g2 (tripUnlessStopped .g1 s)).heldLaw := by
  refine (heldLaw_iff _).mpr (.of_idle fun h => ?_)
  rw [tripUnlessStopped_loopStates, tripUnlessStopped_loopStates]
  cases h
  · by_cases stopped : s.loopStates .g1 = .stopped <;> simp [stopped, LoopState.cutting]
  · by_cases stopped : s.loopStates .g2 = .stopped <;> simp [stopped, LoopState.cutting]

/-! ## The compound changes of the loops, as changes of state -/

variable {b : Bool}

namespace Interlocks

theorem bothStopped (s : State) : Interlocks b s (stopBoth s) :=
  .single (.loops (.stopBoth s) fun _ _ => heldLaw_stopBoth s)

theorem loopTripped (g : Gear) (s : State) :
    Interlocks b s (stopLoop g.partner (enterLoop g .tripped s)) :=
  .single (.loops ((LoopMoves.trip g s).trans (LoopMoves.stopLoop ..)) fun _ _ => heldLaw_tripLoop g s)

theorem bothTripped (s : State) : Interlocks b s (tripUnlessStopped .g2 (tripUnlessStopped .g1 s)) :=
  .single (.loops ((LoopMoves.tripUnlessStopped ..).trans (LoopMoves.tripUnlessStopped ..)) fun _ _ =>
    heldLaw_tripBoth s)

/-- A loop enters a state, neither from UNJAM nor into it, in which it may stand. -/
theorem enters {g : Gear} {new : LoopState} (moves : LoopMoves s (enterLoop g new s))
    (old : s.loopStates g ≠ .unjam) (other : new ≠ .unjam) (run : new = .run → s.heldCause g = false)
    (held : new = .held → s.heldCause g = true)
    (lost : s.heldLaw → s.orderLostLaw → s.orders.link = .lost → new.cutting = false) :
    Interlocks b s (enterLoop g new s) := by
  refine .single (.loops moves fun law orderLost => ?_)
  rw [heldLaw_iff] at law ⊢
  rw [enterLoop_loopStates, enterLoop_orders]
  exact law.enter old other (fun state => (heldCause_eq_false s g).mp (run state))
    (fun state => (heldCause_iff s g).mp (held state)) (lost ((heldLaw_iff s).mpr law) orderLost)

/-- A loop at rest or stopping enters STOPPED. -/
theorem stopped {g : Gear} (old : s.loopStates g ≠ .unjam) : Interlocks b s (enterLoop g .stopped s) :=
  enters (.stop g s) old (by decide) nofun nofun fun _ _ _ => rfl

/-- A loop that cuts does so in a link that is not LOST. -/
theorem not_lost_of_cutting {g : Gear} (law : s.heldLaw) (cuts : (s.loopStates g).cutting = true) :
    s.orders.link ≠ .lost := fun lost => by
  have := ((heldLaw_iff s).mp law g).2.2 lost
  rw [cuts] at this
  cases this

/-- OPEN from RUN or HELD (R28). -/
theorem opened {g : Gear} (old : s.loopStates g = .run ∨ s.loopStates g = .held) :
    Interlocks b s (enterLoop g .opened s) := by
  have run : (s.loopOf g).state.running = true := by
    unfold State.loopStates at old
    obtain h | h := old <;> rw [h] <;> rfl
  have cuts : (s.loopStates g).cutting = true := by obtain h | h := old <;> rw [h] <;> rfl
  refine enters (.onward old run) ?_ (by decide) nofun nofun fun law _ lost => ?_
  · obtain h | h := old <;> rw [h] <;> decide
  · exact absurd lost (not_lost_of_cutting law cuts)

/-- RUN or HELD from OPEN, by the HELD causes (R28). -/
theorem resumed {g : Gear} (old : s.loopStates g = .opened) : Interlocks b s (enterWork g s) := by
  have moves := LoopMoves.enterWork (.inl old)
  have cuts : (s.loopStates g).cutting = true := by rw [old]; rfl
  have link : ∀ new : LoopState, s.heldLaw → s.orderLostLaw → s.orders.link = .lost → new.cutting = false :=
    fun _ law _ lost => absurd lost (not_lost_of_cutting law cuts)
  unfold enterWork at moves ⊢
  split at moves
  next cause =>
    rw [if_pos cause]
    exact enters moves (by rw [old]; decide) (by decide) nofun (fun _ => cause) (link _)
  next free =>
    rw [if_neg free]
    exact enters moves (by rw [old]; decide) (by decide) (fun _ => Bool.eq_false_iff.mpr free) nofun (link _)

/-- UNJAM from RUN or HELD, with the partner held (R43). -/
theorem jammed {g : Gear} (old : s.loopStates g = .run ∨ s.loopStates g = .held) :
    Interlocks b s (holdLoop g.partner (enterLoop g .unjam s)) := by
  have run : (s.loopOf g).state.running = true := by
    unfold State.loopStates at old
    obtain h | h := old <;> rw [h] <;> rfl
  have cuts : (s.loopStates g).cutting = true := by obtain h | h := old <;> rw [h] <;> rfl
  refine .single (.loops ((LoopMoves.onward (new := .unjam) old run).trans (LoopMoves.holdLoop ..)) fun law _ => ?_)
  rw [heldLaw_iff] at law ⊢
  rw [holdLoop_loopStates, enterLoop_loopStates, holdLoop_orders, enterLoop_orders]
  convert law.jam cuts using 2 with h
  obtain rfl | rfl := Gear.eq_or_partner g h <;> simp

/-- RUN or HELD from UNJAM, with the partner released (R46). -/
theorem freed {g : Gear} (old : s.loopStates g = .unjam) :
    Interlocks b s (unholdLoop g.partner (enterWork g s)) := by
  refine .single (.loops ((LoopMoves.enterWork (.inr old)).trans (LoopMoves.unholdLoop ..)) fun law _ => ?_)
  rw [heldLaw_iff] at law ⊢
  have cause : ∀ new, (enterLoop g new s).heldCause g.partner = false ↔
      new ≠ .unjam ∧ s.orders.link ≠ .warn := fun new => by
    rw [heldCause_eq_false, enterLoop_loopStates, enterLoop_orders, Gear.partner_partner]
    simp
  rw [unholdLoop_loopStates, unholdLoop_orders]
  unfold enterWork
  simp only [cause, enterLoop_loopStates, enterLoop_orders]
  convert law.free old using 2 with h
  obtain rfl | rfl := Gear.eq_or_partner g h
  · simp [heldCause_iff]
  · by_cases held : s.heldCause g = true <;> simp [held]

end Interlocks

end

end Sys2Proof.Machine

/-! SUPPORT. Every event is a run of changes of state of the blocks. -/

namespace Sys2Proof.Machine

namespace Interlocks

variable {b : Bool} {s t : State}

theorem expiry (timer : Timer) {f : State → State} (h : Interlocks b s (f s)) :
    Interlocks b s (expiry timer f s) := by
  unfold Machine.expiry
  split
  · exact h
  · exact .refl

/-! ### Trips -/

/-- What a latch other than ORDER_LOST does in the blocks (R155 step 3). -/
theorem actOnLatch {k : TripKind} (other : k ≠ .orderLost) (s : State) :
    Interlocks b s (actOnLatch k s) := by
  have tripped : Interlocks b s (tripSlurry s) := .single (.slurryTripped s)
  unfold Machine.actOnLatch
  split
  · contradiction
  · exact loopTripped ..
  · exact loopTripped ..
  · exact tripped
  · exact tripped
  · exact bothTripped s
  · split
    · exact .refl
    · exact .single (.steerCleared .off .loop s (iff_of_false nofun nofun))
  · exact .refl
  · split
    · exact .refl
    · exact tripped

theorem latch {k : TripKind} (other : k ≠ .orderLost) (s : State) : Interlocks b s (latch k s) := by
  rw [latch_eq_enterKind]
  exact (Relation.ReflTransGen.single (.entered k s other)).trans
    ((actOnLatch other _).trans (Quiet.sendReport ..).interlocks)

theorem releaseLoop (g : Gear) (s : State) : Interlocks b s (releaseLoop g s) := by
  unfold Machine.releaseLoop
  split
  next released => exact stopped (by rw [State.loopStates, released.1]; decide)
  next => exact .refl

theorem releaseSlurry (s : State) : Interlocks b s (releaseSlurry s) := by
  unfold Machine.releaseSlurry
  split
  next released =>
    refine .single (.slurryStopped s fun law g => ?_)
    by_contra run
    obtain flow | flow := law g (by simpa using run) <;> simp [flow] at released
  next => exact .refl

theorem removeTrip {k : TripKind} {s : State} (latched : s.latched k = true) :
    Interlocks b s (removeTrip k s) := by
  unfold Machine.removeTrip
  refine .trans ?_ (releaseSlurry _)
  refine .trans ?_ (releaseLoop ..)
  refine .trans ?_ (releaseLoop ..)
  split
  next lost =>
    subst lost
    exact .trans (.single (.regained s latched)) (Quiet.onOrders ..).interlocks
  next other => exact .single (.left k s other)

theorem resetKind (k : TripKind) (s : State) : Interlocks b s (resetKind k s).2 := by
  unfold Machine.resetKind
  split
  · exact .refl
  next latched =>
    split
    · exact .refl
    · exact removeTrip (by simpa using latched)

theorem resetTrip (w : Word) (s : State) : Interlocks b s (resetTrip w s).2 := by
  unfold Machine.resetTrip
  split
  · exact .refl
  · exact resetKind ..
  · split
    · exact .refl
    · exact resetKind ..

/-! ### The order link -/

theorem orderLinkStep (s : State) : Interlocks b s (orderLinkStep s) := by
  unfold Machine.orderLinkStep
  split
  · exact .refl
  next old => exact .trans (.single (.linked .live s old (.inl rfl))) (Quiet.onOrders ..).interlocks

theorem orderTimerExpired (s : State) : Interlocks b s (orderTimerExpired s) := by
  unfold Machine.orderTimerExpired
  split
  next live =>
    exact .trans (.single (.linked .warn s (by simp [live]) (.inr rfl))) (Quiet.onOrders ..).interlocks
  next =>
    rw [latch_eq_enterKind]
    refine .trans (.trans (.single (.lost s)) ?_) (Quiet.sendReport ..).interlocks
    unfold Machine.actOnLatch
    simp only
    split
    next auto => exact .single (.steerHeld _ auto)
    next => exact .refl
  all_goals exact (Quiet.onOrders ..).interlocks

/-! ### The drive update -/

theorem releaseTest {g : Gear} {s : State} (armed : (s.loopOf g).state = .armed) :
    Interlocks b s (releaseTest g s) := by
  have cuts : (s.loopStates g).cutting = true := by rw [State.loopStates, armed]; rfl
  unfold Machine.releaseTest
  split
  · exact .refl
  next flows =>
    have flows : s.slurry.state = .run ∨ s.slurry.state = .manual := by
      by_contra none
      exact flows (not_or.mp none)
    have moves : ∀ new, new = LoopState.held ∨ new = .run → LoopMoves s (enterLoop g new s) := by
      rintro new (rfl | rfl) <;> exact .single (.enter g _ s (.inl armed) fun _ => .inr flows)
    have old : s.loopStates g ≠ .unjam := by rw [State.loopStates, armed]; decide
    split
    next cause =>
      exact enters (moves _ (.inl rfl)) old (by decide) nofun (fun _ => cause)
        fun law _ lost => absurd lost (not_lost_of_cutting law cuts)
    next free =>
      split
      · exact .refl
      next live =>
        exact enters (moves _ (.inr rfl)) old (by decide) (fun _ => Bool.eq_false_iff.mpr free) nofun
          fun _ _ lost => absurd lost live

theorem healthTest (g : Gear) (inp : DriveInputs) (s : State) : Interlocks b s (healthTest g inp s) := by
  unfold Machine.healthTest
  split
  next run _ => exact opened (.inl run)
  next held _ => exact opened (.inr held)
  next old _ => exact resumed old
  next stopping _ => exact stopped (by rw [State.loopStates, stopping]; decide)
  next => exact .refl

/-- Stage 7 keeps the integrator, or leaves it within ± I_max, and at 0 in OPEN. -/
theorem stagePi_integ (s : State) (g : Gear) (inp : DriveInputs) (ramped : Int) :
    (s.stagePi g inp ramped).integ = (s.loopOf g).integ ∨
      (mag (s.stagePi g inp ramped).integ ≤ s.classField .iMax ∧
        ((s.loopOf g).state = .opened → (s.stagePi g inp ramped).integ = 0)) := by
  unfold State.stagePi
  split
  · exact .inr ⟨iMax_nonneg s, fun _ => rfl⟩
  next other =>
    unfold piStage
    simp only
    split
    · exact .inl rfl
    · exact .inr ⟨mag_clampMag _ (iMax_nonneg s), fun state => absurd state other⟩

theorem computeStages {g : Gear} (inp : DriveInputs) {s : State}
    (computing : (s.loopOf g).state.computing = true) : Interlocks b s (computeStages g inp s) := by
  unfold Machine.computeStages
  refine .trans (.single (.worked g _ s ⟨computing, rfl, fun _ => rfl, ?_⟩)) (Quiet.setRequested ..).interlocks
  exact stagePi_integ ..

/-- A change of a computing loop that keeps its state, its phase and its integrator. -/
theorem counted {g : Gear} {f : DriveLoop → DriveLoop} {s : State}
    (computing : (s.loopOf g).state.computing = true)
    (same : ∀ l, (f l).state = l.state ∧ (f l).phase = l.phase ∧ (f l).integ = l.integ) :
    Interlocks b s (s.onLoop g f) := by
  obtain ⟨state, phase, integ⟩ := same (s.loopOf g)
  exact .single (.worked g f s ⟨computing, state, fun _ => phase, .inl integ⟩)

theorem stallTest {g : Gear} (inp : DriveInputs) {s : State}
    (state : (s.loopOf g).state = .run ∨ (s.loopOf g).state = .held) :
    Interlocks b s (stallTest g inp s) := by
  have computing : (s.loopOf g).state.computing = true := by obtain h | h := state <;> rw [h] <;> rfl
  unfold Machine.stallTest
  split
  · exact .refl
  split
  · split
    · exact jammed state
    · exact counted computing fun _ => ⟨rfl, rfl, rfl⟩
  · exact counted computing fun _ => ⟨rfl, rfl, rfl⟩

theorem advancePhase {g : Gear} {s : State} (unjam : (s.loopOf g).state = .unjam) :
    Interlocks b s (advancePhase g s) := by
  have computing : (s.loopOf g).state.computing = true := by rw [unjam]; rfl
  have phased : ∀ f : DriveLoop → DriveLoop, (∀ l, (f l).state = l.state ∧ (f l).integ = 0) →
      Interlocks b s (s.onLoop g f) := by
    intro f same
    obtain ⟨state, integ⟩ := same (s.loopOf g)
    refine .single (.worked g f s ⟨computing, state, fun other => absurd unjam other, .inr ⟨?_, fun _ => integ⟩⟩)
    rw [integ]
    exact iMax_nonneg s
  unfold Machine.advancePhase
  simp only
  split
  · exact counted computing fun _ => ⟨rfl, rfl, rfl⟩
  split
  · exact .refl
  · exact phased _ fun _ => ⟨rfl, rfl⟩
  · split
    · exact phased _ fun _ => ⟨rfl, rfl⟩
    · exact latch (by simp) s

theorem unjamEnd {g : Gear} (inp : DriveInputs) {s : State} (unjam : (s.loopOf g).state = .unjam) :
    Interlocks b s (unjamEnd g inp s) := by
  have computing : (s.loopOf g).state.computing = true := by rw [unjam]; rfl
  have onward : ∀ f : DriveLoop → DriveLoop,
      (∀ l, (f l).state = l.state ∧ (f l).phase = l.phase ∧ (f l).integ = l.integ) →
      Interlocks b s (Machine.advancePhase g (s.onLoop g f)) := fun f same =>
    (counted computing same).trans (advancePhase (by rw [State.loopOf_onLoop, if_pos rfl, (same _).1, unjam]))
  unfold Machine.unjamEnd
  simp only
  split
  · exact advancePhase unjam
  split
  · exact onward _ fun _ => ⟨rfl, rfl, rfl⟩
  split
  · exact freed unjam
  · exact onward _ fun _ => ⟨rfl, rfl, rfl⟩

theorem endTests (g : Gear) (inp : DriveInputs) (s : State) : Interlocks b s (endTests g inp s) := by
  unfold Machine.endTests
  split
  next state => exact stallTest inp (.inl state)
  next state => exact stallTest inp (.inr state)
  next state => exact unjamEnd inp state
  next state =>
    split
    · exact stopped (by rw [State.loopStates, state]; decide)
    · exact .refl
  next => exact .refl

theorem computingUpdate (g : Gear) (s : State) : Interlocks b s (computingUpdate g s) := by
  unfold Machine.computingUpdate
  simp only
  split
  next computing => exact (healthTest ..).trans ((computeStages _ computing).trans (endTests ..))
  next => exact healthTest ..

theorem driveUpdate (g : Gear) (s : State) : Interlocks b s (driveUpdate g s) := by
  unfold Machine.driveUpdate
  extract_lets evaluated
  have classed : Interlocks b s evaluated := .tail (Quiet.onLoop ..).interlocks (.classed _)
  refine classed.trans ?_
  split
  case h_4 armed => exact releaseTest armed
  case h_5 | h_6 | h_7 | h_8 | h_9 => exact computingUpdate ..
  all_goals exact .refl

theorem overpressureTest (s : State) : Interlocks b s (overpressureTest s) := by
  have counted : Interlocks b s (countPressures s) := (Quiet.countPressures s).interlocks
  have draws : SameBlocks (countPressures s) { countPressures s with draws := (countPressures s).draws + 1 } :=
    ⟨rfl, rfl, rfl, rfl, rfl, rfl, rfl, rfl, rfl, rfl, rfl⟩
  have drawn := counted.trans (Quiet.of_sameBlocks draws).interlocks
  obtain ⟨-, -, same⟩ | ⟨g, -, -, same⟩ | ⟨-, -, g, same⟩ := overpressureTest_cases s <;> rw [same]
  · exact counted
  · exact counted.trans (latch (by simp) _)
  · exact drawn.trans ((latch (by simp) _).trans (latch (by simp) _))

/-! ### The slurry loop -/

/-- The pump output of a loop that works. -/
theorem writePump (v : Int) {s : State} (works : s.slurry.state ≠ .stopped ∧ s.slurry.state ≠ .tripped) :
    Interlocks b s (writePump v s) := by
  refine .trans ?_ (Quiet.setRequested ..).interlocks
  exact .single (.slurryWorked _ s (fun _ => ⟨rfl, rfl, rfl⟩) works)

/-- A change of a slurry loop that works, and its output. -/
theorem pumped {f : Slurry → Slurry} (v : Int) {s : State}
    (same : ∀ x, (f x).state = x.state ∧ (f x).phase = x.phase ∧ (f x).feed = x.feed)
    (works : s.slurry.state ≠ .stopped ∧ s.slurry.state ≠ .tripped) :
    Interlocks b s (Machine.writePump v (s.onSlurry f)) := by
  refine .trans (.single (.slurryWorked f s same works)) (writePump v ?_)
  have state : (s.onSlurry f).slurry.state = s.slurry.state := (same s.slurry).1
  rwa [state]

theorem primingWork {s : State} (priming : s.slurry.state = .priming) :
    Interlocks b s (primingWork s) := by
  have works : s.slurry.state ≠ .stopped ∧ s.slurry.state ≠ .tripped := by simp [priming]
  unfold Machine.primingWork
  split
  · exact .single (.slurryWorked _ s (fun _ => ⟨rfl, rfl, rfl⟩) works)
  split
  · exact pumped _ (fun _ => ⟨rfl, rfl, rfl⟩) works
  · exact latch (by decide) s

theorem primingSample (s : State) : Interlocks b s (primingSample s) := by
  unfold Machine.primingSample
  split
  · exact .refl
  next priming =>
    have works : s.slurry.state ≠ .stopped ∧ s.slurry.state ≠ .tripped := by simp [not_not.mp priming]
    split
    · exact .single (.slurryWorked _ s (fun _ => ⟨rfl, rfl, rfl⟩) works)
    split
    · split
      · exact .single (.slurryRun ..)
      · exact .single (.slurryWorked _ s (fun _ => ⟨rfl, rfl, rfl⟩) works)
    · exact .single (.slurryWorked _ s (fun _ => ⟨rfl, rfl, rfl⟩) works)

theorem primingStale (s : State) : Interlocks b s (primingStale s) := by
  unfold Machine.primingStale
  split
  next priming => exact .single (.slurryWorked _ s (fun _ => ⟨rfl, rfl, rfl⟩) (by simp [priming]))
  next => exact .refl

theorem flowWork {s : State} (run : s.slurry.state = .run) : Interlocks b s (flowWork s) := by
  have works : s.slurry.state ≠ .stopped ∧ s.slurry.state ≠ .tripped := by simp [run]
  unfold Machine.flowWork
  split
  · split
    · unfold backOff
      simp only
      split
      · refine .trans ?_ (latch (by simp) _)
        exact pumped _ (fun _ => ⟨rfl, rfl, rfl⟩) works
      · exact pumped _ (fun _ => ⟨rfl, rfl, rfl⟩) works
    · unfold regulateFlow
      exact pumped _ (fun _ => ⟨rfl, rfl, rfl⟩) works
  · exact .refl

theorem slurryUpdate (s : State) : Interlocks b s (slurryUpdate s) := by
  have first : ∀ t : State, Interlocks b t (slurryFirst t) := by
    intro t
    unfold slurryFirst
    split
    next priming => exact primingWork priming
    next run => exact flowWork run
    all_goals exact .refl
  have cut : ∀ t : State, Interlocks b t (slurryCut t) := by
    intro t
    unfold slurryCut
    split
    · exact .refl
    · exact (Quiet.formCut t).interlocks
  unfold Machine.slurryUpdate
  refine .tail (.trans (.trans ?_ (first _)) (cut _)) (.fed _)
  exact (Quiet.onSlurry ..).interlocks

theorem holdDelayExpired (s : State) : Interlocks b s (holdDelayExpired s) := by
  unfold Machine.holdDelayExpired
  extract_lets idled
  have idle : Interlocks b s idled := (Quiet.onSlurry ..).interlocks
  split
  next rests => exact idle.tail (.agitated _ _ _ idled (by decide) (.inr rests))
  next => exact idle

theorem phaseExpired (s : State) : Interlocks b s (phaseExpired s) := by
  unfold Machine.phaseExpired
  split
  next agitates _ => exact .single (.agitated _ _ _ s (by decide) (.inl agitates))
  next agitates _ => exact .single (.agitated _ _ _ s (by decide) (.inl agitates))
  next => exact .single (.slurryRun ..)
  next => exact (Quiet.onSlurry ..).interlocks

/-! ### The orders of the loops -/

theorem armed {g : Gear} {s : State} (old : (s.loopOf g).state = .stopped)
    (free : s.latched .orderLost = false) : Interlocks b s (enterLoop g .armed s) := by
  refine enters (.rest old rfl) (by rw [State.loopStates, old]; decide) (by decide) nofun nofun ?_
  intro _ law lost
  have := law.mpr lost
  simp [free] at this

theorem startDrives (s : State) : Interlocks b s (startDrives s).2 := by
  unfold Machine.startDrives
  split
  · exact .refl
  next free =>
    have free : s.latched .orderLost = false := by
      by_contra latched
      exact free (List.any_eq_true.mpr ⟨.orderLost, by decide, by simpa using latched⟩)
    split
    · exact .refl
    split
    · exact .refl
    next both =>
      have both : ∀ g, (s.loopOf g).state = .stopped := bothLoops_iff.mp (by simpa using both)
      refine (armed (both .g1) free).trans (armed ?_ (by rw [enterLoop_latched]; exact free))
      rw [enterLoop_state]
      exact both .g2

theorem modeGearbox (g : Gear) (w : Word) (s : State) : Interlocks b s (modeGearbox g w s).2 := by
  unfold Machine.modeGearbox
  split
  · split
    next old =>
      exact enters (.rest old rfl) (by rw [State.loopStates, old]; decide) (by decide) nofun nofun
        fun _ _ _ => rfl
    next => split <;> exact .refl
  · split
    next old => exact stopped (by rw [State.loopStates, old]; decide)
    next => exact .refl
  all_goals exact .refl

theorem steered (new : SteerState) (o : Owner) (s : State) (hand : o = .operator ↔ new = .manual) :
    Interlocks b s (enterSteeringClear new o s) := .single (.steerCleared new o s hand)

theorem modeSteering (w : Word) (s : State) : Interlocks b s (modeSteering w s).2 := by
  unfold Machine.modeSteering
  split
  · exact .refl
  · dsimp only
    split
    · exact .refl
    · exact steered .off .loop s (iff_of_false nofun nofun)
  · split
    · exact .refl
    split
    · exact .refl
    split
    · exact .refl
    · dsimp only
      exact steered _ .loop s (iff_of_false nofun (by split <;> exact nofun))
  · split
    · exact .refl
    split
    · exact .refl
    split
    · exact .refl
    · dsimp only
      exact steered .manual .operator s (iff_of_true rfl rfl)

theorem startPump (s : State) : Interlocks b s (startPump s).2 := by
  unfold Machine.startPump
  split
  · exact .refl
  split
  · exact .refl
  split
  · exact .refl
  next old =>
    refine .trans ?_ (writePump _ ?_)
    · exact .single (.primed _ s (fun _ => ⟨rfl, rfl, rfl⟩) (not_not.mp old))
    · exact ⟨nofun, nofun⟩

theorem stopPump (s : State) : Interlocks b s (stopPump s).2 := by
  unfold Machine.stopPump
  split
  · exact .refl
  next idle =>
    split
    · exact .refl
    · refine .single (.slurryStopped s fun _ g => ?_)
      have idle := (anyCutting_eq_false s).mp (Bool.eq_false_iff.mpr idle) g
      unfold State.loopStates at idle
      cases state : (s.loopOf g).state <;> simp_all [LoopState.cutting, LoopState.running]

theorem modePump (w : Word) (s : State) : Interlocks b s (modePump w s).2 := by
  unfold Machine.modePump
  split
  · split
    next old => exact .single (.pumpManual s (.inl old))
    next old => exact .single (.pumpManual s (.inr (.inl old)))
    next old => exact .single (.pumpManual s (.inr (.inr old)))
    all_goals exact .refl
  · split
    · exact .single (.slurryRun ..)
    · exact .refl
  all_goals exact .refl

/-! ### Steering -/

theorem steeringWork (s : State) : Interlocks b s (steeringWork s) := by
  unfold Machine.steeringWork
  split
  · exact .refl
  · exact .refl
  next auto =>
    refine .trans ?_ (Quiet.regulatePlates _).interlocks
    split
    · exact .single (.steerHeld s auto)
    · exact .single (.steerWorked s (.inl auto))
  next hold =>
    refine .trans ?_ (Quiet.regulatePlates _).interlocks
    split
    · exact .refl
    · exact .single (.steerWorked s (.inr hold))

/-! ### Lanes -/

theorem faultLane (l : Lane) (s : State) : Interlocks b s (faultLane l s) :=
  (Quiet.onLane ..).interlocks.trans (latch (by simp) _)

theorem countBad (l : Lane) (s : State) : Interlocks b s (countBad l s) := by
  unfold Machine.countBad
  split
  · exact .refl
  split
  · exact faultLane l s
  · exact (Quiet.onLane ..).interlocks

theorem handSample (l : Lane) (s : State) : Interlocks b s (handSample l s) := by
  unfold Machine.handSample
  split
  · exact overpressureTest _
  · exact .refl
  · exact (Quiet.attitudeSample ..).interlocks
  · exact primingSample _

theorem useSample (l : Lane) (items : List Word) (s : State) : Interlocks b s (useSample l items s) := by
  refine .trans ?_ (handSample l _)
  exact (Quiet.onLane ..).interlocks

theorem laneReception (l : Lane) (rx : Reception) (s : State) : Interlocks b s (laneReception l rx s) := by
  refine .trans (b := Machine.emptyArea (.lane l) (Machine.storeChars (.lane l) rx s))
    ((Quiet.storeChars ..).trans (Quiet.emptyArea ..)).interlocks ?_
  unfold Machine.laneReception laneArrival
  simp only
  split
  · exact countBad ..
  · exact .refl
  · exact (countBad ..).trans (Quiet.decimate ..).interlocks
  · split
    · exact (Quiet.laneAlive ..).interlocks.trans ((useSample ..).trans (Quiet.decimate ..).interlocks)
    split
    · exact ((Quiet.laneAlive ..).trans (Quiet.offerFrame ..)).interlocks
    · exact (Quiet.laneAlive ..).interlocks

theorem freshnessExpired (l : Lane) (s : State) : Interlocks b s (freshnessExpired l s) := by
  unfold Machine.freshnessExpired
  simp only
  split
  · exact (Quiet.onLane ..).interlocks
  · exact (Quiet.onLane ..).interlocks
  · exact ((Quiet.onLane ..).trans (Quiet.evaluateSurvey _)).interlocks
  · exact (Quiet.onLane ..).interlocks.trans (primingStale _)

/-! ### ORDER and TABLE frames -/

theorem takeOrder {code : Nat} {args : List Word} {act : State → Result × State}
    (acts : ∀ s, Interlocks b s (act s).2) (s : State) : Interlocks b s (takeOrder code args act s) := by
  unfold Machine.takeOrder
  simp only
  refine (orderLinkStep s).trans ?_
  split
  · exact .refl
  split
  · exact (Quiet.reply ..).interlocks
  · exact (acts _).trans (Quiet.reply ..).interlocks

theorem writeWords (t : Table) (i n : Nat) (ws : List Word) (s : State) :
    Interlocks true s (writeWords t i n ws s).state := by
  induction ws generalizing i n s with
  | nil => exact .refl
  | cons w ws ih =>
    unfold Machine.writeWords
    split
    · exact .refl
    next passes => exact .head (.written t i w s passes rfl) (ih ..)

theorem takeWrite (args : List Word) (s : State) : Interlocks true s (takeWrite args s) := by
  unfold Machine.takeWrite
  split
  · exact .refl
  split
  · exact (Quiet.reply ..).interlocks
  · exact (writeWords ..).trans (Quiet.reply ..).interlocks

theorem takeRestart (args : List Word) (s : State) : Interlocks b s (takeRestart args s) := by
  unfold Machine.takeRestart
  simp only
  refine (orderLinkStep s).trans ?_
  split
  · exact .refl
  split
  · exact (Quiet.reply ..).interlocks
  split
  · exact (Quiet.reply ..).interlocks
  · exact .trans (.single (.restarted _)) (.trans (Quiet.reply ..).interlocks
      (Quiet.foldl (fun t l => Quiet.zeroDemand l t) _ _).interlocks)

theorem resetLow (cause : LowCause) (s : State) : Interlocks b s (resetLow cause s) := by
  have same : SameBlocks s { s with draws := s.draws + 1 } :=
    ⟨rfl, rfl, rfl, rfl, rfl, rfl, rfl, rfl, rfl, rfl, rfl⟩
  have drawn := Quiet.of_sameBlocks same
  unfold Machine.resetLow
  split
  · exact (Quiet.enterReset s).interlocks
  split
  · exact (Quiet.enterReset s).interlocks
  simp only
  split
  · exact (drawn.trans (Quiet.enterReset _)).interlocks
  · exact drawn.interlocks

end Interlocks

/-- The command that writes tables. -/
def writesTable : Instr → Bool
  | .tableWrite _ _ => true
  | _ => false

/-- Every event is a run of changes of state. -/
theorem interlocks_workOf (c : Instr) (s : State) : Interlocks (writesTable c) s (workOf c s) := by
  have order : ∀ {b : Bool} {t : State}, Interlocks b (emptyArea .shaft s) t → Interlocks b s t :=
    fun h => (Quiet.emptyArea .shaft s).interlocks.trans h
  cases c with
  | pickupRawChange dt g k level => exact (Quiet.onPickup ..).interlocks
  | filterTimerExpiry dt g k => exact .expiry _ (Quiet.onPickup ..).interlocks
  | zeroWindowExpiry dt g => exact .expiry _ (Quiet.onPickup ..).interlocks
  | driveUpdate dt g => exact .expiry _ (.driveUpdate g s)
  | sampleArrival dt l rx => exact .laneReception l rx s
  | laneFrameArrival dt l rx => exact .laneReception l rx s
  | silenceTimerExpiry dt l => exact .expiry _ (.faultLane l s)
  | freshnessExpiry dt l => exact .expiry _ (.freshnessExpired l s)
  | depth dt items => exact order (Quiet.depthFrame items _).interlocks
  | depthFreshnessExpiry dt => exact .expiry _ (Quiet.depthExpired s).interlocks
  | steeringUpdate dt => exact .expiry _ ((Quiet.onSteering _ s).interlocks.trans (Interlocks.steeringWork _))
  | slurryUpdate dt => exact .expiry _ (.slurryUpdate s)
  | holdDelayExpiry dt => exact .expiry _ (.holdDelayExpired s)
  | phaseTimerExpiry dt => exact .expiry _ (.phaseExpired s)
  | orderTimerExpiry dt => exact .expiry _ (.orderTimerExpired s)
  | reportTimerExpiry dt =>
    exact .expiry _ ((Quiet.onOrders _ s).trans (Quiet.sendReport ..)).interlocks
  | keep dt args => exact order (.orderLinkStep _)
  | driveStart dt args => exact order (.takeOrder .startDrives _)
  | driveStop dt args =>
    simp only [workOf]
    refine order (.takeOrder (fun t => ?_) _)
    exact .bothStopped t
  | speed dt args =>
    simp only [workOf]
    refine order (.takeOrder (fun t => Quiet.interlocks ?_) _)
    exact ⟨fun _ => rfl, rfl, rfl, rfl, fun _ => rfl, rfl⟩
  | setClass dt args =>
    simp only [workOf]
    refine order (.takeOrder (fun t => Quiet.interlocks ?_) _)
    exact ⟨fun _ => rfl, rfl, rfl, rfl, fun _ => rfl, rfl⟩
  | modeGearbox dt g args => exact order (.takeOrder (.modeGearbox g _) _)
  | modeSteering dt args => exact order (.takeOrder (.modeSteering _) _)
  | modePump dt args => exact order (.takeOrder (.modePump _) _)
  | pumpStart dt args => exact order (.takeOrder .startPump _)
  | pumpStop dt args => exact order (.takeOrder .stopPump _)
  | panelBegin dt args =>
    refine order (.takeOrder (fun t => ?_) _)
    unfold beginPanel
    split
    · exact .refl
    split
    · exact .refl
    · exact (Quiet.onSurvey ..).interlocks
  | panelEnd dt args =>
    simp only [workOf]
    refine order (.takeOrder (fun t => ?_) _)
    exact (Quiet.onSurvey ..).interlocks
  | setSpacing dt args =>
    refine order (.takeOrder (fun t => ?_) _)
    unfold takeSpacing
    split
    · exact .refl
    · exact (Quiet.onSurvey ..).interlocks
  | tripReset dt args => exact order (.takeOrder (.resetTrip _) _)
  | restart dt args => exact order (.takeRestart args _)
  | tableRead dt args =>
    refine order (?_ : Interlocks _ _ (takeRead args _))
    unfold takeRead
    split
    · exact .refl
    split <;> exact (Quiet.reply ..).interlocks
  | tableWrite dt args => exact order (.takeWrite args _)
  | operatorDemand dt dest items => exact order (Quiet.operatorDemand dest items _).interlocks
  | deadmanExpiry dt ch => exact .expiry _ (Quiet.deadmanExpired ch s).interlocks
  | refreshTimerExpiry dt l => exact .expiry _ (Quiet.refreshExpired l s).interlocks
  | nodeDown dt f => exact order (Quiet.nodeDown f _).interlocks
  | shaftFrameDiscard dt rx => exact order .refl
  | transmissionStart dt p => exact (Quiet.startTransmission p s).interlocks
  | transmissionComplete dt p => exact (Quiet.completeTransmission p s).interlocks
  | powerOnReset dt straps => exact .single (.poweredOn straps s)
  | orderBadCode dt items =>
    refine order ((Interlocks.orderLinkStep _).trans ?_)
    simp only [workOf]
    split
    · exact .refl
    · exact (Quiet.reply ..).interlocks
  | tableBadCode dt items =>
    refine order (?_ : Interlocks _ _ (takeBadTable items _))
    unfold takeBadTable
    split
    · exact .refl
    · exact (Quiet.reply ..).interlocks
  | modeBadTarget dt args => exact order (.takeOrder (fun _ => .refl) _)
  | rstnLow dt cause => exact .resetLow cause s

end Sys2Proof.Machine

/-! SUPPORT. What every step keeps of the trips, and of the laws that look at the drive loops alone. -/

namespace Sys2Proof.Machine

section
variable {b : Bool} {s t : State}

/-! ## The orders block (R154, R155, R156) -/

/-- What a change of state may do to the link, the latch set and the record. -/
inductive OrdersMove (x y : Orders) : Prop
  | same (h : y.core = x.core)
  | linked (old : x.link ≠ .lost) (new : y.link ≠ .lost) (trips : y.trips = x.trips)
      (record : y.record = x.record)
  | lost (new : y.link = .lost) (trips : y.trips = insertKind .orderLost x.trips)
      (record : x.trips ≠ [] ∧ y.record = x.record ∨ y.record.isSome = true)
  | regained (new : y.link = .live) (trips : y.trips = removeKind .orderLost x.trips)
      (record : y.record = if removeKind .orderLost x.trips = [] then none else x.record)
      (latched : x.trips ≠ [])
  | entered (k : TripKind) (other : k ≠ .orderLost) (link : y.link = x.link)
      (trips : y.trips = insertKind k x.trips)
      (record : x.trips ≠ [] ∧ y.record = x.record ∨ y.record.isSome = true)
  | left (k : TripKind) (other : k ≠ .orderLost) (link : y.link = x.link)
      (trips : y.trips = removeKind k x.trips)
      (record : y.record = if removeKind k x.trips = [] then none else x.record)
  | fresh (link : y.link ≠ .lost) (trips : y.trips = []) (record : y.record = none)

theorem OrdersMove.of_eq {x y : Orders} (h : y = x) : OrdersMove x y := .same (by rw [h])

/-- The record of a kind that enters: the first of the set makes it. -/
theorem enterKind_record (k : TripKind) (s : State) :
    s.orders.trips ≠ [] ∧ (enterKind k s).orders.record = s.orders.record ∨
      (enterKind k s).orders.record.isSome = true := by
  by_cases first : s.orders.trips = []
  · exact .inr (by simp [enterKind, State.onOrders, first])
  · exact .inl ⟨first, by simp [enterKind, State.onOrders, first]⟩

theorem Interlock.orders (change : Interlock b s t) : OrdersMove s.orders t.orders := by
  cases change with
  | quiet h => exact .same h.orders
  | loops moves => exact .of_eq moves.orders
  | linked new _ old other =>
    refine .linked old ?_ ?_ ?_ <;> rw [setLink_orders]
    obtain rfl | rfl := other <;> exact nofun
  | lost =>
    rw [stopBoth_orders]
    have before : ((setLink .lost s).onOrders fun x => { x with timer := .idle }).orders =
        { s.orders with link := .lost, timer := .idle } := by
      show { (setLink .lost s).orders with timer := .idle } = _
      rw [setLink_orders]
    have record := enterKind_record .orderLost ((setLink .lost s).onOrders fun x => { x with timer := .idle })
    rw [before] at record
    refine .lost ?_ ?_ record
    · show ((setLink .lost s).onOrders fun x => { x with timer := .idle }).orders.link = .lost
      rw [before]
    · show insertKind .orderLost ((setLink .lost s).onOrders fun x => { x with timer := .idle }).orders.trips = _
      rw [before]
  | regained _ latched =>
    have latched : s.orders.trips ≠ [] := fun empty => by simp [State.latched, empty] at latched
    rw [setLink_orders]
    exact .regained rfl rfl rfl latched
  | entered k _ other => exact .entered k other rfl rfl (enterKind_record k s)
  | left k _ other => exact .left k other rfl rfl rfl
  | slurryTripped => rw [tripSlurry_eq]; exact .of_eq rfl
  | slurryStopped => rw [zeroSlurry_eq]; exact .of_eq rfl
  | slurryRun => exact .of_eq (enterSlurryRun_orders ..)
  | agitated => rw [startAgitation_eq]; exact .of_eq rfl
  | pumpManual => exact .of_eq (setOwner_orders ..)
  | steerCleared => exact .of_eq (enterSteeringClear_orders ..)
  | classed =>
    unfold evaluateClass
    split <;> exact .of_eq rfl
  | written => rw [putWord_eq]; exact .of_eq rfl
  | restarted => exact .fresh nofun rfl rfl
  | poweredOn => exact .fresh nofun rfl rfl
  | worked | slurryWorked | primed | fed | steerHeld | steerWorked => exact .of_eq rfl

theorem insertKind_ne_nil (k : TripKind) (set : List TripKind) : insertKind k set ≠ [] := by
  intro empty
  have : k ∈ insertKind k set := (mem_insertKind k k set).mpr (.inl rfl)
  rw [empty] at this
  cases this

theorem Orders.core_eq_iff {x y : Orders} : y.core = x.core ↔
    y.link = x.link ∧ y.trips = x.trips ∧ y.record = x.record := by
  simp [Orders.core]

/-- The record is there exactly with a trip latched. -/
theorem OrdersMove.recordLaw {x y : Orders} (move : OrdersMove x y)
    (law : x.trips ≠ [] ↔ x.record.isSome = true) : y.trips ≠ [] ↔ y.record.isSome = true := by
  have inserted : ∀ k, y.trips = insertKind k x.trips →
      (x.trips ≠ [] ∧ y.record = x.record ∨ y.record.isSome = true) →
      (y.trips ≠ [] ↔ y.record.isSome = true) := by
    intro k trips record
    refine iff_of_true (trips ▸ insertKind_ne_nil k _) ?_
    obtain ⟨some, kept⟩ | made := record
    · rw [kept]; exact law.mp some
    · exact made
  have removed : ∀ k, y.trips = removeKind k x.trips →
      y.record = (if removeKind k x.trips = [] then none else x.record) →
      (y.trips ≠ [] ↔ y.record.isSome = true) := by
    intro k trips record
    rw [trips, record]
    by_cases last : removeKind k x.trips = []
    · simp [last]
    · have before : x.trips ≠ [] := fun empty => last (by simp [removeKind, empty])
      simp [last, law.mp before]
  cases move with
  | same h =>
    obtain ⟨-, trips, record⟩ := Orders.core_eq_iff.mp h
    rwa [trips, record]
  | linked _ _ trips record => rwa [trips, record]
  | lost _ trips record => exact inserted _ trips record
  | entered k _ _ trips record => exact inserted k trips record
  | regained _ trips record => exact removed _ trips record
  | left k _ _ trips record => exact removed k trips record
  | fresh _ trips record => simp [trips, record]

/-- A set that is formed by a filter of the kinds stands in their order. -/
theorem filter_allKinds_ordered (p : TripKind → Bool) :
    allKinds.filter p = allKinds.filter fun k => decide (k ∈ allKinds.filter p) := by
  refine List.filter_congr fun k _ => ?_
  simp [mem_allKinds]

theorem OrdersMove.tripOrderLaw {x y : Orders} (move : OrdersMove x y)
    (law : x.trips = allKinds.filter fun k => decide (k ∈ x.trips)) :
    y.trips = allKinds.filter fun k => decide (k ∈ y.trips) := by
  cases move with
  | same h =>
    obtain ⟨-, trips, -⟩ := Orders.core_eq_iff.mp h
    rwa [trips]
  | linked _ _ trips => rwa [trips]
  | lost _ trips | entered _ _ _ trips | regained _ trips | left _ _ _ trips =>
    rw [trips]
    exact filter_allKinds_ordered _
  | fresh _ trips => simp [trips]

theorem OrdersMove.orderLostLaw {x y : Orders} (move : OrdersMove x y)
    (law : .orderLost ∈ x.trips ↔ x.link = .lost) : .orderLost ∈ y.trips ↔ y.link = .lost := by
  cases move with
  | same h =>
    obtain ⟨link, trips, -⟩ := Orders.core_eq_iff.mp h
    rwa [trips, link]
  | linked old new trips => rw [trips]; exact iff_of_false (mt law.mp old) new
  | lost new trips => simp [trips, new]
  | regained new trips => simp [trips, new]
  | entered k other link trips => simp [trips, link, law, other.symm]
  | left k other link trips => simp [trips, link, law, other.symm]
  | fresh link trips => simp [trips, link]

theorem orderLostLaw_iff : s.orderLostLaw ↔ (.orderLost ∈ s.orders.trips ↔ s.orders.link = .lost) := by
  simp [State.orderLostLaw, State.latched]

/-- A property of the part that every change of state keeps is kept by a run of them. -/
theorem Interlocks.keeps {P : State → Prop} (change : ∀ {s t}, Interlock b s t → P s → P t)
    (changes : Interlocks b s t) (hs : P s) : P t := by
  induction changes with
  | refl => exact hs
  | tail _ last ih => exact change last ih

/-- A property that every change of state keeps is kept by every step. -/
theorem step_keeps_of_interlock {P : State → Prop}
    (change : ∀ {b s t}, Interlock b s t → P s → P t) {s t : State} (h : step s = .next t) (hs : P s) :
    P t := by
  refine step_keeps (P := P) (fun same => change (b := false) (.quiet (.of_sameBlocks same)))
    (fun g k level u => change (b := false) (.quiet (.onPickup ..))) (fun c u => ?_) h hs
  exact Interlocks.keeps change (interlocks_workOf c u)

/-- Settles O9: every change of state of the blocks keeps the three laws of the orders block. -/
theorem stepKeepsTripLaws : Obligations.StepKeepsTripLaws := by
  intro s t h
  refine ⟨step_keeps_of_interlock (P := State.recordLaw) (fun change => change.orders.recordLaw) h,
    step_keeps_of_interlock (P := State.tripOrderLaw) (fun change => change.orders.tripOrderLaw) h,
    step_keeps_of_interlock (P := State.orderLostLaw) (fun change law => ?_) h⟩
  exact orderLostLaw_iff.mpr (change.orders.orderLostLaw (orderLostLaw_iff.mp law))

end

end Sys2Proof.Machine

/-! SUPPORT. What every step keeps of the laws that look at the drive loops and the class in effect alone
(R35, R41). -/

namespace Sys2Proof.Machine

section
variable {b : Bool} {s t : State}

/-- A move of the link holds and releases loops, and forms the feed limit; the rest is the link's own. -/
theorem setLink_moves (new : LinkState) (s : State) :
    ∃ u, LoopMoves (s.onOrders fun x => { x with link := new }) u ∧
      (setLink new s = u ∨ setLink new s = formFeed u) := by
  unfold setLink
  split
  next same =>
    have stays : (s.onOrders fun x => { x with link := new }) = s := by rw [← same]; rfl
    exact ⟨s, by rw [stays], .inl rfl⟩
  next =>
    refine ⟨_, ?_, .inr rfl⟩
    split
    · exact (LoopMoves.holdLoop ..).trans (LoopMoves.holdLoop ..)
    · split
      · exact (LoopMoves.unholdLoop ..).trans (LoopMoves.unholdLoop ..)
      · exact .refl
    all_goals exact .refl

/-- What a law of the drive loops and the class in effect is kept by; `b` says whether tables are written. -/
structure DriveLaw (b : Bool) (P : State → Prop) : Prop where
  congr : ∀ {s t : State}, P s → t.drive = s.drive → t.selector = s.selector → P t
  quiet : ∀ {s t : State}, Quiet s t → P s → P t
  move : ∀ {s t : State}, LoopMove s t → P s → P t
  worked : ∀ (g : Gear) (f : DriveLoop → DriveLoop) (s : State),
    LoopWork (s.classField .iMax) (s.loopOf g) (f (s.loopOf g)) → P s → P (s.onLoop g f)
  classed : ∀ s, P s → P (evaluateClass s)
  written : ∀ (t : Table) (index : Nat) (w : Word) (s : State), s.checkWord t index w = none → b = true →
    P s → P (putWord t index w s)
  fresh : ∀ t : State, (∀ g, ∃ timer, t.loopOf g = .powerOn timer) → P t

/-- A law of the drive loops is kept by every change of state. -/
theorem DriveLaw.keeps {P : State → Prop} (drive : DriveLaw b P) (change : Interlock b s t) (law : P s) :
    P t := by
  have linked : ∀ (new : LinkState) (s : State), P s → P (setLink new s) := by
    intro new s law
    obtain ⟨u, moves, same | same⟩ := setLink_moves new s
    · exact same ▸ moves.keeps drive.move (drive.congr law rfl rfl)
    · exact same ▸ drive.congr (moves.keeps drive.move (drive.congr law rfl rfl)) rfl rfl
  cases change with
  | quiet h => exact drive.quiet h law
  | worked g f _ work => exact drive.worked g f s work law
  | loops moves => exact moves.keeps drive.move law
  | linked new => exact linked new s law
  | lost =>
    refine (LoopMoves.stopBoth _).keeps drive.move ?_
    exact drive.congr (linked .lost s law) rfl rfl
  | regained => exact linked .live _ (drive.congr law rfl rfl)
  | slurryTripped =>
    unfold tripSlurry
    refine (LoopMoves.stopBoth _).keeps drive.move (drive.congr law ?_ ?_) <;> rw [zeroSlurry_eq]
  | classed => exact drive.classed s law
  | written t index w _ passes allowed => exact drive.written t index w s passes allowed law
  | restarted => exact drive.fresh _ fun g => ⟨s.startMs .drivePeriod, by cases g <;> rfl⟩
  | poweredOn => exact drive.fresh _ fun g => ⟨.running driveStartPeriod s.now, by cases g <;> rfl⟩
  | slurryStopped => refine drive.congr law ?_ ?_ <;> rw [zeroSlurry_eq]
  | slurryRun => refine drive.congr law ?_ ?_ <;> rw [enterSlurryRun_eq]
  | agitated => refine drive.congr law ?_ ?_ <;> rw [startAgitation_eq]
  | pumpManual =>
    unfold enterPumpManual
    refine drive.congr law ?_ ?_ <;> rw [setOwner_eq] <;> rfl
  | steerCleared => refine drive.congr law ?_ ?_ <;> simp
  | entered | left | slurryWorked | primed | fed | steerHeld | steerWorked =>
    exact drive.congr law rfl rfl

/-! ## Of one loop -/

/-- What the laws look at in a loop, field by field. -/
theorem DriveLoop.core_eq_iff {l m : DriveLoop} : m.core = l.core ↔
    m.state = l.state ∧ m.integ = l.integ ∧ m.phase = l.phase ∧ m.ramped = l.ramped ∧ m.sat = l.sat ∧
      m.stallCount = l.stallCount := by
  simp [DriveLoop.core]

theorem DriveLoop.integOk_congr {iMax : Int} {l m : DriveLoop} (h : m.core = l.core) (law : l.integOk iMax) :
    m.integOk iMax := by
  obtain ⟨state, integ, -⟩ := core_eq_iff.mp h
  unfold DriveLoop.integOk
  rwa [state, integ]

theorem DriveLoop.restOk_congr {l m : DriveLoop} (h : m.core = l.core) (law : l.restOk) : m.restOk := by
  obtain ⟨state, -, phase, ramped, sat, stall⟩ := core_eq_iff.mp h
  unfold DriveLoop.restOk
  rwa [state, phase, ramped, sat, stall]

/-- A law that asks the same of each loop, given I_max. -/
def EachLoop (ok : Int → DriveLoop → Prop) (s : State) : Prop :=
  ∀ g, ok (s.classField .iMax) (s.loopOf g)

theorem EachLoop.congr {ok : Int → DriveLoop → Prop} (law : EachLoop ok s) (drive : t.drive = s.drive)
    (selector : t.selector = s.selector) : EachLoop ok t := by
  intro g
  rw [State.classField, selector, State.loopOf, drive]
  exact law g

theorem EachLoop.quiet {ok : Int → DriveLoop → Prop}
    (same : ∀ {i l m}, DriveLoop.core m = DriveLoop.core l → ok i l → ok i m) (h : Quiet s t)
    (law : EachLoop ok s) : EachLoop ok t := by
  intro g
  rw [h.iMax]
  exact same (h.loop g) (law g)

theorem EachLoop.onLoop {ok : Int → DriveLoop → Prop} {g : Gear} {f : DriveLoop → DriveLoop}
    (law : EachLoop ok s) (worked : ok (s.classField .iMax) (f (s.loopOf g))) :
    EachLoop ok (s.onLoop g f) := by
  intro h
  rw [State.loopOf_onLoop]
  split
  · exact worked
  · exact law h

/-! ## The integrators within ± I_max -/

theorem evaluateClass_loopOf (s : State) (g : Gear) :
    ((evaluateClass s).loopOf g).state = (s.loopOf g).state ∧
      ((evaluateClass s).loopOf g).phase = (s.loopOf g).phase ∧
      ((evaluateClass s).loopOf g).ramped = (s.loopOf g).ramped ∧
      ((evaluateClass s).loopOf g).sat = (s.loopOf g).sat ∧
      ((evaluateClass s).loopOf g).stallCount = (s.loopOf g).stallCount := by
  unfold evaluateClass
  split
  · exact ⟨rfl, rfl, rfl, rfl, rfl⟩
  · rw [loopOf_clampIntegrators]
    exact ⟨rfl, rfl, rfl, rfl, rfl⟩

/-- A class that changes clamps both integrators into ± its I_max (R57). -/
theorem evaluateClass_integ (s : State) (g : Gear) : evaluateClass s = s ∨
    ((evaluateClass s).loopOf g).integ = clampMag ((evaluateClass s).classField .iMax) (s.loopOf g).integ := by
  unfold evaluateClass
  split
  · exact .inl rfl
  · refine .inr ?_
    rw [loopOf_clampIntegrators]
    rfl

theorem clampMag_zero {m : Int} (h : 0 ≤ m) : clampMag m 0 = 0 := by
  unfold clampMag
  exact clamp_of_mem (by omega) h

theorem integBounded_driveLaw : DriveLaw false State.integBounded where
  congr law := EachLoop.congr (ok := fun i l => mag l.integ ≤ i) law
  quiet h law := by
    refine EachLoop.quiet (ok := fun i l => mag l.integ ≤ i) (fun same law => ?_) h law
    rwa [(DriveLoop.core_eq_iff.mp same).2.1]
  move := LoopMove.integBounded
  worked g f s work law := by
    refine EachLoop.onLoop (ok := fun i l => mag l.integ ≤ i) law ?_
    obtain same | ⟨bound, -⟩ := work.integ
    · rw [same]; exact law g
    · exact bound
  classed s law g := by
    obtain same | clamped := evaluateClass_integ s g
    · rw [same]; exact law g
    · rw [clamped]; exact mag_clampMag _ (iMax_nonneg _)
  written _ _ _ _ _ never := nomatch never
  fresh t loops g := by
    obtain ⟨timer, fresh⟩ := loops g
    rw [fresh]
    exact iMax_nonneg t

/-- A table word leaves every loop, and the I_max of the class in effect unless nothing cuts (R51). -/
theorem putWord_iMax {table : Table} {index : Nat} {w : Word} (passes : s.checkWord table index w = none) :
    (putWord table index w s).classField .iMax = s.classField .iMax ∨
      ∀ g, (s.loopOf g).state.cutting = false := by
  cases table with
  | classes =>
    by_cases row : index / 21 = s.selector.classInEffect
    · refine .inr ((anyCutting_eq_false s).mp ?_)
      unfold State.checkWord State.checkClass at passes
      simp only [ite_some_eq_none] at passes
      exact Bool.eq_false_iff.mpr fun cuts => passes.1 ⟨row, cuts⟩
    · refine .inl ?_
      show classWord (s.selector.classTable.set index w) s.selector.classInEffect _ = _
      rw [classWord_set, if_neg]
      · rfl
      · have := ClassField.number_lt .iMax
        omega
  | settings =>
    unfold putWord putSetting
    simp only
    split <;> exact .inl rfl
  | _ => exact .inl rfl

theorem putWord_loopOf (table : Table) (index : Nat) (w : Word) (s : State) (g : Gear) :
    (putWord table index w s).loopOf g = s.loopOf g := by
  rw [putWord_eq]
  rfl

theorem integratorLaw_driveLaw : DriveLaw b State.integratorLaw where
  congr law := EachLoop.congr (ok := DriveLoop.integOk) law
  quiet h law := EachLoop.quiet (ok := DriveLoop.integOk) DriveLoop.integOk_congr h law
  move := LoopMove.integratorLaw
  worked g f s work law := by
    refine EachLoop.onLoop (ok := DriveLoop.integOk) law ?_
    obtain ⟨bound, rest⟩ := law g
    have resting : (s.loopOf g).state ∈ [LoopState.stopped, .armed, .opened, .manual, .tripped] →
        (s.loopOf g).state = .opened := by
      have computing := work.computing
      cases state : (s.loopOf g).state <;> simp_all [LoopState.computing]
    unfold DriveLoop.integOk
    rw [work.state]
    obtain same | ⟨within, zero⟩ := work.integ
    · rw [same]; exact ⟨bound, rest⟩
    · exact ⟨fun _ => within, fun state => zero (resting state)⟩
  classed s law := by
    refine integratorLaw_iff.mpr fun g => ?_
    obtain same | clamped := evaluateClass_integ s g
    · rw [same]; exact law g
    · unfold DriveLoop.integOk
      rw [clamped, (evaluateClass_loopOf s g).1]
      refine ⟨fun _ => mag_clampMag _ (iMax_nonneg _), fun state => ?_⟩
      rw [(law g).2 state]
      exact clampMag_zero (iMax_nonneg _)
  written table index w s passes _ law := by
    refine integratorLaw_iff.mpr fun g => ?_
    rw [putWord_loopOf]
    obtain same | idle := putWord_iMax passes
    · rw [same]; exact law g
    · refine ⟨fun moving => ?_, (law g).2⟩
      rw [(law g).2]
      · exact iMax_nonneg _
      · have idle := idle g
        cases state : (s.loopOf g).state <;> simp_all [LoopState.cutting]
  fresh t loops := by
    refine integratorLaw_iff.mpr fun g => ?_
    obtain ⟨timer, fresh⟩ := loops g
    rw [fresh]
    exact DriveLoop.integOk_zero (iMax_nonneg t) rfl

theorem restingLoopLaw_driveLaw : DriveLaw b State.restingLoopLaw where
  congr law := EachLoop.congr (ok := fun _ l => l.restOk) law
  quiet h law := EachLoop.quiet (ok := fun _ l => l.restOk) DriveLoop.restOk_congr h law
  move := LoopMove.restingLoopLaw
  worked g f s work law := by
    refine EachLoop.onLoop (ok := fun _ l => l.restOk) law ?_
    obtain ⟨phase, -⟩ := law g
    unfold DriveLoop.restOk
    rw [work.state]
    refine ⟨fun other => (work.phase other).trans (phase other), fun rest => ?_⟩
    have computing := work.computing
    cases state : (s.loopOf g).state <;> simp_all [LoopState.computing]
  classed s law := by
    refine restingLoopLaw_iff.mpr fun g => ?_
    obtain ⟨state, phase, ramped, sat, stall⟩ := evaluateClass_loopOf s g
    unfold DriveLoop.restOk
    rw [state, phase, ramped, sat, stall]
    exact law g
  written table index w s _ _ law := by
    refine restingLoopLaw_iff.mpr fun g => ?_
    rw [putWord_loopOf]
    exact law g
  fresh t loops := by
    refine restingLoopLaw_iff.mpr fun g => ?_
    obtain ⟨timer, fresh⟩ := loops g
    rw [fresh]
    exact ⟨fun _ => rfl, fun _ => ⟨rfl, rfl, rfl⟩⟩

end

end Sys2Proof.Machine

/-! SUPPORT. What every step keeps of the cutting loops, of the feed limit, of the owners, of steering and of
the slurry loop (R24, R27, R34, R89, R102, R116, R125). -/

namespace Sys2Proof.Machine

section
variable {b : Bool} {s t : State}

theorem Quiet.states (h : Quiet s t) : t.loopStates = s.loopStates :=
  funext fun g => (DriveLoop.core_eq_iff.mp (h.loop g)).1

theorem Slurry.core_eq_iff {x y : Slurry} : y.core = x.core ↔
    y.state = x.state ∧ y.phase = x.phase ∧ y.output = x.output ∧ y.integ = x.integ ∧
      y.detectCount = x.detectCount ∧ y.dwellCount = x.dwellCount ∧ y.suctionCount = x.suctionCount ∧
      y.feed = x.feed := by
  simp [Slurry.core]

theorem Steering.core_eq_iff {x y : Steering} : y.core = x.core ↔
    y.state = x.state ∧ y.projX = x.projX ∧ y.projY = x.projY ∧ y.targets = x.targets ∧ y.trim = x.trim := by
  simp [Steering.core]

theorem LoopWork.states {g : Gear} {f : DriveLoop → DriveLoop} {iMax : Int}
    (work : LoopWork iMax (s.loopOf g) (f (s.loopOf g))) : (s.onLoop g f).loopStates = s.loopStates := by
  funext h
  unfold State.loopStates
  rw [State.loopOf_onLoop]
  split
  next here => rw [work.state, here]
  next => rfl

theorem evaluateClass_states (s : State) : (evaluateClass s).loopStates = s.loopStates :=
  funext fun g => (evaluateClass_loopOf s g).1

theorem putWord_states (table : Table) (index : Nat) (w : Word) (s : State) :
    (putWord table index w s).loopStates = s.loopStates :=
  funext fun g => congrArg DriveLoop.state (putWord_loopOf table index w s g)

/-- Loops that come out of a reset stand in STOPPED. -/
theorem restartBlocks_states (s : State) : (restartBlocks s).loopStates = fun _ => .stopped :=
  funext fun g => by cases g <;> rfl

theorem powerOn_states (straps : Straps) (s : State) : (powerOn straps s).loopStates = fun _ => .stopped :=
  funext fun g => by cases g <;> rfl

theorem evaluateClass_same (s : State) : (evaluateClass s).slurry = s.slurry ∧
    (evaluateClass s).orders = s.orders ∧ (evaluateClass s).steering = s.steering ∧
    (evaluateClass s).lanes = s.lanes := by
  unfold evaluateClass
  split <;> exact ⟨rfl, rfl, rfl, rfl⟩

/-! ## Running loops (R24) -/

theorem runningLaw_congr (law : s.runningLaw) (states : t.loopStates = s.loopStates)
    (slurry : t.slurry.state = s.slurry.state) : t.runningLaw := by
  intro g run
  rw [slurry]
  exact law g (by rw [show (s.loopOf g).state = (t.loopOf g).state from (congrFun states g).symm]; exact run)

theorem runningLaw_of_idle (idle : ∀ g, (t.loopStates g).running = false) : t.runningLaw := by
  intro g run
  rw [show (t.loopOf g).state = t.loopStates g from rfl, idle g] at run
  cases run

/-- Without flow nothing runs. -/
theorem idle_of_runningLaw (law : s.runningLaw) (run : s.slurry.state ≠ .run)
    (manual : s.slurry.state ≠ .manual) (g : Gear) : (s.loopStates g).running = false :=
  Bool.eq_false_iff.mpr fun running => (law g running).elim run manual

theorem runningLaw_setLink (new : LinkState) (law : s.runningLaw) : (setLink new s).runningLaw := by
  obtain ⟨u, moves, same⟩ := setLink_moves new s
  have kept : u.runningLaw := moves.keeps LoopMove.runningLaw (runningLaw_congr law rfl rfl)
  obtain same | same := same
  · exact same ▸ kept
  · exact same ▸ runningLaw_congr kept rfl rfl

theorem Interlock.runningLaw (change : Interlock b s t) (law : s.runningLaw) : t.runningLaw := by
  cases change with
  | quiet h => exact runningLaw_congr law h.states (Slurry.core_eq_iff.mp h.slurry).1
  | worked g f _ work => exact runningLaw_congr law work.states rfl
  | loops moves => exact moves.keeps LoopMove.runningLaw law
  | linked new => exact runningLaw_setLink new law
  | lost =>
    refine (LoopMoves.stopBoth _).keeps LoopMove.runningLaw ?_
    exact runningLaw_congr (runningLaw_setLink .lost law) rfl rfl
  | regained => exact runningLaw_setLink .live (runningLaw_congr law rfl rfl)
  | slurryTripped =>
    refine runningLaw_of_idle fun g => ?_
    rw [tripSlurry, State.loopStates, stopBoth_state]
    exact stopOutcome_not_running ..
  | slurryStopped _ idle =>
    refine runningLaw_of_idle fun g => ?_
    rw [State.loopStates, zeroSlurry_loopOf]
    exact idle law g
  | slurryRun => exact fun _ _ => .inl (by rw [enterSlurryRun_slurry])
  | agitated p d time _ _ old =>
    refine runningLaw_of_idle fun g => ?_
    rw [startAgitation_eq]
    obtain agitates | ⟨-, both⟩ := old
    · exact idle_of_runningLaw law (by simp [agitates]) (by simp [agitates]) g
    · show (s.loopOf g).state.running = false
      rw [bothLoops_iff.mp both g]
      rfl
  | slurryWorked f _ same => exact runningLaw_congr law rfl (same s.slurry).1
  | primed f _ _ old =>
    exact runningLaw_of_idle fun g =>
      idle_of_runningLaw (s := s) law (by simp [old]) (by simp [old]) g
  | pumpManual => exact fun _ _ => .inr (by rw [enterPumpManual, setOwner_slurry]; rfl)
  | steerCleared =>
    refine runningLaw_congr law (funext fun g => ?_) ?_
    · rw [State.loopStates, enterSteeringClear_loopOf]; rfl
    · rw [enterSteeringClear_slurry]
  | classed => exact runningLaw_congr law (evaluateClass_states s) (by rw [(evaluateClass_same s).1])
  | written => exact runningLaw_congr law (putWord_states ..) (by rw [putWord_eq])
  | restarted => exact runningLaw_of_idle fun g => by rw [restartBlocks_states]; rfl
  | poweredOn => exact runningLaw_of_idle fun g => by rw [powerOn_states]; rfl
  | entered | left | fed | steerHeld | steerWorked => exact runningLaw_congr law rfl rfl

/-! ## The feed limit (R116) -/

theorem feedLaw_congr (law : s.feedLaw) (states : t.loopStates = s.loopStates)
    (feed : t.slurry.feed = s.slurry.feed) (link : t.orders.link = s.orders.link) : t.feedLaw := by
  intro some
  rw [feed] at some
  obtain ⟨run, live⟩ := law some
  refine ⟨bothLoops_iff.mpr fun g => ?_, link.trans live⟩
  exact (congrFun states g).trans (bothLoops_iff.mp run g)

theorem feedLaw_of_zero (zero : t.slurry.feed = 0) : t.feedLaw := fun some => absurd zero some

theorem feedLaw_setLink (new : LinkState) (law : s.feedLaw) : (setLink new s).feedLaw := by
  by_cases same : s.orders.link = new
  · rw [setLink, if_pos same]
    exact law
  · exact feedLaw_of_formed (setLink_feed same)

theorem Interlock.feedLaw (change : Interlock b s t) (law : s.feedLaw) : t.feedLaw := by
  cases change with
  | quiet h =>
    obtain ⟨-, -, -, -, -, -, -, feed⟩ := Slurry.core_eq_iff.mp h.slurry
    exact feedLaw_congr law h.states feed (Orders.core_eq_iff.mp h.orders).1
  | worked g f _ work => exact feedLaw_congr law work.states rfl rfl
  | loops moves => exact moves.keeps LoopMove.feedLaw law
  | linked new => exact feedLaw_setLink new law
  | lost =>
    refine (LoopMoves.stopBoth _).keeps LoopMove.feedLaw ?_
    exact feedLaw_congr (feedLaw_setLink .lost law) rfl rfl rfl
  | regained => exact feedLaw_setLink .live (feedLaw_congr law rfl rfl rfl)
  | slurryTripped =>
    refine (LoopMoves.stopBoth _).keeps LoopMove.feedLaw (feedLaw_congr law ?_ ?_ ?_) <;> rw [zeroSlurry_eq]
    rfl
  | slurryStopped => refine feedLaw_congr law ?_ ?_ ?_ <;> rw [zeroSlurry_eq]; rfl
  | slurryRun => refine feedLaw_congr law ?_ ?_ ?_ <;> rw [enterSlurryRun_eq]; rfl
  | agitated => refine feedLaw_congr law ?_ ?_ ?_ <;> rw [startAgitation_eq]; rfl
  | slurryWorked f _ same => exact feedLaw_congr law rfl (same s.slurry).2.2 rfl
  | primed f _ same => exact feedLaw_congr law rfl (same s.slurry).2.2 rfl
  | pumpManual =>
    unfold enterPumpManual
    refine feedLaw_congr law ?_ ?_ ?_ <;> rw [setOwner_eq] <;> rfl
  | fed => exact feedLaw_of_formed rfl
  | steerCleared =>
    refine feedLaw_congr law (funext fun g => ?_) ?_ ?_
    · rw [State.loopStates, enterSteeringClear_loopOf]; rfl
    · rw [enterSteeringClear_slurry]
    · rw [enterSteeringClear_orders]
  | classed =>
    obtain ⟨slurry, orders, -⟩ := evaluateClass_same s
    exact feedLaw_congr law (evaluateClass_states s) (by rw [slurry]) (by rw [orders])
  | written => exact feedLaw_congr law (putWord_states ..) (by rw [putWord_eq]) (by rw [putWord_eq])
  | restarted => exact feedLaw_of_zero rfl
  | poweredOn => exact feedLaw_of_zero rfl
  | entered | left | steerHeld | steerWorked => exact feedLaw_congr law rfl rfl rfl

/-! ## HELD causes and LOST (R27, R34) -/

theorem heldLaw_congr (law : s.heldLaw) (states : t.loopStates = s.loopStates)
    (link : t.orders.link = s.orders.link) : t.heldLaw := by
  rw [heldLaw_iff] at law ⊢
  rwa [states, link]

theorem formFeed_loopStates (s : State) : (formFeed s).loopStates = s.loopStates := rfl

/-- Both loops are held. -/
theorem holdBoth_loopStates (s : State) : (holdLoop .g2 (holdLoop .g1 s)).loopStates =
    fun h => if s.loopStates h = .run then .held else s.loopStates h := by
  rw [holdLoop_loopStates, holdLoop_loopStates]
  funext h
  cases h
  · by_cases run : s.loopStates .g1 = .run <;> simp [run]
  · by_cases run : s.loopStates .g2 = .run <;> simp [run]

/-- Out of WARN, both loops are released but over an unjamming partner. -/
theorem unholdBoth_loopStates (link : s.orders.link ≠ .warn) : (unholdLoop .g2 (unholdLoop .g1 s)).loopStates =
    fun h => if s.loopStates h = .held ∧ s.loopStates h.partner ≠ .unjam then .run else s.loopStates h := by
  have cause : ∀ u : State, u.orders.link = s.orders.link → ∀ g,
      (u.heldCause g = false ↔ u.loopStates g.partner ≠ .unjam) := fun u same g => by
    rw [heldCause_eq_false, same, and_iff_left link]
  have released := unholdLoop_loopStates .g1 s
  have unjam : (unholdLoop .g1 s).loopStates .g1 = .unjam ↔ s.loopStates .g1 = .unjam := by
    rw [released]
    by_cases held : s.loopStates .g1 = .held <;> simp [held]
    split <;> simp
  rw [unholdLoop_loopStates]
  funext h
  cases h with
  | g1 => simp [released, cause s rfl]
  | g2 =>
    have second : (unholdLoop .g1 s).loopStates .g2 = s.loopStates .g2 := by simp [released]
    have free := (cause (unholdLoop .g1 s) (by simp) .g2).trans (not_congr unjam)
    exact if_congr (by simp [free, second, Gear.partner]) rfl second

/-- A move of the link into WARN holds the loops in RUN (R27, R153). -/
theorem setLink_warn_loopStates (old : s.orders.link ≠ .warn) : (setLink .warn s).loopStates =
    fun h => if s.loopStates h = .run then .held else s.loopStates h := by
  unfold setLink
  rw [if_neg old, formFeed_loopStates]
  exact holdBoth_loopStates _

/-- A move of the link from WARN into LIVE releases the loops in HELD whose partner is not in UNJAM. -/
theorem setLink_live_of_warn_loopStates (old : s.orders.link = .warn) : (setLink .live s).loopStates =
    fun h => if s.loopStates h = .held ∧ s.loopStates h.partner ≠ .unjam then .run else s.loopStates h := by
  have other : s.orders.link ≠ .live := by rw [old]; exact nofun
  unfold setLink
  rw [if_neg other, formFeed_loopStates]
  simp only [old, if_true]
  exact unholdBoth_loopStates nofun

theorem setLink_live_loopStates (old : s.orders.link ≠ .warn) :
    (setLink .live s).loopStates = s.loopStates := by
  unfold setLink
  split
  · rfl
  · simp only [formFeed_loopStates]
    rfl

/-- A move of the link into LIVE or WARN. -/
theorem heldLaw_setLink {new : LinkState} (law : s.heldLaw) (other : new = .live ∨ new = .warn) : (setLink new s).heldLaw := by
  by_cases same : s.orders.link = new
  · rw [setLink, if_pos same]
    exact law
  rw [heldLaw_iff] at law ⊢
  rw [setLink_orders]
  obtain rfl | rfl := other
  · by_cases warn : s.orders.link = .warn
    · rw [setLink_live_of_warn_loopStates warn]
      rw [warn] at law
      exact law.live
    · rw [setLink_live_loopStates warn]
      exact law.relink warn nofun nofun
  · rw [setLink_warn_loopStates same]
    exact HeldOk.warn s.loopStates

/-- What R27 and R34 ask, with what they need of the latch set. -/
theorem Interlock.heldLaw (change : Interlock b s t) (orderLost : s.orderLostLaw) (law : s.heldLaw) :
    t.heldLaw := by
  cases change with
  | quiet h => exact heldLaw_congr law h.states (Orders.core_eq_iff.mp h.orders).1
  | worked g f _ work => exact heldLaw_congr law work.states rfl
  | loops _ held => exact held law orderLost
  | linked new _ _ other => exact heldLaw_setLink law other
  | lost => exact heldLaw_stopBoth _
  | regained _ latched =>
    have lost : s.orders.link = .lost := orderLost.mp latched
    rw [heldLaw_iff] at law ⊢
    rw [setLink_live_loopStates (fun warn => by cases lost.symm.trans warn)]
    exact .of_idle fun g => (law g).2.2 lost
  | slurryTripped => exact heldLaw_stopBoth _
  | slurryStopped => refine heldLaw_congr law ?_ ?_ <;> rw [zeroSlurry_eq]; rfl
  | slurryRun => refine heldLaw_congr law ?_ ?_ <;> rw [enterSlurryRun_eq]; rfl
  | agitated => refine heldLaw_congr law ?_ ?_ <;> rw [startAgitation_eq]; rfl
  | pumpManual =>
    unfold enterPumpManual
    refine heldLaw_congr law ?_ ?_ <;> rw [setOwner_eq] <;> rfl
  | steerCleared =>
    refine heldLaw_congr law (funext fun g => ?_) ?_
    · rw [State.loopStates, enterSteeringClear_loopOf]; rfl
    · rw [enterSteeringClear_orders]
  | classed =>
    obtain ⟨-, orders, -⟩ := evaluateClass_same s
    exact heldLaw_congr law (evaluateClass_states s) (by rw [orders])
  | written => exact heldLaw_congr law (putWord_states ..) (by rw [putWord_eq])
  | restarted => exact (heldLaw_iff _).mpr (.of_idle fun g => by rw [restartBlocks_states]; rfl)
  | poweredOn => exact (heldLaw_iff _).mpr (.of_idle fun g => by rw [powerOn_states]; rfl)
  | entered | left | slurryWorked | primed | fed | steerHeld | steerWorked => exact heldLaw_congr law rfl rfl

/-- Settles O10: every change of state keeps the three laws; that of the HELD causes beside ORDER_LOST's. -/
theorem stepKeepsCuttingLaws : Obligations.StepKeepsCuttingLaws := by
  intro s t h
  refine ⟨step_keeps_of_interlock (fun change => change.runningLaw) h, fun law orderLost => ?_,
    step_keeps_of_interlock (fun change => change.feedLaw) h⟩
  have both := step_keeps_of_interlock (P := fun u => u.orderLostLaw ∧ u.heldLaw)
    (fun change laws => ⟨orderLostLaw_iff.mpr (change.orders.orderLostLaw (orderLostLaw_iff.mp laws.1)),
      change.heldLaw laws.1 laws.2⟩) h ⟨orderLost, law⟩
  exact both.2

end

end Sys2Proof.Machine

/-! SUPPORT. What every step keeps of the owners, of steering and of the slurry loop (R89, R102, R110, R113,
R125); with the laws of the loops, the laws of the blocks. -/

namespace Sys2Proof.Machine

section
variable {b : Bool} {s t : State}

/-! ## Owners (R125) -/

theorem ownerLaw_congr (law : s.ownerLaw) (owner : ∀ ch, (t.demand ch).owner = (s.demand ch).owner)
    (states : t.loopStates = s.loopStates) (steering : t.steering.state = s.steering.state)
    (slurry : t.slurry.state = .manual ↔ s.slurry.state = .manual) : t.ownerLaw := by
  obtain ⟨valves, plates, pump⟩ := law
  refine ⟨fun g => ?_, fun p => ?_, ?_⟩
  · rw [owner, valves g]
    exact congrArg (· = LoopState.manual) (congrFun states g).symm ▸ Iff.rfl
  · rw [owner, plates p, steering]
  · rw [owner, pump, slurry]

/-- The slurry loop moves, and with it the owner of the pump channel. -/
theorem ownerLaw_pump (law : s.ownerLaw) (owner : ∀ ch, ch ≠ .pump → (t.demand ch).owner = (s.demand ch).owner)
    (states : t.loopStates = s.loopStates) (steering : t.steering = s.steering)
    (pump : (t.demand .pump).owner = .operator ↔ t.slurry.state = .manual) : t.ownerLaw := by
  obtain ⟨valves, plates, -⟩ := law
  refine ⟨fun g => ?_, fun p => ?_, pump⟩
  · rw [owner (.valve g) nofun, valves g]
    exact congrArg (· = LoopState.manual) (congrFun states g).symm ▸ Iff.rfl
  · rw [owner (.plate p) nofun, plates p, steering]

theorem zeroSlurry_owner (new : SlurryState) (s : State) (ch : Channel) :
    ((zeroSlurry new s).demand ch).owner = if ch = .pump then .loop else (s.demand ch).owner := by
  rw [zeroSlurry, writePump_owner, setOwner_owner]
  rfl

theorem ownerLaw_zeroSlurry {new : SlurryState} (other : new ≠ .manual) (law : s.ownerLaw) :
    (zeroSlurry new s).ownerLaw := by
  refine ownerLaw_pump law (fun ch drives => ?_) ?_ ?_ ?_
  · rw [zeroSlurry_owner, if_neg drives]
  · rw [zeroSlurry_eq]; rfl
  · rw [zeroSlurry_eq]
  · rw [zeroSlurry_owner, zeroSlurry_slurry]
    exact iff_of_false nofun other

theorem ownerLaw_setLink (new : LinkState) (law : s.ownerLaw) : (setLink new s).ownerLaw := by
  obtain ⟨u, moves, same⟩ := setLink_moves new s
  have kept : u.ownerLaw :=
    moves.keeps LoopMove.ownerLaw (ownerLaw_congr law (fun _ => rfl) rfl rfl Iff.rfl)
  obtain same | same := same
  · exact same ▸ kept
  · exact same ▸ ownerLaw_congr kept (fun _ => rfl) rfl rfl Iff.rfl

/-- Steering takes the plate channels with it. -/
theorem ownerLaw_enterSteeringClear {new : SteerState} {o : Owner} (hand : o = .operator ↔ new = .manual)
    (law : s.ownerLaw) : (enterSteeringClear new o s).ownerLaw := by
  obtain ⟨valves, plates, pump⟩ := law
  refine ⟨fun g => ?_, fun p => ?_, ?_⟩
  · rw [enterSteeringClear_loopOf]
    simpa [enterSteeringClear] using valves g
  · rw [(enterSteeringClear_plates ..).2, enterSteeringClear_steering]
    exact hand
  · rw [enterSteeringClear_slurry]
    simpa [enterSteeringClear] using pump

/-- Every channel comes out of a reset with its loop. -/
theorem ownerLaw_fresh (owner : ∀ ch, (t.demand ch).owner = .loop) (states : t.loopStates = fun _ => .stopped)
    (steering : t.steering.state = .off) (slurry : t.slurry.state = .stopped) : t.ownerLaw := by
  refine ⟨fun g => ?_, fun p => ?_, ?_⟩
  · rw [owner, show (t.loopOf g).state = .stopped from congrFun states g]
    exact iff_of_false nofun nofun
  · rw [owner, steering]
    exact iff_of_false nofun nofun
  · rw [owner, slurry]
    exact iff_of_false nofun nofun

theorem putWord_demand (table : Table) (index : Nat) (w : Word) (s : State) (ch : Channel) :
    (putWord table index w s).demand ch = s.demand ch := by
  cases table with
  | settings =>
    unfold putWord putSetting
    simp only
    split <;> rfl
  | _ => rfl

theorem Interlock.ownerLaw (change : Interlock b s t) (law : s.ownerLaw) : t.ownerLaw := by
  cases change with
  | quiet h =>
    exact ownerLaw_congr law h.owner h.states (Steering.core_eq_iff.mp h.steering).1
      (by rw [(Slurry.core_eq_iff.mp h.slurry).1])
  | worked g f _ work => exact ownerLaw_congr law (fun _ => rfl) work.states rfl Iff.rfl
  | loops moves => exact moves.keeps LoopMove.ownerLaw law
  | linked new => exact ownerLaw_setLink new law
  | lost =>
    refine (LoopMoves.stopBoth _).keeps LoopMove.ownerLaw ?_
    exact ownerLaw_congr (ownerLaw_setLink .lost law) (fun _ => rfl) rfl rfl Iff.rfl
  | regained => exact ownerLaw_setLink .live (ownerLaw_congr law (fun _ => rfl) rfl rfl Iff.rfl)
  | slurryTripped =>
    exact (LoopMoves.stopBoth _).keeps LoopMove.ownerLaw (ownerLaw_zeroSlurry nofun law)
  | slurryStopped => exact ownerLaw_zeroSlurry nofun law
  | slurryRun v =>
    refine ownerLaw_pump law (fun ch drives => ?_) ?_ ?_ ?_
    · rw [enterSlurryRun_owner, if_neg drives]
    · rw [enterSlurryRun_eq]; rfl
    · rw [enterSlurryRun_eq]
    · rw [enterSlurryRun_owner, enterSlurryRun_slurry]
      exact iff_of_false nofun nofun
  | agitated _ _ _ _ _ old =>
    refine ownerLaw_congr law (fun ch => ?_) ?_ ?_ ?_
    · rw [startAgitation, writePump_owner]; rfl
    · rw [startAgitation_eq]; rfl
    · rw [startAgitation_eq]
    · rw [startAgitation_eq]
      obtain state | ⟨state, -⟩ := old <;> exact iff_of_false nofun (by rw [state]; exact nofun)
  | slurryWorked f _ same => exact ownerLaw_congr law (fun _ => rfl) rfl rfl (by rw [← (same s.slurry).1]; rfl)
  | primed f _ same old =>
    refine ownerLaw_congr law (fun _ => rfl) rfl rfl (iff_of_false ?_ ?_)
    · show (f s.slurry).state ≠ .manual
      rw [(same s.slurry).1]
      exact nofun
    · rw [old]
      exact nofun
  | pumpManual =>
    refine ownerLaw_pump law (fun ch drives => ?_) ?_ ?_ ?_
    · rw [enterPumpManual, setOwner_owner, if_neg drives]; rfl
    · rw [enterPumpManual, setOwner_eq]; rfl
    · rw [enterPumpManual, setOwner_eq]; rfl
    · rw [enterPumpManual, setOwner_owner, setOwner_slurry]
      exact iff_of_true rfl rfl
  | steerCleared new o _ hand => exact ownerLaw_enterSteeringClear hand law
  | steerHeld _ old =>
    obtain ⟨valves, plates, pump⟩ := law
    exact ⟨valves, fun p => (plates p).trans (by rw [old]; exact iff_of_false nofun nofun), pump⟩
  | steerWorked _ old =>
    obtain ⟨valves, plates, pump⟩ := law
    refine ⟨valves, fun p => (plates p).trans (iff_of_false ?_ nofun), pump⟩
    obtain state | state := old <;> rw [state] <;> exact nofun
  | classed =>
    obtain ⟨slurry, -, steering, lanes⟩ := evaluateClass_same s
    refine ownerLaw_congr law (fun ch => ?_) (evaluateClass_states s) (by rw [steering]) (by rw [slurry])
    unfold State.demand
    rw [lanes]
  | written table index w =>
    refine ownerLaw_congr law (fun ch => ?_) (putWord_states ..) ?_ ?_
    · rw [putWord_demand]
    · rw [putWord_eq]
    · rw [putWord_eq]
  | restarted =>
    refine ownerLaw_fresh (fun ch => ?_) (restartBlocks_states s) rfl rfl
    obtain g | p | _ := ch
    · cases g <;> rfl
    · cases p <;> rfl
    · rfl
  | poweredOn straps =>
    refine ownerLaw_fresh (fun ch => ?_) (powerOn_states straps s) rfl rfl
    obtain g | p | _ := ch
    · cases g <;> rfl
    · cases p <;> rfl
    · rfl
  | entered | left | fed => exact ownerLaw_congr law (fun _ => rfl) rfl rfl Iff.rfl

/-! ## Steering (R89) -/

theorem steeringLaw_congr (law : s.steeringLaw) (same : t.steering.core = s.steering.core) : t.steeringLaw := by
  obtain ⟨state, x, y, targets, trim⟩ := Steering.core_eq_iff.mp same
  unfold State.steeringLaw
  rwa [state, x, y, targets, trim]

theorem setLink_steering_eq (new : LinkState) (s : State) : (setLink new s).steering = s.steering := by simp

theorem Interlock.steeringLaw (change : Interlock b s t) (law : s.steeringLaw) : t.steeringLaw := by
  cases change with
  | quiet h => exact steeringLaw_congr law h.steering
  | loops moves => exact steeringLaw_congr law (by rw [moves.steering])
  | linked => exact steeringLaw_congr law (by rw [setLink_steering])
  | lost =>
    refine steeringLaw_congr law ?_
    rw [(LoopMoves.stopBoth _).steering]
    exact congrArg Steering.core (setLink_steering .lost s)
  | regained => exact steeringLaw_congr law (by rw [setLink_steering]; rfl)
  | slurryTripped =>
    refine steeringLaw_congr law ?_
    rw [tripSlurry, (LoopMoves.stopBoth _).steering, zeroSlurry_eq]
  | slurryStopped => exact steeringLaw_congr law (by rw [zeroSlurry_eq])
  | slurryRun => exact steeringLaw_congr law (by rw [enterSlurryRun_eq])
  | agitated => exact steeringLaw_congr law (by rw [startAgitation_eq])
  | pumpManual => exact steeringLaw_congr law (by rw [enterPumpManual, setOwner_eq]; rfl)
  | steerCleared =>
    unfold State.steeringLaw
    rw [enterSteeringClear_steering]
    exact ⟨fun _ => ⟨rfl, rfl, rfl⟩, fun _ => rfl⟩
  | steerHeld => exact ⟨fun _ => ⟨rfl, rfl, rfl⟩, nofun⟩
  | steerWorked => exact ⟨fun other => absurd rfl other, nofun⟩
  | classed => exact steeringLaw_congr law (by rw [(evaluateClass_same s).2.2.1])
  | written => exact steeringLaw_congr law (by rw [putWord_eq])
  | restarted => exact ⟨fun _ => ⟨rfl, rfl, rfl⟩, fun _ => rfl⟩
  | poweredOn => exact ⟨fun _ => ⟨rfl, rfl, rfl⟩, fun _ => rfl⟩
  | worked | entered | left | slurryWorked | primed | fed => exact steeringLaw_congr law rfl

/-! ## The slurry loop (R102, R110, R113) -/

/-- But for the feed limit and the timers, the slurry loop is as it was. -/
theorem slurryLaw_of_core (law : s.slurryLaw) (feed : Int)
    (same : t.slurry.core = { s.slurry with feed := feed }.core) : t.slurryLaw := by
  obtain ⟨state, phase, output, integ, detect, dwell, suction, -⟩ := Slurry.core_eq_iff.mp same
  exact slurryLaw_congr law state phase output integ detect dwell suction

theorem slurryLaw_setLink (new : LinkState) (law : s.slurryLaw) : (setLink new s).slurryLaw :=
  slurryLaw_of_core law (setLink new s).slurry.feed (by rw [setLink_eq])

/-- A loop out of STOPPED, TRIPPED and AGITATE has no phase, and nothing else is asked of it. -/
theorem slurryLaw_of_working (phase : t.slurry.phase = .none)
    (works : t.slurry.state ≠ .agitate ∧ t.slurry.state ≠ .stopped ∧ t.slurry.state ≠ .tripped) :
    t.slurryLaw := by
  obtain ⟨agitate, stopped, tripped⟩ := works
  exact ⟨iff_of_true phase agitate, fun rest => (rest.elim stopped tripped).elim⟩

theorem slurryLaw_zeroSlurry {new : SlurryState} (other : new ≠ .agitate) :
    (zeroSlurry new s).slurryLaw := by
  unfold State.slurryLaw
  rw [zeroSlurry_slurry]
  exact ⟨iff_of_true rfl other, fun _ => ⟨rfl, rfl, rfl, rfl, rfl⟩⟩

theorem Interlock.slurryLaw (change : Interlock b s t) (law : s.slurryLaw) : t.slurryLaw := by
  cases change with
  | quiet h => exact slurryLaw_of_core law s.slurry.feed h.slurry
  | loops moves => exact moves.keeps LoopMove.slurryLaw law
  | linked new => exact slurryLaw_setLink new law
  | lost =>
    refine (LoopMoves.stopBoth _).keeps LoopMove.slurryLaw ?_
    exact slurryLaw_of_core (slurryLaw_setLink .lost law) _ rfl
  | regained => exact slurryLaw_setLink .live (slurryLaw_of_core law s.slurry.feed rfl)
  | slurryTripped => exact (LoopMoves.stopBoth _).keeps LoopMove.slurryLaw (slurryLaw_zeroSlurry nofun)
  | slurryStopped => exact slurryLaw_zeroSlurry nofun
  | slurryRun =>
    refine slurryLaw_of_working ?_ ?_ <;> rw [enterSlurryRun_slurry]
    exact ⟨nofun, nofun, nofun⟩
  | agitated phase demand time _ phased =>
    unfold State.slurryLaw
    rw [startAgitation_eq]
    exact ⟨iff_of_false phased (fun other => other rfl), nofun⟩
  | slurryWorked f _ same works =>
    obtain ⟨state, phase, -⟩ := same s.slurry
    obtain ⟨phased, -⟩ := law
    refine ⟨?_, fun rest => ?_⟩
    · show (f s.slurry).phase = .none ↔ (f s.slurry).state ≠ .agitate
      rwa [state, phase]
    · have rest : s.slurry.state = .stopped ∨ s.slurry.state = .tripped := by rwa [← state]
      exact (rest.elim works.1 works.2).elim
  | primed f _ same old =>
    obtain ⟨state, phase, -⟩ := same s.slurry
    obtain ⟨phased, -⟩ := law
    refine slurryLaw_of_working (phase.trans (phased.mpr ?_)) ?_
    · rw [old]; exact nofun
    · show (f s.slurry).state ≠ _ ∧ (f s.slurry).state ≠ _ ∧ (f s.slurry).state ≠ _
      rw [state]
      exact ⟨nofun, nofun, nofun⟩
  | pumpManual =>
    refine slurryLaw_of_working ?_ ?_ <;> rw [enterPumpManual, setOwner_slurry]
    · rfl
    · exact ⟨nofun, nofun, nofun⟩
  | fed => exact slurryLaw_of_core law (formFeed s).slurry.feed rfl
  | steerCleared => exact slurryLaw_of_core law s.slurry.feed (by rw [enterSteeringClear_slurry])
  | classed => exact slurryLaw_of_core law s.slurry.feed (by rw [(evaluateClass_same s).1])
  | written => exact slurryLaw_of_core law s.slurry.feed (by rw [putWord_eq]; rfl)
  | restarted | poweredOn => exact ⟨iff_of_true rfl nofun, fun _ => ⟨rfl, rfl, rfl, rfl, rfl⟩⟩
  | worked | entered | left | steerHeld | steerWorked => exact slurryLaw_of_core law s.slurry.feed rfl

/-! ## Every step -/

/-- A command other than TABLE_WRITE writes no table word. -/
theorem writesTable_eq_false {c : Instr} (other : ∀ dt args, c ≠ .tableWrite dt args) :
    writesTable c = false := by
  cases c with
  | tableWrite dt args => exact absurd rfl (other dt args)
  | _ => rfl

/-- A step that takes no TABLE_WRITE keeps what both integrators hold within ± I_max. -/
theorem step_integBounded (h : step s = .next t)
    (other : ∀ dt args, s.nextCommand ≠ some (.tableWrite dt args)) (law : s.integBounded) :
    t.integBounded := by
  have kept : ∀ {u v}, Interlock false u v → u.integBounded → v.integBounded := integBounded_driveLaw.keeps
  obtain same | ⟨u, c, same, taken, ⟨g, k, level, rfl⟩ | rfl⟩ := step_cases h
  · exact kept (.quiet (.of_sameBlocks same)) law
  · exact kept (.quiet (.onPickup ..)) (kept (.quiet (.of_sameBlocks same)) law)
  · have writes : writesTable c = false := writesTable_eq_false fun dt args here => other dt args (here ▸ taken)
    have changes := interlocks_workOf c u
    rw [writes] at changes
    exact changes.keeps kept (kept (.quiet (.of_sameBlocks same)) law)

/-- Settles O11: every change of state keeps each of the laws; the writing of I_max is kept apart. -/
theorem stepKeepsBlockLaws : Obligations.StepKeepsBlockLaws := by
  intro s t h
  exact ⟨step_keeps_of_interlock (fun change => integratorLaw_driveLaw.keeps change) h,
    step_integBounded h,
    step_keeps_of_interlock (fun change => restingLoopLaw_driveLaw.keeps change) h,
    step_keeps_of_interlock (fun change => change.ownerLaw) h,
    step_keeps_of_interlock (fun change => change.steeringLaw) h,
    step_keeps_of_interlock (fun change => change.slurryLaw) h⟩

end

end Sys2Proof.Machine

/-! SUPPORT. The laws right after power-on reset. -/

namespace Sys2Proof.Machine

/-- The part at reset is the part that a power-on reset with the straps low leaves of itself. -/
theorem reset_eq_powerOn : State.reset = powerOn ⟨0, 0, 0⟩ State.reset := rfl

theorem heldFrames_reset : State.reset.heldFrames = [] := rfl

theorem upperQueueLaw_reset : State.reset.upperQueueLaw :=
  ⟨fun _ => Nat.zero_le 1, Nat.zero_le 1, Nat.zero_le 1, Nat.zero_le 4⟩

theorem ownFrameLaw_reset : State.reset.ownFrameLaw := by
  have queue : ∀ p, State.reset.queueOf p = [] := fun p => PerPort.get_all _ p
  have tx : ∀ p, State.reset.txOf p = none := fun p => PerPort.get_all _ p
  refine ⟨fun l => ?_, fun p e wait => ?_, fun p t sends => ?_, fun p => ?_⟩
  · simp [State.waitingCount, State.demandsSending, State.demandInTransmission, queue, tx]
  · simp [queue] at wait
  · simp [tx] at sends
  · simp [State.forwardedWaiting, queue]

theorem loopStates_reset : State.reset.loopStates = fun _ => .stopped := powerOn_states ⟨0, 0, 0⟩ State.reset

/-- Settles O3: the laws ask nothing of loops in STOPPED, empty queues, an empty latch set and the reset
tables that these do not meet. -/
theorem lawsHoldAtReset : Obligations.LawsHoldAtReset := by
  have idle : ∀ g, (State.reset.loopStates g).cutting = false := fun g => by rw [loopStates_reset]; rfl
  have fresh : ∀ g, ∃ timer, State.reset.loopOf g = .powerOn timer := fun g =>
    ⟨.running driveStartPeriod 0, by cases g <;> rfl⟩
  refine ⟨?_, Nat.zero_le 30, upperQueueLaw_reset, ownFrameLaw_reset, ?_, ?_, rfl, feedLaw_of_zero rfl,
    runningLaw_of_idle fun g => by rw [loopStates_reset]; rfl, (heldLaw_iff _).mpr (.of_idle idle),
    (integratorLaw_driveLaw (b := true)).fresh _ fresh, (restingLoopLaw_driveLaw (b := true)).fresh _ fresh,
    ownerLaw_fresh (fun ch => ?_) loopStates_reset rfl rfl, ⟨fun _ => ⟨rfl, rfl, rfl⟩, fun _ => rfl⟩,
    ⟨iff_of_true rfl nofun, fun _ => ⟨rfl, rfl, rfl, rfl, rfl⟩⟩, ?_, ?_,
    reset_eq_powerOn ▸ tableLaw_powerOn ⟨0, 0, 0⟩ State.reset, ?_⟩
  · rw [State.poolLaw, heldFrames_reset]
    exact .of_eq (List.append_nil _)
  · exact iff_of_false (fun some => some rfl) nofun
  · exact iff_of_false nofun nofun
  · obtain g | p | _ := ch
    · cases g <;> rfl
    · cases p <;> rfl
    · rfl
  · refine State.reset.pickupLaw_iff.mpr fun g => ?_
    cases g <;> exact .powerOn false false
  · exact ⟨.nil, nofun, fun open_ => absurd rfl open_, by decide, by decide⟩
  · exact ⟨by decide, by decide⟩

end Sys2Proof.Machine

/-! SUPPORT. SPEED and CLASS (R26, R56). -/

namespace Sys2Proof.Machine

/-- Settles O26: each is taken with its one argument, and its act clamps that argument. -/
theorem speedAndClassOrders : Obligations.SpeedAndClassOrders := by
  rintro dt w s u orders rfl
  exact ⟨arrival_taken (code := 4) orders rfl, arrival_taken (code := 5) orders rfl⟩

end Sys2Proof.Machine

/-! SUPPORT. Raw changes, accepted edges and the zero window (R7 to R12, R16). -/

namespace Sys2Proof.Machine

section
variable {dt : Nat} {g : Gear} {k : Track} {s : State}

theorem onPickup_congr {f h : Pickup → Pickup} (same : f (s.pickupOf g) = h (s.pickupOf g)) :
    s.onPickup g f = s.onPickup g h := by
  unfold State.onPickup
  rw [same]

theorem onPickup_of_eq {f : Pickup → Pickup} (same : f (s.pickupOf g) = s.pickupOf g) :
    s.onPickup g f = s := by
  refine (onPickup_congr (h := id) same).trans ?_
  cases g <;> rfl

theorem Pickup.onTrack_onTrack (k : Track) (f h : TrackState → TrackState) (p : Pickup) :
    (p.onTrack k f).onTrack k h = p.onTrack k (h ∘ f) := by cases k <;> rfl

@[simp] theorem Pickup.track_onTrack (k : Track) (f : TrackState → TrackState) (p : Pickup) :
    (p.onTrack k f).track k = f (p.track k) := by cases k <;> rfl

/-! ## Raw changes (R7) -/

theorem exec_rawChange {level : Bool} (running : s.inReset = false) :
    exec (.pickupRawChange dt g k level) s =
      .next ((s.elapse dt).onPickup g ((s.elapse dt).rawChange k level)) := exec_running _ running

theorem rawChange_same {level : Bool} {p : Pickup} (same : level = (p.track k).raw) :
    s.rawChange k level p = p := if_pos same

theorem rawChange_return {level : Bool} {p : Pickup} (moved : level ≠ (p.track k).raw)
    (back : level = (p.track k).accepted) :
    s.rawChange k level p = p.onTrack k fun x => { x with raw := level, filter := .idle } := by
  rw [State.rawChange, if_neg moved, if_pos back]

theorem rawChange_departure {level : Bool} {p : Pickup} (moved : level ≠ (p.track k).raw)
    (away : level ≠ (p.track k).accepted) (wide : s.setting .filterWidth ≠ 0) :
    s.rawChange k level p = p.onTrack k fun x =>
      { x with raw := level, filter := s.startTimer (s.setting .filterWidth).toNat } := by
  rw [State.rawChange, if_neg moved, if_neg away, if_neg wide]

theorem rawChange_unfiltered {level : Bool} {p : Pickup} (moved : level ≠ (p.track k).raw)
    (away : level ≠ (p.track k).accepted) (none : s.setting .filterWidth = 0) :
    s.rawChange k level p = s.acceptLevel k level p := by
  rw [State.rawChange, if_neg moved, if_neg away, if_pos none]

/-! ## Expiries -/

theorem exec_filter_early (running : s.inReset = false)
    (early : ((s.pickupOf g).track k).filter.due (s.now + dt) = false) :
    exec (.filterTimerExpiry dt g k) s = .next (s.elapse dt) :=
  (exec_running _ running).trans (congrArg _ (expiry_early early))

theorem exec_filter_due (running : s.inReset = false)
    (due : ((s.pickupOf g).track k).filter.due (s.now + dt) = true) :
    exec (.filterTimerExpiry dt g k) s =
      .next ((s.elapse dt).onPickup g ((s.elapse dt).filterExpired k)) :=
  (exec_running _ running).trans (congrArg _ (expiry_due due))

theorem exec_zeroWindow_early (running : s.inReset = false)
    (early : (s.pickupOf g).zeroWindow.due (s.now + dt) = false) :
    exec (.zeroWindowExpiry dt g) s = .next (s.elapse dt) :=
  (exec_running _ running).trans (congrArg _ (expiry_early early))

theorem exec_zeroWindow_due (running : s.inReset = false)
    (due : (s.pickupOf g).zeroWindow.due (s.now + dt) = true) :
    exec (.zeroWindowExpiry dt g) s = .next ((s.elapse dt).onPickup g Pickup.zeroExpired) :=
  (exec_running _ running).trans (congrArg _ (expiry_due due))

theorem filterExpired_back {p : Pickup} (back : (p.track k).raw = (p.track k).accepted) :
    s.filterExpired k p = p.onTrack k fun x => { x with filter := .idle } := if_pos back

theorem filterExpired_accepts {p : Pickup} (away : (p.track k).raw ≠ (p.track k).accepted) :
    s.filterExpired k p = s.acceptLevel k (p.track k).raw p := if_neg away

/-- The level is taken as it is, whatever the track held. -/
theorem acceptLevel_onTrack (level : Bool) (f : TrackState → TrackState) (p : Pickup) :
    s.acceptLevel k level (p.onTrack k f) = s.acceptLevel k level p := by
  unfold State.acceptLevel
  rw [Pickup.onTrack_onTrack]
  rfl

/-- With a width of 0 a departure is taken as at the expiry of a filter (R7). -/
theorem exec_rawChange_unfiltered {level : Bool} (running : s.inReset = false)
    (moved : level ≠ ((s.pickupOf g).track k).raw) (away : level ≠ ((s.pickupOf g).track k).accepted)
    (none : s.setting .filterWidth = 0) :
    exec (.pickupRawChange dt g k level) s =
      exec (.filterTimerExpiry 0 g k) ((s.elapse dt).onPickup g fun p =>
        p.onTrack k fun x => { x with raw := level, filter := .running 0 (s.now + dt) }) := by
  have twice : ∀ (u : State) (f h : Pickup → Pickup), (u.onPickup g f).onPickup g h = u.onPickup g (h ∘ f) := by
    intro u f h
    cases g <;> rfl
  rw [exec_rawChange running, exec_filter_due (by simpa using running) (by simp [Timer.due]),
    State.elapse_zero, twice]
  refine congrArg Host.Outcome.next (onPickup_congr ?_)
  refine (rawChange_unfiltered (s := s.elapse dt) (p := s.pickupOf g) moved away none).trans ?_
  rw [Function.comp, filterExpired_accepts (by simpa using away), Pickup.track_onTrack, acceptLevel_onTrack]
  rfl

/-- The edge that is accepted at the expiry of a filter. -/
theorem exec_filter_accepts (running : s.inReset = false)
    (due : ((s.pickupOf g).track k).filter.due (s.now + dt) = true)
    (away : ((s.pickupOf g).track k).raw ≠ ((s.pickupOf g).track k).accepted) :
    exec (.filterTimerExpiry dt g k) s = .next ((s.elapse dt).onPickup g
      ((s.elapse dt).acceptLevel k ((s.pickupOf g).track k).raw)) :=
  (exec_filter_due running due).trans (congrArg _ (onPickup_congr (filterExpired_accepts away)))

/-- Settles O15: each clause is one branch of a raw change, of a filter's expiry or of the zero window's. -/
theorem pickupInputsAndTimers : Obligations.PickupInputsAndTimers := by
  refine ⟨fun dt g k level s running => ⟨fun same => ?_, fun moved => ⟨fun back => ?_, fun away wide => ?_,
    exec_rawChange_unfiltered running moved⟩⟩, fun dt g s running =>
      ⟨fun k => exec_filter_early running, fun k due back => ?_, fun due away => ?_,
        fun due => ⟨fun low high first => ?_, fun high low first => ?_, fun r high low ref => ?_⟩,
        exec_zeroWindow_early running, exec_zeroWindow_due running⟩⟩
  · exact (exec_rawChange running).trans (congrArg _ (onPickup_of_eq (rawChange_same same)))
  · exact (exec_rawChange running).trans (congrArg _ (onPickup_congr (rawChange_return moved back)))
  · exact (exec_rawChange running).trans (congrArg _ (onPickup_congr (rawChange_departure moved away wide)))
  · exact (exec_filter_due running due).trans (congrArg _ (onPickup_congr (filterExpired_back back)))
  · exact (exec_filter_accepts (k := .b) running due away).trans (congrArg _ (onPickup_congr rfl))
  · have away : (s.pickupOf g).a.raw ≠ (s.pickupOf g).a.accepted := by simp [low, high]
    refine (exec_filter_accepts (k := .a) running due away).trans (congrArg _ (onPickup_congr ?_))
    simp [State.acceptLevel, State.acceptedEdge, Pickup.track, Pickup.onTrack, high, first, State.timeFrom]
    rfl
  · have away : (s.pickupOf g).a.raw ≠ (s.pickupOf g).a.accepted := by simp [low, high]
    refine (exec_filter_accepts (k := .a) running due away).trans (congrArg _ (onPickup_congr ?_))
    simp [State.acceptLevel, State.acceptedEdge, Pickup.track, Pickup.onTrack, low, first]
  · have away : (s.pickupOf g).a.raw ≠ (s.pickupOf g).a.accepted := by simp [low, high]
    refine (exec_filter_accepts (k := .a) running due away).trans (congrArg _ (onPickup_congr ?_))
    simp [State.acceptLevel, State.acceptedEdge, Pickup.track, Pickup.onTrack, low, ref, State.elapsedSince,
      counterStop]

end

end Sys2Proof.Machine

/-! SUPPORT. A captured period and the health of its pickup (R10, R17, R18), and the measured speed (R13 to
R15). -/

namespace Sys2Proof.Machine

section
variable {dt : Nat} {g : Gear} {s : State}

/-! ## The health (R17, R18) -/

/-- The health and the runs alone change with a classed period. -/
theorem healthAfter_eq (bad : Bool) (p : Pickup) : healthAfter bad p = { p with
    health := (healthAfter bad p).health
    badRun := (healthAfter bad p).badRun
    goodRun := (healthAfter bad p).goodRun } := by
  unfold healthAfter
  split <;> (try split) <;> rfl

/-- What a classed period does to the health and to the runs, case by case. -/
theorem healthAfter_table (bad : Bool) (p : Pickup) :
    (p.health = .ok → bad = true → 4 ≤ p.badRun + 1 →
      (healthAfter bad p).health = .fault ∧ (healthAfter bad p).badRun = 0 ∧
        (healthAfter bad p).goodRun = 0) ∧
    (p.health = .ok → bad = true → p.badRun + 1 < 4 →
      (healthAfter bad p).health = .ok ∧ (healthAfter bad p).badRun = p.badRun + 1 ∧
        (healthAfter bad p).goodRun = p.goodRun) ∧
    (p.health = .ok → bad = false →
      (healthAfter bad p).health = .ok ∧ (healthAfter bad p).badRun = 0 ∧
        (healthAfter bad p).goodRun = p.goodRun) ∧
    (p.health = .fault → bad = false → 16 ≤ p.goodRun + 1 →
      (healthAfter bad p).health = .ok ∧ (healthAfter bad p).badRun = 0 ∧
        (healthAfter bad p).goodRun = 0) ∧
    (p.health = .fault → bad = false → p.goodRun + 1 < 16 →
      (healthAfter bad p).health = .fault ∧ (healthAfter bad p).badRun = p.badRun ∧
        (healthAfter bad p).goodRun = p.goodRun + 1) ∧
    (p.health = .fault → bad = true →
      (healthAfter bad p).health = .fault ∧ (healthAfter bad p).badRun = p.badRun ∧
        (healthAfter bad p).goodRun = 0) := by
  unfold healthAfter
  refine ⟨fun ok out limit => ?_, fun ok out short => ?_, fun ok out => ?_, fun fault out limit => ?_,
    fun fault out short => ?_, fun fault out => ?_⟩
  · rw [ok, out]; simp [limit]
  · rw [ok, out]; simp [Nat.not_le.mpr short]
  · rw [ok, out]; simp
  · rw [fault, out]; simp [limit]
  · rw [fault, out]; simp [Nat.not_le.mpr short]
  · rw [fault, out]; simp

/-! ## The capture (R10) -/

/-- A pickup with the period since `ref` and its direction entered. -/
def State.entered (s : State) (ref : Nat) (p : Pickup) : Pickup :=
  let direction : Direction := if p.b.accepted then .reverse else .forward
  { p with
    history := (max 1 (s.elapsedSince ref) :: (if direction = p.direction then p.history else [])).take 8
    direction := direction }

theorem capture_eq (ref : Nat) (p : Pickup) :
    s.capture ref p = s.timeFrom (healthAfter (periodBad p.high (max 1 (s.elapsedSince ref)) p.bEdge
      (s.averageOf (s.entered ref p))) (s.entered ref p)) := rfl

/-- R17, limit by limit. -/
theorem periodBad_some {high period : Nat} {bEdge : Bool} {average : Int} :
    periodBad (some high) period bEdge average = true ↔
      roundDiv (1000 * high) period < 200 ∨ 800 < roundDiv (1000 * high) period ∨
        (bEdge = false ∧ 50 < average) := by
  simp [periodBad]

/-- Settles O16: the capture enters the period, classes it and times from the edge. -/
theorem risingEdgeCapturesPeriod : Obligations.RisingEdgeCapturesPeriod := by
  intro dt g s r running due low high ref
  have away : (s.pickupOf g).a.raw ≠ (s.pickupOf g).a.accepted := by simp [low, high]
  let p : Pickup := { s.pickupOf g with a := { raw := true, accepted := true, filter := .idle } }
  have captured : (s.elapse dt).acceptLevel .a (s.pickupOf g).a.raw (s.pickupOf g) =
      (s.elapse dt).capture r p := by
    simp [State.acceptLevel, State.acceptedEdge, Pickup.onTrack, high, ref, p]
  refine ⟨(s.elapse dt).capture r p, (exec_filter_accepts (k := .a) running due away).trans
    (congrArg _ (onPickup_congr captured)), ?_⟩
  rw [capture_eq, healthAfter_eq]
  refine ⟨rfl, rfl, rfl, rfl, rfl, rfl, rfl, rfl, fun h bad some classed => ?_⟩
  have same : periodBad p.high (max 1 ((s.elapse dt).elapsedSince r)) p.bEdge
      ((s.elapse dt).averageOf ((s.elapse dt).entered r p)) = bad := by
    rw [Bool.eq_iff_iff, classed, show p.high = Option.some h from some, periodBad_some]
    rfl
  rw [same]
  exact healthAfter_table bad ((s.elapse dt).entered r p)

/-! ## The measured speed -/

theorem roundDiv_nonneg_of_nonneg {a b : Int} (ha : 0 ≤ a) (hb : 0 ≤ b) : 0 ≤ roundDiv a b :=
  Int.ediv_nonneg (by omega) (by omega)

theorem averageMagnitude_mem (teeth k : Nat) (history : List Nat) :
    0 ≤ averageMagnitude teeth k history ∧ averageMagnitude teeth k history ≤ 4000 := by
  unfold averageMagnitude
  dsimp only
  split
  · omega
  · exact ⟨le_min (by omega) (roundDiv_nonneg_of_nonneg (by positivity) (by positivity)), min_le_left ..⟩

/-- Over the newest periods the average takes the ones there are. -/
theorem averageMagnitude_cons {teeth k n newest : Nat} {older : List Nat}
    (taken : n = min k (older.length + 1)) (some : 0 < n) :
    averageMagnitude teeth k (newest :: older) =
      min 4000 (roundDiv (6000000000 * n) (teeth * ((newest :: older).take n).sum)) := by
  have same : (newest :: older).take k = (newest :: older).take n := by
    rw [List.take_eq_take_iff, List.length_cons]
    omega
  have length : ((newest :: older).take n).length = n := by
    rw [List.length_take, List.length_cons]
    omega
  have filled : (newest :: older).take n ≠ [] := fun empty => by
    rw [empty, List.length_nil] at length
    omega
  unfold averageMagnitude
  simp only [same, if_neg filled, length]

theorem mag_apply (d : Direction) {x : Int} (h : 0 ≤ x) : mag (d.apply x) = x := by
  unfold mag
  cases d
  · exact if_neg (not_lt.mpr h)
  · simp only [Direction.apply]
    split_ifs <;> omega

theorem measuredSpeed_zero (h : (s.pickupOf g).history = [] ∨ (s.pickupOf g).ref = none) :
    s.measuredSpeed g = 0 := by
  unfold State.measuredSpeed
  obtain none | none := h
  · simp [none]
  · simp only [none]
    split
    next absent => cases absent
    next => rfl

theorem measuredSpeed_cons {newest r : Nat} {older : List Nat}
    (history : (s.pickupOf g).history = newest :: older) (ref : (s.pickupOf g).ref = some r) :
    s.measuredSpeed g = (s.pickupOf g).direction.apply
      (if s.elapsedSince r ≤ newest then s.averageOf (s.pickupOf g)
        else min (s.averageOf (s.pickupOf g)) (roundDiv 6000000000 (s.toothCount * s.elapsedSince r))) := by
  simp only [State.measuredSpeed, history, ref]

theorem mag_measuredSpeed_le (s : State) (g : Gear) : mag (s.measuredSpeed g) ≤ 4000 := by
  by_cases none : (s.pickupOf g).history = [] ∨ (s.pickupOf g).ref = none
  · rw [measuredSpeed_zero none]
    decide
  obtain ⟨filled, timed⟩ := not_or.mp none
  obtain ⟨newest, older, history⟩ := List.exists_cons_of_ne_nil filled
  obtain ⟨r, ref⟩ := Option.ne_none_iff_exists'.mp timed
  obtain ⟨nonneg, bound⟩ := averageMagnitude_mem s.toothCount (s.setting .averaging).toNat (s.pickupOf g).history
  rw [measuredSpeed_cons history ref]
  split
  · rw [State.averageOf, mag_apply _ nonneg]
    exact bound
  · rw [State.averageOf, mag_apply _ (le_min nonneg (roundDiv_nonneg_of_nonneg (by omega) (by positivity)))]
    exact (min_le_left ..).trans bound

/-- Settles O17: the two ways in which the speed is 0, the average with the bound by the elapsed time, and
the bound that both keep. -/
theorem measuredSpeedIsBounded : Obligations.MeasuredSpeedIsBounded := by
  refine fun s g => ⟨measuredSpeed_zero, ?_, mag_measuredSpeed_le s g⟩
  rintro newest older r n total e average history ref taken some rfl rfl rfl
  have averaged : s.averageOf (s.pickupOf g) = _ :=
    (congrArg (averageMagnitude _ _) history).trans (averageMagnitude_cons taken some)
  rw [measuredSpeed_cons history ref, averaged]
  exact ⟨fun early => congrArg _ (if_pos early), fun late => congrArg _ (if_neg (Nat.not_le.mpr late))⟩

end

end Sys2Proof.Machine

/-! SUPPORT. The bounds of the torque factor, of the ramp and of the PI stage (R38, R39, R41). -/

namespace Sys2Proof.Machine

/-! ## The torque factor (R38) -/

section
variable {pLim pMax fMin p : Int}

theorem torqueFactor_of_le (h : p ≤ pLim) : torqueFactor pLim pMax fMin p = 1024 := if_pos h

theorem torqueFactor_mem (h : fMin ≤ 1024) :
    fMin ≤ torqueFactor pLim pMax fMin p ∧ torqueFactor pLim pMax fMin p ≤ 1024 := by
  unfold torqueFactor
  split
  · exact ⟨h, le_rfl⟩
  · exact clamp_mem _ h

/-- From P_max on nothing is left of the factor but its lower bound. -/
theorem torqueFactor_of_ge (range : pLim < pMax) (beyond : pMax ≤ p) (nonneg : 0 ≤ fMin)
    (h : fMin ≤ 1024) : torqueFactor pLim pMax fMin p = fMin := by
  have whole : 1024 ≤ roundDiv (1024 * (p - pLim)) (pMax - pLim) :=
    le_roundDiv (by omega) (by omega)
  have above : ¬ p ≤ pLim := by omega
  rw [torqueFactor, if_neg above]
  unfold clamp
  split_ifs <;> omega

end

/-! ## The ramp (R39) -/

section
variable {step current target : Int}

theorem rampToward_within (h : mag (target - current) ≤ step) : rampToward step current target = target :=
  if_pos h

/-- A rising ramp. -/
theorem rampToward_up (h : 0 ≤ step) (up : current ≤ target) :
    current ≤ rampToward step current target ∧ rampToward step current target ≤ target ∧
      rampToward step current target - current ≤ step := by
  unfold rampToward mag signOf
  split_ifs <;> omega

/-- A falling ramp. -/
theorem rampToward_down (h : 0 ≤ step) (down : target ≤ current) :
    target ≤ rampToward step current target ∧ rampToward step current target ≤ current ∧
      current - rampToward step current target ≤ step := by
  unfold rampToward mag signOf
  split_ifs <;> omega

theorem mag_rampToward_sub_le (h : 0 ≤ step) : mag (rampToward step current target - current) ≤ step := by
  unfold mag
  obtain up | down := le_total current target
  · have := rampToward_up h up
    split_ifs <;> omega
  · have := rampToward_down h down
    split_ifs <;> omega

end

/-! ## The PI stage (R41) -/

section
variable {kp ki iMax integ ff e : Int}

theorem piStage_integ_cases (kp ki iMax integ ff e : Int) :
    (piStage kp ki iMax integ ff e).integ = clampMag iMax (integ + roundDiv (ki * e) 256) ∨
      ((piStage kp ki iMax integ ff e).integ = integ ∧ (piStage kp ki iMax integ ff e).sat = true) := by
  unfold piStage
  dsimp only
  split
  next kept => exact .inr ⟨rfl, kept.1⟩
  next => exact .inl rfl

/-- Without saturation the opening is the raw sum. -/
theorem piStage_of_not_sat (free : (piStage kp ki iMax integ ff e).sat = false) :
    (piStage kp ki iMax integ ff e).integ = clampMag iMax (integ + roundDiv (ki * e) 256) ∧
      (piStage kp ki iMax integ ff e).opening =
        ff + roundDiv (kp * e) 256 + clampMag iMax (integ + roundDiv (ki * e) 256) := by
  have within : ¬ (ff + roundDiv (kp * e) 256 + clampMag iMax (integ + roundDiv (ki * e) 256) < -1000 ∨
      1000 < ff + roundDiv (kp * e) 256 + clampMag iMax (integ + roundDiv (ki * e) 256)) :=
    of_decide_eq_false free
  refine ⟨(piStage_integ_cases ..).resolve_right fun kept => ?_, clamp_of_mem ?_ ?_⟩
  · rw [free] at kept
    cases kept.2
  all_goals omega

/-- At its upper end a positive error does not drive the integrator further. -/
theorem piStage_held_at_top (drives : 0 < e) (sat : (piStage kp ki iMax integ ff e).sat = true)
    (top : (piStage kp ki iMax integ ff e).opening = 1000) : (piStage kp ki iMax integ ff e).integ = integ := by
  have out : ff + roundDiv (kp * e) 256 + clampMag iMax (integ + roundDiv (ki * e) 256) < -1000 ∨
      1000 < ff + roundDiv (kp * e) 256 + clampMag iMax (integ + roundDiv (ki * e) 256) :=
    of_decide_eq_true sat
  have top : clampMag 1000 (ff + roundDiv (kp * e) 256 + clampMag iMax (integ + roundDiv (ki * e) 256)) =
    1000 := top
  have above : 1000 < ff + roundDiv (kp * e) 256 + clampMag iMax (integ + roundDiv (ki * e) 256) := by
    refine out.resolve_left fun below => ?_
    have bottom : clampMag 1000 (ff + roundDiv (kp * e) 256 + clampMag iMax (integ + roundDiv (ki * e) 256)) =
      -1000 := if_pos below
    omega
  unfold piStage
  dsimp only
  rw [if_pos]
  refine ⟨decide_eq_true out, by omega, ?_⟩
  unfold signOf
  rw [if_pos drives, if_pos (by omega)]

end

/-- Settles O22: the bounds of each stage, from the branches of its definition. -/
theorem driveStagesAreBounded : Obligations.DriveStagesAreBounded := by
  refine ⟨fun pLim pMax fMin p range bound => ?torque, fun step current target nonneg => ?ramp,
    fun kp ki iMax integ ff e nonneg => ?any, fun kp ki iMax integ ff e nonneg bounded => ?pi⟩
  case torque =>
    obtain ⟨low, high⟩ := torqueFactor_mem (pLim := pLim) (pMax := pMax) (p := p) bound
    exact ⟨low, high, torqueFactor_of_le, fun beyond nonneg => torqueFactor_of_ge range beyond nonneg bound⟩
  case ramp =>
    refine ⟨mag_rampToward_sub_le nonneg, rampToward_within, fun up => ?_, fun down => ?_⟩
    · obtain ⟨rises, bounded, -⟩ := rampToward_up nonneg up
      exact ⟨rises, bounded⟩
    · obtain ⟨bounded, falls, -⟩ := rampToward_down nonneg down
      exact ⟨bounded, falls⟩
  case any =>
    refine (piStage_integ_cases kp ki iMax integ ff e).imp (fun moved => ?_) id
    rw [moved]
    exact mag_clampMag _ nonneg
  case pi =>
    refine ⟨?_, mag_clampMag _ (by decide), piStage_of_not_sat, piStage_held_at_top⟩
    obtain moved | ⟨kept, -⟩ := piStage_integ_cases kp ki iMax integ ff e
    · rw [moved]
      exact mag_clampMag _ nonneg
    · rw [kept]
      exact bounded

end Sys2Proof.Machine

/-! SUPPORT. A drive update up to its tests: the timer, the class, the loops at rest and the release of ARMED
(R21, R22, R24, R57). -/

namespace Sys2Proof.Machine

section
variable {dt : Nat} {g : Gear} {s : State}

/-! ## The class (R57) -/

theorem bandContains_iff {table : List Word} {depth e : Nat} :
    bandContains table depth e = true ↔ bandWord table e 2 ≤ 7 ∧ bandWord table e 0 * 100 ≤ depth ∧
      depth < bandWord table e 1 * 100 := by
  simp [bandContains, bandValid, and_assoc]

theorem evaluatedClass_stale (h : s.survey.fresh = false ∨ s.survey.received = false) :
    s.evaluatedClass = s.selector.operatorClass := if_pos h

theorem evaluatedClass_fresh (fresh : s.survey.fresh = true) (received : s.survey.received = true) :
    s.evaluatedClass =
      match (List.range 16).find? (bandContains s.selector.bandTable s.survey.depth) with
      | some entry => bandWord s.selector.bandTable entry 2
      | none => s.selector.operatorClass :=
  if_neg (by simp [fresh, received])

/-- Without a band around it a fresh depth leaves the operator class. -/
theorem evaluatedClass_outside (fresh : s.survey.fresh = true) (received : s.survey.received = true)
    (outside : ∀ e < 16, bandContains s.selector.bandTable s.survey.depth e = false) :
    s.evaluatedClass = s.selector.operatorClass := by
  rw [evaluatedClass_fresh fresh received, List.find?_eq_none.mpr fun e he => by
    simp [outside e (List.mem_range.mp he)]]

/-- The first valid band around a fresh depth names the class. -/
theorem evaluatedClass_inside (fresh : s.survey.fresh = true) (received : s.survey.received = true)
    {e : Nat} (he : e < 16) (inside : bandContains s.selector.bandTable s.survey.depth e = true)
    (first : ∀ d < e, bandContains s.selector.bandTable s.survey.depth d = false) :
    s.evaluatedClass = bandWord s.selector.bandTable e 2 := by
  have found : (List.range 16).find? (bandContains s.selector.bandTable s.survey.depth) = some e := by
    rw [List.find?_range_eq_some]
    exact ⟨inside, List.mem_range.mpr he, fun d hd => by simp [first d hd]⟩
  rw [evaluatedClass_fresh fresh received, found]

/-! ## The start of an update (R21, R22) -/

/-- R21, R22: the timer of the loop is restarted and the class evaluated. -/
def driveRead (g : Gear) (s : State) : State :=
  evaluateClass (s.onLoop g fun l => { l with timer := s.startMs .drivePeriod })

theorem exec_driveUpdate_early (running : s.inReset = false)
    (early : (s.loopOf g).timer.due (s.now + dt) = false) :
    exec (.driveUpdate dt g) s = .next (s.elapse dt) :=
  (exec_running _ running).trans (congrArg _ (expiry_early early))

theorem exec_driveUpdate_due (running : s.inReset = false)
    (due : (s.loopOf g).timer.due (s.now + dt) = true) :
    exec (.driveUpdate dt g) s = .next (driveUpdate g (s.elapse dt)) :=
  (exec_running _ running).trans (congrArg _ (expiry_due due))

theorem evaluateClass_same_class (same : s.evaluatedClass = s.selector.classInEffect) :
    evaluateClass s = s := if_pos same

theorem evaluateClass_other_class (other : s.evaluatedClass ≠ s.selector.classInEffect) :
    evaluateClass s = clampIntegrators (s.onSelector fun x => { x with classInEffect := s.evaluatedClass }) :=
  if_neg other

/-- A class that changes is put in effect, and its I_max bounds both integrators. -/
theorem evaluateClass_eq_clamped {u : State} (other : u.evaluatedClass ≠ u.selector.classInEffect) :
    evaluateClass u =
      ((u.onSelector fun x => { x with classInEffect := u.evaluatedClass }).onLoop .g1 fun l =>
        { l with integ := clampMag (classWord u.selector.classTable u.evaluatedClass 5) l.integ }).onLoop .g2
        fun l =>
        { l with integ := clampMag (classWord u.selector.classTable u.evaluatedClass 5) l.integ } :=
  evaluateClass_other_class other

theorem driveRead_state (g h : Gear) (s : State) : ((driveRead g s).loopOf h).state = (s.loopOf h).state := by
  rw [driveRead, (evaluateClass_loopOf _ h).1, State.loopOf_onLoop]
  split
  next here => rw [here]
  next => rfl

/-- A drive update's start moves the loops and the class alone. -/
theorem driveRead_eq (g : Gear) (s : State) : driveRead g s =
    { s with drive := (driveRead g s).drive, selector := (driveRead g s).selector } := by
  unfold driveRead evaluateClass
  split <;> rfl

theorem driveRead_slurry (g : Gear) (s : State) : (driveRead g s).slurry = s.slurry := by rw [driveRead_eq]

theorem driveRead_orders (g : Gear) (s : State) : (driveRead g s).orders = s.orders := by rw [driveRead_eq]

theorem driveRead_heldCause (g h : Gear) (s : State) : (driveRead g s).heldCause h = s.heldCause h := by
  unfold State.heldCause
  rw [driveRead_state, driveRead_orders]

theorem driveUpdate_eq (g : Gear) (s : State) : driveUpdate g s =
    match (s.loopOf g).state with
    | .stopped | .manual | .tripped => driveRead g s
    | .armed => releaseTest g (driveRead g s)
    | .run | .held | .unjam | .opened | .stopping => computingUpdate g (driveRead g s) := by
  rw [← driveRead_state g g s]
  rfl

theorem driveUpdate_computing (computing : (s.loopOf g).state.computing = true) :
    driveUpdate g s = computingUpdate g (driveRead g s) := by
  rw [driveUpdate_eq]
  revert computing
  cases (s.loopOf g).state <;> simp [LoopState.computing]

/-! ## ARMED (R24) -/

/-- From ARMED a loop comes to run from rest, and the feed limit is formed. -/
theorem enterLoop_of_armed {new : LoopState} (armed : (s.loopOf g).state = .armed)
    (run : new = .run ∨ new = .held) :
    enterLoop g new s = formFeed (s.onLoop g fun l =>
      { l with state := new, ramped := 0, integ := 0, stallCount := 0 }) := by
  have entry : loopEntry s new (s.loopOf g) =
      { s.loopOf g with state := new, ramped := 0, integ := 0, stallCount := 0 } := by
    obtain rfl | rfl := run <;> simp [loopEntry, armed]
  rw [enterLoop_plain]
  · unfold State.onLoop
    rw [entry]
  · obtain rfl | rfl := run <;> simp [armed]
  · simp [armed]
  · intro t
    obtain rfl | rfl := run <;> rfl
  · obtain rfl | rfl := run <;> decide

/-- Settles O18: the timer and the class, the states at rest and each outcome of the release test. -/
theorem driveUpdateAtRest : Obligations.DriveUpdateAtRest := by
  refine ⟨fun dt g s => exec_driveUpdate_early, ?_, fun s => ⟨evaluatedClass_stale, evaluatedClass_outside,
    fun e he fresh received valid low high first => evaluatedClass_inside fresh received he
      (bandContains_iff.mpr ⟨valid, low, high⟩) first⟩⟩
  rintro dt g s u v w running due rfl rfl same other
  have read : w = driveRead g (s.elapse dt) := by
    by_cases class_ : s.evaluatedClass = s.selector.classInEffect
    · exact (same class_).trans (evaluateClass_same_class (s := State.onLoop g _ (s.elapse dt)) class_).symm
    · exact (other class_ _ rfl).trans
        (evaluateClass_eq_clamped (u := State.onLoop g _ (s.elapse dt)) class_).symm
  clear same other
  subst read
  have worked := (exec_driveUpdate_due running due).trans (congrArg _ (driveUpdate_eq g (s.elapse dt)))
  have flow := driveRead_slurry g (s.elapse dt)
  have link := driveRead_orders g (s.elapse dt)
  refine ⟨fun rest => ?_, fun armed => ?_⟩
  · simp only [List.mem_cons, List.not_mem_nil, or_false] at rest
    obtain rest | rest | rest := rest <;> simpa only [State.elapse_loopOf, rest] using worked
  replace worked : exec (.driveUpdate dt g) s = .next (releaseTest g (driveRead g (s.elapse dt))) := by
    simpa only [State.elapse_loopOf, armed] using worked
  have entered : ∀ new, new = .run ∨ new = .held → enterLoop g new (driveRead g (s.elapse dt)) = _ :=
    fun new => enterLoop_of_armed ((driveRead_state g g (s.elapse dt)).trans armed)
  refine ⟨fun run manual => ?_, fun flows new x => ?_⟩
  · rw [worked, releaseTest, if_pos]
    exact ⟨by rwa [flow], by rwa [flow]⟩
  rintro rfl
  have flows : ¬ ((driveRead g (s.elapse dt)).slurry.state ≠ .run ∧
      (driveRead g (s.elapse dt)).slurry.state ≠ .manual) := by
    rw [flow]
    exact fun none => flows.elim none.1 none.2
  have cause : (driveRead g (s.elapse dt)).heldCause g = true ↔ _ :=
    (driveRead_heldCause g g (s.elapse dt)) ▸ heldCause_iff (s.elapse dt) g
  rw [worked, releaseTest, if_neg flows, link]
  refine ⟨fun held here => ?_, fun free link here => ?_, fun free lost => ?_⟩
  · rw [if_pos (cause.mpr held), entered .held (.inr rfl), here]
    rfl
  · have none : ¬ (driveRead g (s.elapse dt)).heldCause g = true := fun held => by
      obtain unjam | warn := cause.mp held
      · exact free unjam
      · obtain live | dormant := link
        · cases live.symm.trans warn
        · cases dormant.symm.trans warn
    have here_link : (s.elapse dt).orders.link ≠ .lost := by
      rw [State.elapse_orders]
      obtain live | dormant := link
      · rw [live]; exact nofun
      · rw [dormant]; exact nofun
    rw [if_neg none, if_neg here_link, entered .run (.inl rfl), here]
    rfl
  · have none : ¬ (driveRead g (s.elapse dt)).heldCause g = true := fun held => by
      obtain unjam | warn := cause.mp held
      · exact free unjam
      · cases lost.symm.trans warn
    rw [if_neg none, if_pos (by exact lost)]

end

end Sys2Proof.Machine

/-! SUPPORT. The stages of a drive update and what an update comes to in each computing state (R22, R27 to
R29, R36 to R42). -/

namespace Sys2Proof.Machine

section
variable {dt : Nat} {g : Gear} {s : State} {inp : DriveInputs}

/-! ## Entries of a loop, exactly -/

theorem feedLimit_of_not_run (h : (s.loopOf g).state ≠ .run) : s.feedLimit = 0 := by
  unfold State.feedLimit
  rw [if_neg]
  rintro ⟨run, -⟩
  exact h (bothLoops_iff.mp run g)

theorem onLoop_congr {f h : DriveLoop → DriveLoop} (same : f (s.loopOf g) = h (s.loopOf g)) :
    s.onLoop g f = s.onLoop g h := by
  unfold State.onLoop
  rw [same]

/-- OPEN from RUN or HELD (R28). -/
theorem enterLoop_opened (work : (s.loopOf g).state = .run ∨ (s.loopOf g).state = .held) :
    enterLoop g .opened s = formFeed (s.onLoop g fun l =>
      { l with state := .opened, integ := 0, stallCount := 0, sat := false }) := by
  refine enterLoop_plain ?_ ?_ (fun _ => rfl) nofun <;> obtain h | h := work <;> rw [h] <;> exact nofun

/-- RUN or HELD from OPEN or UNJAM, as the HELD causes say (R28, R46). -/
theorem enterWork_eq (work : (s.loopOf g).state = .opened ∨ (s.loopOf g).state = .unjam) :
    enterWork g s = formFeed (s.onLoop g (loopEntry s (if s.heldCause g then .held else .run))) := by
  unfold enterWork
  split
  next cause =>
    refine enterLoop_plain ?_ ?_ (fun _ => rfl) nofun <;> obtain h | h := work <;> rw [h] <;> exact nofun
  next free =>
    refine enterLoop_plain ?_ ?_ (fun _ => rfl) nofun <;> obtain h | h := work <;> rw [h] <;> exact nofun

theorem enterWork_opened (opened : (s.loopOf g).state = .opened) :
    enterWork g s = formFeed (s.onLoop g fun l =>
      { l with state := if s.heldCause g then .held else .run, integ := 0, stallCount := 0 }) := by
  refine (enterWork_eq (.inl opened)).trans (congrArg formFeed (onLoop_congr ?_))
  split <;> simp [loopEntry, opened]

/-- The entry into STOPPED sets the valve channel to 0 and hands it to the loop (R35). -/
theorem enterLoop_stopped_valve (g : Gear) (s : State) :
    ((valveEntry g .stopped s).demand (.valve g)).requested = 0 ∧
      ((valveEntry g .stopped s).demand (.valve g)).owner = .loop := by
  simp [valveEntry]

theorem formFeed_of_not_run (h : (s.loopOf g).state ≠ .run) :
    formFeed s = s.onSlurry fun x => { x with feed := 0 } := by
  rw [formFeed, feedLimit_of_not_run h]

/-- A change of a loop's state that is no departure and leaves a loop out of RUN ends the feed, and starts
the hold delay once both loops stand in STOPPED (R109, R116). -/
theorem loopMoved_halted {old : LoopState} (moved : (s.loopOf g).state ≠ old) (other : old ≠ .stopped)
    (halted : (s.loopOf g).state ≠ .run) :
    loopMoved g old s = s.onSlurry fun x =>
      { x with feed := 0, holdDelay := if s.bothLoops .stopped then s.startSec .holdDelay else x.holdDelay } := by
  unfold loopMoved
  rw [if_neg moved, if_neg other, formFeed_of_not_run (s := startHoldDelay s) halted,
    formFeed_of_not_run halted]
  split <;> rfl

theorem valveEntry_startSec (g : Gear) (new : LoopState) (x : Setting) (s : State) :
    (valveEntry g new s).startSec x = s.startSec x := by
  unfold State.startSec State.startTimer
  rw [valveEntry_setting, valveEntry_now]

/-- An entry into STOPPED starts the hold delay once both loops stand there, and ends the feed (R109, R116). -/
theorem enterLoop_stopped_eq (moves : (s.loopOf g).state ≠ .stopped) :
    enterLoop g .stopped s =
      (valveEntry g .stopped (s.onLoop g (loopEntry s .stopped))).onSlurry fun x =>
        { x with feed := 0
                 holdDelay := if (s.loopOf g.partner).state = .stopped then s.startSec .holdDelay
                   else x.holdDelay } := by
  have entered : ∀ h, ((valveEntry g .stopped (s.onLoop g (loopEntry s .stopped))).loopOf h).state =
      if h = g then .stopped else (s.loopOf h).state := by
    intro h
    rw [valveEntry_loopOf, State.loopOf_onLoop]
    split <;> rfl
  have here := (entered g).trans (if_pos rfl)
  have both : (valveEntry g .stopped (s.onLoop g (loopEntry s .stopped))).bothLoops .stopped = true ↔
      (s.loopOf g.partner).state = .stopped := by
    rw [bothLoops_iff]
    refine ⟨fun all => ?_, fun partner h => ?_⟩
    · have := all g.partner
      rwa [entered, if_neg (Gear.partner_ne g)] at this
    · rw [entered]
      obtain rfl | rfl := Gear.eq_or_partner g h
      · rw [if_pos rfl]
      · rwa [if_neg (Gear.partner_ne g)]
  unfold enterLoop
  rw [loopMoved_halted (by rw [here]; exact moves.symm) moves (by rw [here]; exact nofun), valveEntry_startSec]
  simp only [both]
  rfl

/-! ## The stages (R36 to R42) -/

theorem computeStages_loopOf (g h : Gear) (inp : DriveInputs) (s : State) :
    (computeStages g inp s).loopOf h =
      if h = g then
        { s.loopOf g with
          torque := s.stageTorque g inp, ramped := s.stageRamped g inp
          integ := (s.stagePi g inp (s.stageRamped g inp)).integ
          sat := (s.stagePi g inp (s.stageRamped g inp)).sat }
      else s.loopOf h := by
  rw [computeStages, setRequested_loopOf, State.loopOf_onLoop]

theorem computeStages_state (g : Gear) (inp : DriveInputs) (s : State) :
    ((computeStages g inp s).loopOf g).state = (s.loopOf g).state := by
  rw [computeStages_loopOf, if_pos rfl]

/-- But for its loop, the stages move the lanes and the frames alone. -/
theorem computeStages_eq (g : Gear) (inp : DriveInputs) (s : State) :
    computeStages g inp s = { s with
      drive := (computeStages g inp s).drive, lanes := (computeStages g inp s).lanes
      path := (computeStages g inp s).path } := by
  rw [computeStages, setRequested_eq]
  rfl

theorem computeStages_base (g : Gear) (inp : DriveInputs) (s : State) :
    (computeStages g inp s).drive.base = s.drive.base := by
  rw [computeStages, setRequested_drive]
  rfl

theorem stage1_opened (opened : (s.loopOf g).state = .opened) : s.stage1 g inp =
    clampMag (s.classField .holdSpeed) (clampMag (s.classField .sMax) inp.base) := by
  rw [State.stage1, opened]

theorem stage1_unjam (unjam : (s.loopOf g).state = .unjam) : s.stage1 g inp =
    clampMag (s.classField .sMax) (phaseTarget (s.loopOf g).phase inp.base (s.classField .unjamSpeed)) := by
  rw [State.stage1, unjam]

theorem stage1_stopping (stopping : (s.loopOf g).state = .stopping) : s.stage1 g inp = 0 := by
  rw [State.stage1, stopping]

theorem stagePi_opened (opened : (s.loopOf g).state = .opened) (ramped : Int) :
    s.stagePi g inp ramped = ⟨s.feedForward g ramped, 0, false⟩ := if_pos opened

theorem stagePi_closed (closed : (s.loopOf g).state ≠ .opened) (ramped : Int) :
    s.stagePi g inp ramped = piStage (s.classField .kp) (s.classField .ki) (s.classField .iMax)
      (s.loopOf g).integ (s.feedForward g ramped) (ramped - inp.speed) := if_neg closed

/-! ## The update in each computing state (R22) -/

theorem endTests_driving (driving : (s.loopOf g).state = .run ∨ (s.loopOf g).state = .held) :
    endTests g inp s = stallTest g inp s := by
  unfold endTests
  obtain h | h := driving <;> rw [h]

/-- An update whose health test moves nothing goes through the stages to its end tests. -/
theorem computingUpdate_of_kept (kept : healthTest g (s.driveInputs g) s = s)
    (computing : (s.loopOf g).state.computing = true) :
    computingUpdate g s = endTests g (s.driveInputs g) (computeStages g (s.driveInputs g) s) := by
  rw [computingUpdate]
  simp only [kept, if_pos computing]

/-- An update whose health test moves the loop goes through the stages from there. -/
theorem computingUpdate_of_moved {u : State} (moved : healthTest g (s.driveInputs g) s = u)
    (computing : (u.loopOf g).state.computing = true) :
    computingUpdate g s = endTests g (s.driveInputs g) (computeStages g (s.driveInputs g) u) := by
  rw [computingUpdate]
  simp only [moved, if_pos computing]

theorem computingUpdate_sound (driving : (s.loopOf g).state = .run ∨ (s.loopOf g).state = .held)
    (sound : (s.pickupOf g).health = .ok) :
    computingUpdate g s =
      stallTest g (s.driveInputs g) (computeStages g (s.driveInputs g) s) := by
  have health : (s.driveInputs g).health = .ok := sound
  rw [computingUpdate_of_kept, endTests_driving]
  · rwa [computeStages_state]
  · unfold healthTest
    obtain h | h := driving <;> rw [h, health]
  · obtain h | h := driving <;> rw [h] <;> rfl

theorem computingUpdate_opens (driving : (s.loopOf g).state = .run ∨ (s.loopOf g).state = .held)
    (broken : (s.pickupOf g).health = .fault) :
    computingUpdate g s = computeStages g (s.driveInputs g) (formFeed (s.onLoop g fun l =>
      { l with state := .opened, integ := 0, stallCount := 0, sat := false })) := by
  have health : (s.driveInputs g).health = .fault := broken
  have moved : healthTest g (s.driveInputs g) s = enterLoop g .opened s := by
    unfold healthTest
    obtain h | h := driving <;> rw [h, health]
  have state : ((formFeed (s.onLoop g fun l =>
      { l with state := .opened, integ := 0, stallCount := 0, sat := false })).loopOf g).state = .opened := by
    rw [formFeed_loopOf, State.loopOf_onLoop, if_pos rfl]
  rw [computingUpdate_of_moved (moved.trans (enterLoop_opened driving)) (by rw [state]; rfl), endTests,
    computeStages_state, state]

theorem computingUpdate_open (opened : (s.loopOf g).state = .opened)
    (broken : (s.pickupOf g).health = .fault) :
    computingUpdate g s = computeStages g (s.driveInputs g) s := by
  have health : (s.driveInputs g).health = .fault := broken
  rw [computingUpdate_of_kept, endTests, computeStages_state, opened]
  · rw [healthTest, opened, health]
  · rw [opened]; rfl

theorem computingUpdate_closes (opened : (s.loopOf g).state = .opened)
    (sound : (s.pickupOf g).health = .ok) :
    computingUpdate g s = stallTest g (s.driveInputs g) (computeStages g (s.driveInputs g)
      (formFeed (s.onLoop g fun l =>
        { l with state := if s.heldCause g then .held else .run, integ := 0, stallCount := 0 }))) := by
  have health : (s.driveInputs g).health = .ok := sound
  have moved : healthTest g (s.driveInputs g) s = enterWork g s := by rw [healthTest, opened, health]
  have state : ((formFeed (s.onLoop g fun l =>
      { l with state := if s.heldCause g then .held else .run, integ := 0, stallCount := 0 })).loopOf g).state =
      if s.heldCause g then .held else .run := by
    rw [formFeed_loopOf, State.loopOf_onLoop, if_pos rfl]
  rw [computingUpdate_of_moved (moved.trans (enterWork_opened opened)), endTests_driving]
  · rw [computeStages_state, state]
    split
    · exact .inr rfl
    · exact .inl rfl
  · rw [state]
    split <;> rfl

theorem computingUpdate_unjam (unjam : (s.loopOf g).state = .unjam) :
    computingUpdate g s = unjamEnd g (s.driveInputs g) (computeStages g (s.driveInputs g) s) := by
  rw [computingUpdate_of_kept, endTests, computeStages_state, unjam]
  · rw [healthTest, unjam]
  · rw [unjam]; rfl

theorem computingUpdate_stopping (stopping : (s.loopOf g).state = .stopping)
    (sound : (s.pickupOf g).health = .ok) :
    computingUpdate g s =
      if ((computeStages g (s.driveInputs g) s).loopOf g).ramped = 0 ∧ mag (s.driveInputs g).speed < 50 then
        enterLoop g .stopped (computeStages g (s.driveInputs g) s)
      else computeStages g (s.driveInputs g) s := by
  have health : (s.driveInputs g).health = .ok := sound
  rw [computingUpdate_of_kept, endTests, computeStages_state, stopping]
  · rw [healthTest, stopping, health]
  · rw [stopping]; rfl

theorem computingUpdate_stops (stopping : (s.loopOf g).state = .stopping)
    (broken : (s.pickupOf g).health = .fault) : computingUpdate g s = enterLoop g .stopped s := by
  have health : (s.driveInputs g).health = .fault := broken
  have moved : healthTest g (s.driveInputs g) s = enterLoop g .stopped s := by rw [healthTest, stopping, health]
  rw [computingUpdate]
  simp only [moved]
  rw [if_neg]
  rw [enterLoop_state, if_pos rfl]
  exact nofun

end

end Sys2Proof.Machine

/-! SUPPORT. The statements about a drive update in each computing state, and in RUN and HELD through the
eight stages (R22, R27 to R29, R36 to R42). -/

namespace Sys2Proof.Machine

section
variable {dt : Nat} {g : Gear} {s : State} {inp : DriveInputs}

/-! ## The entry into STOPPED at the end of STOPPING -/

theorem enterLoop_stopped_slurry (moves : (s.loopOf g).state ≠ .stopped) :
    (enterLoop g .stopped s).slurry = { s.slurry with
      feed := 0
      holdDelay := if (s.loopOf g.partner).state = .stopped then s.startSec .holdDelay
        else s.slurry.holdDelay } := by
  rw [enterLoop_stopped_eq moves, State.onSlurry, valveEntry_slurry]
  rfl

theorem enterLoop_stopped_demand (moves : (s.loopOf g).state ≠ .stopped) (ch : Channel) :
    (enterLoop g .stopped s).demand ch =
      (valveEntry g .stopped (s.onLoop g (loopEntry s .stopped))).demand ch := by
  rw [enterLoop_stopped_eq moves]
  rfl

/-- A loop that stops at rest, seen from the state `w` before the stages. -/
theorem stops_from {w x : State} (blocks : x = { w with drive := x.drive, lanes := x.lanes, path := x.path })
    (base : x.drive.base = w.drive.base) (partner : (x.loopOf g.partner).state = (w.loopOf g.partner).state)
    (moves : (x.loopOf g).state ≠ .stopped) :
    (enterLoop g .stopped x).loopOf g =
        { x.loopOf g with state := .stopped, ramped := 0, integ := 0, sat := false
                          stallCount := 0, overCount := 0, phase := .none, phaseCount := 0
                          attempts := 0, recoverCount := 0 } ∧
      (enterLoop g .stopped x).loopOf g.partner = x.loopOf g.partner ∧
      (enterLoop g .stopped x).drive.base = w.drive.base ∧
      ((enterLoop g .stopped x).demand (.valve g)).requested = 0 ∧
      ((enterLoop g .stopped x).demand (.valve g)).owner = .loop ∧
      (enterLoop g .stopped x).slurry = { w.slurry with
        feed := 0
        holdDelay := if (w.loopOf g.partner).state = .stopped then w.startSec .holdDelay
          else w.slurry.holdDelay } ∧
      (enterLoop g .stopped x).selector = w.selector ∧ (enterLoop g .stopped x).pickup = w.pickup ∧
      (enterLoop g .stopped x).survey = w.survey ∧ (enterLoop g .stopped x).steering = w.steering ∧
      (enterLoop g .stopped x).orders = w.orders := by
  obtain ⟨zero, owner⟩ := enterLoop_stopped_valve g (x.onLoop g (loopEntry x .stopped))
  refine ⟨?_, ?_, ?_, ?_, ?_, ?_, ?_, ?_, ?_, ?_, ?_⟩
  · rw [enterLoop_loopOf, if_pos rfl]; rfl
  · rw [enterLoop_loopOf, if_neg (Gear.partner_ne g)]
  · rw [enterLoop_drive]; exact base
  · rw [enterLoop_stopped_demand moves, zero]
  · rw [enterLoop_stopped_demand moves, owner]
  · rw [enterLoop_stopped_slurry moves, partner, blocks]; rfl
  · rw [enterLoop_selector, blocks]
  · rw [enterLoop_pickup, blocks]
  · rw [enterLoop_survey, blocks]
  · rw [enterLoop_steering, blocks]
  · rw [enterLoop_orders, blocks]

theorem evaluateClass_base (s : State) : (evaluateClass s).drive.base = s.drive.base := by
  unfold evaluateClass
  split <;> rfl

theorem driveRead_startSec (g : Gear) (x : Setting) (s : State) : (driveRead g s).startSec x = s.startSec x := by
  rw [driveRead_eq]
  rfl

/-- A loop that stops at rest in an update, seen from before the update. -/
theorem stops_from_read {x : State}
    (blocks : x = { driveRead g (s.elapse dt) with drive := x.drive, lanes := x.lanes, path := x.path })
    (base : x.drive.base = (driveRead g (s.elapse dt)).drive.base)
    (partner : (x.loopOf g.partner).state = ((driveRead g (s.elapse dt)).loopOf g.partner).state)
    (moves : (x.loopOf g).state ≠ .stopped) :
    (enterLoop g .stopped x).loopOf g =
        { x.loopOf g with state := .stopped, ramped := 0, integ := 0, sat := false
                          stallCount := 0, overCount := 0, phase := .none, phaseCount := 0
                          attempts := 0, recoverCount := 0 } ∧
      (enterLoop g .stopped x).loopOf g.partner = x.loopOf g.partner ∧
      (enterLoop g .stopped x).drive.base = s.drive.base ∧
      ((enterLoop g .stopped x).demand (.valve g)).requested = 0 ∧
      ((enterLoop g .stopped x).demand (.valve g)).owner = .loop ∧
      (enterLoop g .stopped x).slurry = { s.slurry with
        feed := 0
        holdDelay := if (s.loopOf g.partner).state = .stopped then
            .running ((s.setting .holdDelay).toNat * 1000000) (s.now + dt)
          else s.slurry.holdDelay } ∧
      (enterLoop g .stopped x).selector = (driveRead g (s.elapse dt)).selector ∧
      (enterLoop g .stopped x).pickup = s.pickup ∧ (enterLoop g .stopped x).survey = s.survey ∧
      (enterLoop g .stopped x).steering = s.steering ∧ (enterLoop g .stopped x).orders = s.orders := by
  obtain ⟨loop, other, kept, zero, owner, flow, selector, pickup, survey, steering, orders⟩ :=
    stops_from blocks base partner moves
  rw [driveRead_state, driveRead_startSec, driveRead_slurry] at flow
  refine ⟨loop, other, kept.trans (evaluateClass_base _), zero, owner, flow, selector, pickup.trans ?_,
    survey.trans ?_, steering.trans ?_, orders.trans ?_⟩ <;> rw [driveRead_eq] <;> rfl

/-! ## What the stages write (R36 to R42) -/

theorem computeStages_opened (opened : (s.loopOf g).state = .opened) :
    computeStages g inp s = setRequested (.valve g) (s.feedForward g (s.stageRamped g inp))
      (s.onLoop g fun l =>
        { l with torque := s.stageTorque g inp, ramped := s.stageRamped g inp, integ := 0, sat := false }) := by
  rw [computeStages]
  simp only [stagePi_opened opened]

/-- The raw opening of stage 7 for an integrator that moves on to `next`. -/
theorem computeStages_closed (closed : (s.loopOf g).state ≠ .opened) {ramped e ff next raw : Int}
    (hramped : ramped = s.stageRamped g inp) (he : e = ramped - inp.speed) (hff : ff = s.feedForward g ramped)
    (hnext : next = clampMag (s.classField .iMax) ((s.loopOf g).integ + roundDiv (s.classField .ki * e) 256))
    (hraw : raw = ff + roundDiv (s.classField .kp * e) 256 + next) :
    computeStages g inp s = setRequested (.valve g) (clampMag 1000 raw) (s.onLoop g fun l =>
      { l with torque := s.stageTorque g inp, ramped := ramped
               integ := if (raw < -1000 ∨ 1000 < raw) ∧ e ≠ 0 ∧ signOf e = signOf raw then l.integ else next
               sat := decide (raw < -1000 ∨ 1000 < raw) }) := by
  subst hraw hnext hff he hramped
  rw [computeStages]
  simp only [stagePi_closed closed]
  congr 1
  refine onLoop_congr ?_
  simp only [piStage, decide_eq_true_eq]

/-! ## Each computing state -/

theorem exec_driveUpdate_computing (running : s.inReset = false)
    (due : (s.loopOf g).timer.due (s.now + dt) = true) (computing : (s.loopOf g).state.computing = true) :
    exec (.driveUpdate dt g) s = .next (computingUpdate g (driveRead g (s.elapse dt))) :=
  (exec_driveUpdate_due running due).trans (congrArg _ (driveUpdate_computing computing))

theorem driveRead_pickupOf (g h : Gear) (s : State) : (driveRead g s).pickupOf h = s.pickupOf h := by
  rw [State.pickupOf, driveRead_eq]
  rfl

/-- The four states of the stages that are not RUN and HELD, with their targets. -/
theorem stage1_cases {s1 : Int}
    (h : ((s.loopOf g).state = .opened ∧
        s1 = clampMag (s.classField .holdSpeed) (clampMag (s.classField .sMax) inp.base)) ∨
      ((s.loopOf g).state = .unjam ∧ (s.loopOf g).phase = .reverse ∧
        s1 = clampMag (s.classField .sMax) (-(signOf inp.base * s.classField .unjamSpeed))) ∨
      ((s.loopOf g).state = .unjam ∧ (s.loopOf g).phase = .forward ∧
        s1 = clampMag (s.classField .sMax) (signOf inp.base * s.classField .unjamSpeed)) ∨
      ((s.loopOf g).state = .stopping ∧ s1 = 0)) : s.stage1 g inp = s1 := by
  obtain ⟨opened, rfl⟩ | ⟨unjam, phase, rfl⟩ | ⟨unjam, phase, rfl⟩ | ⟨stopping, rfl⟩ := h
  · exact stage1_opened opened
  · rw [stage1_unjam unjam, phase]; rfl
  · rw [stage1_unjam unjam, phase]; rfl
  · exact stage1_stopping stopping

/-- Settles O20: the update of each computing state, from the health test to its end tests, and what the
stages write at the target of that state. -/
theorem driveUpdateByState : Obligations.DriveUpdateByState := by
  refine ⟨?updates, ?stages⟩
  case updates =>
    rintro dt g s w inp running due read rfl
    replace read : w = driveRead g (s.elapse dt) := read
    subst read
    have state : ∀ h, ((driveRead g (s.elapse dt)).loopOf h).state = (s.loopOf h).state := fun h =>
      driveRead_state g h (s.elapse dt)
    have health : ((driveRead g (s.elapse dt)).pickupOf g).health = (s.pickupOf g).health := by
      rw [driveRead_pickupOf]; rfl
    have worked := exec_driveUpdate_computing (dt := dt) running due
    refine ⟨fun driving => ?_, fun opened => ?_, fun unjam => ?_, fun stopping x broken sound => ?_⟩
    · have driving' := driving
      rw [← state g] at driving
      replace worked := worked (by obtain h | h := driving' <;> rw [h] <;> rfl)
      rw [worked, ← health]
      refine ⟨fun sound => congrArg _ (computingUpdate_sound driving sound), fun broken x here => ?_⟩
      rw [computingUpdate_opens driving broken, here]
      rfl
    · replace worked := worked (by rw [opened]; rfl)
      rw [← state g] at opened
      rw [worked, ← health]
      refine ⟨fun broken => congrArg _ (computingUpdate_open opened broken), fun sound x here => ?_⟩
      rw [computingUpdate_closes opened sound, here]
      simp only [driveRead_heldCause, heldCause_iff]
      rfl
    · replace worked := worked (by rw [unjam]; rfl)
      rw [worked, computingUpdate_unjam ((state g).trans unjam)]
    · replace worked := worked (by rw [stopping]; rfl)
      rw [← state g] at stopping
      rw [worked]
      have partner : (computeStages g _ (driveRead g (s.elapse dt))).loopOf g.partner =
          (driveRead g (s.elapse dt)).loopOf g.partner :=
        (computeStages_loopOf g g.partner ((driveRead g (s.elapse dt)).driveInputs g) _).trans
          (if_neg (Gear.partner_ne g))
      cases read : (s.pickupOf g).health with
      | ok =>
        obtain rfl := sound read
        rw [computingUpdate_stopping stopping (health.trans read)]
        refine ⟨fun _ moves => congrArg _ (if_neg fun ends => ?_), fun ends => ⟨_, congrArg _ (if_pos ?_), ?_⟩⟩
        · obtain ramped | speed := moves
          · exact ramped ends.1
          · exact absurd ends.2 (not_lt.mpr speed)
        · exact ends.resolve_left nofun
        · exact stops_from_read (computeStages_eq ..) (computeStages_base ..) (by rw [partner])
            (by rw [computeStages_state, stopping]; exact nofun)
      | fault =>
        obtain rfl := broken read
        rw [computingUpdate_stops stopping (health.trans read)]
        exact ⟨nofun, fun _ => ⟨_, rfl, stops_from_read rfl rfl rfl (by rw [stopping]; exact nofun)⟩⟩
  case stages =>
    rintro g inp s l s1 s2 factor ramped e ff next raw rfl target rfl torque hramped he hff hnext hraw
    obtain rfl : factor = s.stageTorque g inp := torque
    have reached : s.stageRamped g inp = ramped := by
      rw [State.stageRamped, stage1_cases target, hramped]
    have forward : ff = s.feedForward g ramped := by
      rw [hff]
      cases g <;> rfl
    refine ⟨fun opened => ?_, fun closed => ?_⟩
    · rw [computeStages_opened opened, reached, ← forward]
    · exact computeStages_closed closed reached.symm he forward hnext hraw

end

end Sys2Proof.Machine

/-! SUPPORT. A drive update in RUN and HELD through the eight stages (R22, R36 to R42). -/

namespace Sys2Proof.Machine

section
variable {dt : Nat} {g : Gear} {s : State} {inp : DriveInputs}

/-! ## What the start of an update leaves (R22, R57) -/

theorem evaluateClass_selector (s : State) :
    (evaluateClass s).selector = { s.selector with classInEffect := s.evaluatedClass } := by
  unfold evaluateClass
  split
  next same => rw [same]
  next => rfl

theorem driveRead_selector (g : Gear) (s : State) :
    (driveRead g s).selector = { s.selector with classInEffect := s.evaluatedClass } :=
  evaluateClass_selector _

theorem driveRead_classField (g : Gear) (s : State) (x : ClassField) :
    (driveRead g s).classField x = classWord s.selector.classTable s.evaluatedClass x.number := by
  rw [State.classField, driveRead_selector]

/-- An integrator after the evaluation of the class (R57). -/
def State.integRead (s : State) (i : Int) : Int :=
  if s.evaluatedClass = s.selector.classInEffect then i
  else clampMag (classWord s.selector.classTable s.evaluatedClass (ClassField.iMax).number) i

theorem evaluateClass_loop (s : State) (h : Gear) :
    (evaluateClass s).loopOf h = { s.loopOf h with integ := s.integRead (s.loopOf h).integ } := by
  unfold State.integRead
  by_cases same : s.evaluatedClass = s.selector.classInEffect
  · rw [evaluateClass_same_class same, if_pos same]
  · rw [evaluateClass_other_class same, loopOf_clampIntegrators, if_neg same]
    rfl

theorem driveRead_loopOf_same (g : Gear) (s : State) : (driveRead g s).loopOf g =
    { s.loopOf g with integ := s.integRead (s.loopOf g).integ, timer := s.startMs .drivePeriod } := by
  rw [driveRead, evaluateClass_loop, State.loopOf_onLoop, if_pos rfl]
  rfl

theorem driveRead_loopOf_partner (g : Gear) (s : State) : (driveRead g s).loopOf g.partner =
    { s.loopOf g.partner with integ := s.integRead (s.loopOf g.partner).integ } := by
  rw [driveRead, evaluateClass_loop, State.loopOf_onLoop, if_neg (Gear.partner_ne g)]
  rfl

theorem driveRead_load (g : Gear) (s : State) : ((driveRead g s).driveInputs g).load =
    if (s.laneOf .drive).fresh then s.pressure g else none := by
  have lanes : (driveRead g s).lanes = s.lanes := by rw [driveRead_eq]
  have pressure : (driveRead g s).pressure g = s.pressure g := by
    unfold State.pressure State.item State.laneOf
    rw [lanes]
  simp only [State.driveInputs, State.laneOf, lanes, pressure]
  rfl

/-! ## The target of stage 1 (R36, R98) -/

/-- The trim as a loop in RUN adds it (R36, R98). -/
def State.trimIn (s : State) (g : Gear) : Int :=
  if s.steering.state = .auto ∧ (s.loopOf g.partner).state = .run ∧ s.drive.base ≠ 0 then
    match g with
    | .g1 => s.steering.trim
    | .g2 => -s.steering.trim
  else 0

theorem bothLoops_run (run : (s.loopOf g).state = .run) :
    s.bothLoops .run = true ↔ (s.loopOf g.partner).state = .run := by
  rw [bothLoops_iff]
  refine ⟨fun all => all g.partner, fun partner h => ?_⟩
  obtain rfl | rfl := Gear.eq_or_partner g h
  · exact run
  · exact partner

theorem trimFor_trimRead (run : (s.loopOf g).state = .run) : trimFor g s.drive.base s.trimRead = s.trimIn g := by
  unfold trimFor State.trimRead State.trimIn
  simp only [bothLoops_run run]
  by_cases base : s.drive.base = 0
  · simp [base]
  · by_cases trims : s.steering.state = .auto ∧ (s.loopOf g.partner).state = .run
    · cases g <;> simp [base, trims]
    · cases g <;> simp [base, trims]

theorem stage1_run (run : (s.loopOf g).state = .run) : s.stage1 g (s.driveInputs g) =
    clampMag (s.classField .sMax)
      (signOf s.drive.base * max 0 (mag s.drive.base + s.trimIn g)) := by
  rw [State.stage1, run]
  show clampMag _ (signOf s.drive.base * max 0 (mag s.drive.base + trimFor g s.drive.base s.trimRead)) = _
  rw [trimFor_trimRead run]

theorem stage1_held (held : (s.loopOf g).state = .held) : s.stage1 g inp =
    clampMag (s.classField .holdSpeed) (clampMag (s.classField .sMax) inp.base) := by
  rw [State.stage1, held]

/-! ## Without a stall (R43) -/

theorem stallTest_absent (none : inp.load = none) : stallTest g inp s = s := by rw [stallTest, none]

theorem stallTest_clear {p : Int} (load : inp.load = some p)
    (clear : mag (s.loopOf g).ramped < 200 ∨ s.classField .stallSpeed ≤ mag inp.speed ∨
      p < s.classField .pStall) :
    stallTest g inp s = s.onLoop g fun l => { l with stallCount := 0 } := by
  rw [stallTest, load]
  simp only
  rw [if_neg]
  rintro ⟨ramped, speed, pressure⟩
  omega

theorem stallTest_calm (calm : ∀ p, inp.load = some p → mag (s.loopOf g).ramped < 200 ∨
      s.classField .stallSpeed ≤ mag inp.speed ∨ p < s.classField .pStall) :
    stallTest g inp s = s.onLoop g fun l =>
      { l with stallCount := if inp.load = none then l.stallCount else 0 } := by
  cases load : inp.load with
  | none =>
    rw [stallTest_absent load]
    cases g <;> rfl
  | some p => exact stallTest_clear load (calm p load)

/-- The target of stage 1 as the start of an update leaves it, in RUN and in HELD (R36). -/
theorem driveRead_stage1 {s1 : Int}
    (driving : (s.loopOf g).state = .run ∨ (s.loopOf g).state = .held)
    (run : (s.loopOf g).state = .run →
      s1 = clampMag (classWord s.selector.classTable s.evaluatedClass (ClassField.sMax).number)
        (signOf s.drive.base * max 0 (mag s.drive.base + s.trimIn g)))
    (held : (s.loopOf g).state = .held →
      s1 = clampMag (classWord s.selector.classTable s.evaluatedClass (ClassField.holdSpeed).number)
        (clampMag (classWord s.selector.classTable s.evaluatedClass (ClassField.sMax).number) s.drive.base)) :
    (driveRead g s).stage1 g ((driveRead g s).driveInputs g) = s1 := by
  have base : (driveRead g s).drive.base = s.drive.base := evaluateClass_base _
  have trim : (driveRead g s).trimIn g = s.trimIn g := by
    have steering : (driveRead g s).steering = s.steering := by rw [driveRead_eq]
    unfold State.trimIn
    rw [driveRead_state, base, steering]
  have state := driveRead_state g g s
  obtain here | here := driving
  · rw [stage1_run (state.trans here), driveRead_classField, base, trim, run here]
  · rw [stage1_held (state.trans here), driveRead_classField, driveRead_classField, held here]
    exact congrArg (fun b => clampMag _ (clampMag _ b)) base

/-- The torque factor as the start of an update leaves it (R38). -/
theorem driveRead_stageTorque (g : Gear) (s : State) :
    (driveRead g s).stageTorque g ((driveRead g s).driveInputs g) =
      match (if (s.laneOf .drive).fresh then s.pressure g else none) with
      | some p => torqueFactor (classWord s.selector.classTable s.evaluatedClass (ClassField.pLim).number)
          (classWord s.selector.classTable s.evaluatedClass (ClassField.pMax).number)
          (classWord s.selector.classTable s.evaluatedClass (ClassField.fMin).number) p
      | none => (s.loopOf g).torque := by
  unfold State.stageTorque
  rw [driveRead_load, driveRead_loopOf_same]
  simp only [driveRead_classField] <;> rfl

/-- What the stages and a calm stall test leave, of a loop that is not in OPEN. -/
theorem calm_stages {ramped e ff next raw : Int} (closed : (s.loopOf g).state ≠ .opened)
    (hramped : ramped = s.stageRamped g inp) (he : e = ramped - inp.speed) (hff : ff = s.feedForward g ramped)
    (hnext : next = clampMag (s.classField .iMax) ((s.loopOf g).integ + roundDiv (s.classField .ki * e) 256))
    (hraw : raw = ff + roundDiv (s.classField .kp * e) 256 + next)
    (calm : ∀ p, inp.load = some p → mag ramped < 200 ∨
      s.classField .stallSpeed ≤ mag inp.speed ∨ p < s.classField .pStall) :
    ((stallTest g inp (computeStages g inp s)).demand (.valve g)).requested = clampMag 1000 raw ∧
      (stallTest g inp (computeStages g inp s)).loopOf g =
        { s.loopOf g with
          torque := s.stageTorque g inp, ramped := ramped
          integ := if (raw < -1000 ∨ 1000 < raw) ∧ e ≠ 0 ∧ signOf e = signOf raw then (s.loopOf g).integ
            else next
          sat := decide (raw < -1000 ∨ 1000 < raw)
          stallCount := if inp.load = none then (s.loopOf g).stallCount else 0 } ∧
      (stallTest g inp (computeStages g inp s)).loopOf g.partner = s.loopOf g.partner ∧
      stallTest g inp (computeStages g inp s) = { s with
        drive := { s.drive with loop := (stallTest g inp (computeStages g inp s)).drive.loop }
        lanes := (stallTest g inp (computeStages g inp s)).lanes
        path := (stallTest g inp (computeStages g inp s)).path } := by
  have fields : ∀ x, (computeStages g inp s).classField x = s.classField x := fun x => by
    rw [State.classField, computeStages_eq]
    rfl
  have reached : ((computeStages g inp s).loopOf g).ramped = ramped := by
    rw [computeStages_loopOf, if_pos rfl, hramped]
  rw [stallTest_calm (by rwa [reached, fields, fields]),
    computeStages_closed closed hramped he hff hnext hraw]
  refine ⟨?_, ?_, ?_, ?_⟩
  · rw [State.onLoop_demand, setRequested_requested, if_pos rfl]
  · rw [State.loopOf_onLoop, if_pos rfl, setRequested_loopOf, State.loopOf_onLoop, if_pos rfl]
  · rw [State.loopOf_onLoop, if_neg (Gear.partner_ne g), setRequested_loopOf, State.loopOf_onLoop,
      if_neg (Gear.partner_ne g)]
  · rw [State.onLoop, setRequested_eq]
    rfl

/-- A pressure that is read only from a fresh source, in the two ways in which it is written. -/
theorem load_match {α : Type} (fresh : Bool) (pressure : Option Int) (f : Int → α) (d : α) :
    (match (if fresh then pressure else none) with
      | some p => f p
      | none => d) =
    match fresh, pressure with
    | true, some p => f p
    | _, _ => d := by
  cases fresh <;> cases pressure <;> rfl

theorem load_eq_none (fresh : Bool) (pressure : Option Int) :
    (if fresh then pressure else none) = none ↔ ¬ (fresh = true ∧ pressure ≠ none) := by
  cases fresh <;> simp

/-- Settles O19: the start of the update, its stages on the class that it evaluates, and a calm stall test. -/
theorem driveUpdateInRun : Obligations.DriveUpdateInRun := by
  rintro dt g s u l c f clamped trim s1 s2 factor s3 ramped e ff next raw running rfl due driving sound rfl rfl
    rfl rfl rfl run held rfl torque rfl hramped calm rfl hff hnext hraw
  beta_reduce at *
  have speed : ((driveRead g (s.elapse dt)).driveInputs g).speed = (s.elapse dt).measuredSpeed g := by
    show (driveRead g (s.elapse dt)).measuredSpeed g = _
    rw [driveRead_eq]
    rfl
  have cut : ((driveRead g (s.elapse dt)).driveInputs g).cut = s.slurry.cut :=
    congrArg Slurry.cut (driveRead_slurry g (s.elapse dt))
  have load : ((driveRead g (s.elapse dt)).driveInputs g).load =
    if (s.laneOf .drive).fresh then s.pressure g else none := driveRead_load g (s.elapse dt)
  have fields : ∀ x, (driveRead g (s.elapse dt)).classField x =
    classWord s.selector.classTable s.evaluatedClass x.number := driveRead_classField g (s.elapse dt)
  have loop := driveRead_loopOf_same g (s.elapse dt)
  have state : ((driveRead g (s.elapse dt)).loopOf g).state = (s.loopOf g).state := driveRead_state ..
  have factored : (driveRead g (s.elapse dt)).stageTorque g ((driveRead g (s.elapse dt)).driveInputs g) =
      factor := by
    rw [driveRead_stageTorque, torque]
    exact load_match (s.laneOf .drive).fresh (s.pressure g) (torqueFactor _ _ _) (s.loopOf g).torque
  have reached : ramped = (driveRead g (s.elapse dt)).stageRamped g ((driveRead g (s.elapse dt)).driveInputs g) := by
    rw [State.stageRamped, driveRead_stage1 (s := s.elapse dt) driving run held, cut, factored, fields, loop]
    exact hramped
  have forward : ff = (driveRead g (s.elapse dt)).feedForward g ramped := by
    rw [hff, State.feedForward, driveRead_selector]
    cases g <;> rfl
  have driving' : ((driveRead g (s.elapse dt)).loopOf g).state = .run ∨
      ((driveRead g (s.elapse dt)).loopOf g).state = .held := by rwa [state]
  have closed : ((driveRead g (s.elapse dt)).loopOf g).state ≠ .opened := by
    obtain here | here := driving' <;> rw [here] <;> exact nofun
  have calm' : ∀ p, ((driveRead g (s.elapse dt)).driveInputs g).load = some p → mag ramped < 200 ∨
      (driveRead g (s.elapse dt)).classField .stallSpeed ≤ mag ((s.elapse dt).measuredSpeed g) ∨
        p < (driveRead g (s.elapse dt)).classField .pStall := by
    intro p here
    rw [load] at here
    rw [fields, fields]
    obtain stale | slow | fast | light := calm
    · simp [stale] at here
    · exact .inl slow
    · exact .inr (.inl fast)
    · exact .inr (.inr (light p (by split at here <;> simp_all)))
  rw [← speed] at hnext hraw calm'
  obtain ⟨requested, own, partner, blocks⟩ := calm_stages closed reached rfl forward
    (hnext.trans (by rw [fields, fields, loop]; rfl)) (hraw.trans (by rw [fields])) calm'
  have worked : exec (.driveUpdate dt g) s = .next _ :=
    (exec_driveUpdate_computing running due (by obtain here | here := driving <;> rw [here] <;> rfl)).trans
      (congrArg _ (computingUpdate_sound driving' ((congrArg Pickup.health (driveRead_pickupOf ..)).trans sound)))
  refine ⟨_, worked, requested, ?_, ?_, ?_, ?_, ?_, ?_, ?_, ?_, ?_, ?_⟩
  · rw [own, factored, loop, load, speed]
    simp only [load_eq_none, ite_not]
    rfl
  · rw [partner, driveRead_loopOf_partner]
    rfl
  · rw [blocks]
    exact evaluateClass_base _
  · rw [blocks]
    exact driveRead_selector ..
  all_goals
    rw [blocks, driveRead_eq]
    rfl

end

end Sys2Proof.Machine

/-! SUPPORT. The stall test, the phases of UNJAM and the recovery test (R27, R32, R43 to R46). -/

namespace Sys2Proof.Machine

section
variable {g : Gear} {s t : State} {inp : DriveInputs}

/-! ## Stalls (R43) -/

theorem feed_eq_zero (law : t.feedLaw) (halted : (t.loopOf g).state ≠ .run) : t.slurry.feed = 0 := by
  by_contra some
  exact halted (bothLoops_iff.mp (law some).1 g)

theorem stallTest_counts {p : Int} (load : inp.load = some p) (driven : 200 ≤ mag (s.loopOf g).ramped)
    (slow : mag inp.speed < s.classField .stallSpeed) (loaded : s.classField .pStall ≤ p)
    (short : ((s.loopOf g).stallCount : Int) + 1 < s.classField .stallCount) :
    stallTest g inp s = s.onLoop g fun l => { l with stallCount := l.stallCount + 1 } := by
  rw [stallTest, load]
  simp only
  rw [if_pos ⟨driven, slow, loaded⟩, if_neg (not_le.mpr short)]

theorem stallTest_stalls {p : Int} (load : inp.load = some p) (driven : 200 ≤ mag (s.loopOf g).ramped)
    (slow : mag inp.speed < s.classField .stallSpeed) (loaded : s.classField .pStall ≤ p)
    (full : s.classField .stallCount ≤ ((s.loopOf g).stallCount : Int) + 1) :
    stallTest g inp s = holdLoop g.partner (enterLoop g .unjam s) := by
  rw [stallTest, load]
  simp only
  rw [if_pos ⟨driven, slow, loaded⟩, if_pos full]

/-- The entry into UNJAM over a partner in RUN holds that partner, and ends the feed. -/
theorem jam_effects (driving : (s.loopOf g).state = .run ∨ (s.loopOf g).state = .held) :
    (holdLoop g.partner (enterLoop g .unjam s)).loopOf g =
        { s.loopOf g with
          state := .unjam, phase := .reverse, phaseCount := 0
          phaseLength := (s.classField .tRev).toNat, attempts := 0
          recoverCount := 0, integ := 0, ramped := 0, stallCount := 0 } ∧
      (holdLoop g.partner (enterLoop g .unjam s)).loopOf g.partner =
        (if (s.loopOf g.partner).state = .run then { s.loopOf g.partner with state := .held }
          else s.loopOf g.partner) ∧
      (holdLoop g.partner (enterLoop g .unjam s)).slurry.feed = 0 := by
  have own : (holdLoop g.partner (enterLoop g .unjam s)).loopOf g = loopEntry s .unjam (s.loopOf g) := by
    rw [holdLoop_loopOf, if_neg (fun both => Gear.partner_ne g both.1.symm), enterLoop_loopOf, if_pos rfl]
  have moved : (s.loopOf g).state ≠ .unjam := by
    obtain h | h := driving <;> rw [h] <;> exact nofun
  refine ⟨own, ?_, feed_eq_zero (g := g) ?_ (by rw [own, loopEntry_state]; exact nofun)⟩
  · rw [holdLoop_loopOf, enterLoop_loopOf, if_neg (Gear.partner_ne g)]
    simp
  · exact (LoopMoves.holdLoop ..).keeps LoopMove.feedLaw (feedLaw_of_formed (enterLoop_feed moved))

/-! ## Recovery (R46) -/

theorem recoveryMet_iff : s.recoveryMet inp = true ↔ inp.health = .ok ∧
    signOf inp.speed = signOf (signOf inp.base * s.classField .unjamSpeed) ∧
    s.classField .recoverSpeed ≤ mag inp.speed := decide_eq_true_iff

theorem unjamEnd_reverse (reverse : (s.loopOf g).phase = .reverse) : unjamEnd g inp s = advancePhase g s := by
  rw [unjamEnd]
  simp [reverse]

theorem unjamEnd_unmet (forward : (s.loopOf g).phase = .forward) (unmet : ¬ s.recoveryMet inp = true) :
    unjamEnd g inp s = advancePhase g (s.onLoop g fun l => { l with recoverCount := 0 }) := by
  rw [unjamEnd]
  simp [forward, unmet]

theorem unjamEnd_counts (forward : (s.loopOf g).phase = .forward) (met : s.recoveryMet inp = true)
    (short : ((s.loopOf g).recoverCount : Int) + 1 < s.classField .recoverUpdates) :
    unjamEnd g inp s =
      advancePhase g (s.onLoop g fun l => { l with recoverCount := l.recoverCount + 1 }) := by
  rw [unjamEnd]
  simp [forward, met, not_le.mpr short]

theorem unjamEnd_frees (forward : (s.loopOf g).phase = .forward) (met : s.recoveryMet inp = true)
    (full : s.classField .recoverUpdates ≤ ((s.loopOf g).recoverCount : Int) + 1) :
    unjamEnd g inp s = unholdLoop g.partner (enterWork g s) := by
  rw [unjamEnd]
  simp [forward, met, full]

/-- RUN or HELD from UNJAM, as the HELD causes say (R46). -/
theorem enterWork_unjam (unjam : (s.loopOf g).state = .unjam) :
    enterWork g s = formFeed (s.onLoop g fun l =>
      { l.dropUnjam with state := if s.heldCause g then .held else .run, integ := 0, stallCount := 0 }) := by
  refine (enterWork_eq (.inr unjam)).trans (congrArg formFeed (onLoop_congr ?_))
  split <;> simp [loopEntry, unjam]

theorem feedLimit_formFeed (s : State) : (formFeed s).feedLimit = s.feedLimit := rfl

/-- A loop that is released forms the feed limit anew; one that is not leaves everything. -/
theorem unholdLoop_formFeed (h : Gear) (s : State) :
    (unholdLoop h (formFeed s)).slurry = { s.slurry with feed := (unholdLoop h (formFeed s)).feedLimit } := by
  unfold unholdLoop
  split
  next held =>
    rw [enterLoop_plain (new := .run) (by rw [held.1]; exact nofun) (by rw [held.1]; exact nofun)
      (fun _ => rfl) nofun]
    rfl
  next => rfl

theorem free_effects (unjam : (s.loopOf g).state = .unjam) :
    (unholdLoop g.partner (enterWork g s)).loopOf g =
        { s.loopOf g with
          state := if (s.loopOf g.partner).state = .unjam ∨ s.orders.link = .warn then .held else .run
          integ := 0, stallCount := 0, phase := .none, phaseCount := 0, attempts := 0
          recoverCount := 0 } ∧
      (unholdLoop g.partner (enterWork g s)).loopOf g.partner =
        (if (s.loopOf g.partner).state = .held ∧ s.orders.link ≠ .warn then
          { s.loopOf g.partner with state := .run } else s.loopOf g.partner) ∧
      (unholdLoop g.partner (enterWork g s)).slurry =
        { s.slurry with feed := (unholdLoop g.partner (enterWork g s)).feedLimit } ∧
      (unholdLoop g.partner (enterWork g s)).lanes = s.lanes ∧
      (unholdLoop g.partner (enterWork g s)).path = s.path ∧
      (unholdLoop g.partner (enterWork g s)).orders = s.orders ∧
      (unholdLoop g.partner (enterWork g s)).drive.base = s.drive.base := by
  have work := enterWork_unjam unjam
  have own : (enterWork g s).loopOf g = { (s.loopOf g).dropUnjam with
      state := if s.heldCause g then .held else .run, integ := 0, stallCount := 0 } := by
    rw [work, formFeed_loopOf, State.loopOf_onLoop, if_pos rfl]
  have other : (enterWork g s).loopOf g.partner = s.loopOf g.partner := by
    rw [work, formFeed_loopOf, State.loopOf_onLoop, if_neg (Gear.partner_ne g)]
  have link : (enterWork g s).orders = s.orders := by rw [work]; rfl
  have free : (enterWork g s).heldCause g.partner = false ↔ s.orders.link ≠ .warn := by
    rw [heldCause_eq_false, link, Gear.partner_partner, State.loopStates, own]
    refine and_iff_right ?_
    dsimp only
    split <;> exact nofun
  refine ⟨?_, ?_, ?_, ?_, ?_, ?_, ?_⟩
  · rw [unholdLoop_loopOf, if_neg (fun all => Gear.partner_ne g all.1.symm), own]
    simp only [heldCause_iff]
    rfl
  · rw [unholdLoop_loopOf, other]
    simp only [true_and, free]
  · rw [work, unholdLoop_formFeed]
    rfl
  · rw [unholdLoop_lanes, work]; rfl
  · rw [unholdLoop_path, work]; rfl
  · rw [unholdLoop_orders, link]
  · rw [unholdLoop_base, work]; rfl

/-! ## The phases (R44, R45) -/

theorem advancePhase_counts (short : (s.loopOf g).phaseCount + 1 < (s.loopOf g).phaseLength) :
    advancePhase g s = s.onLoop g fun l => { l with phaseCount := l.phaseCount + 1 } := if_pos short

theorem advancePhase_reverse (full : (s.loopOf g).phaseLength ≤ (s.loopOf g).phaseCount + 1)
    (reverse : (s.loopOf g).phase = .reverse) :
    advancePhase g s = s.onLoop g (DriveLoop.startPhase .forward (s.classField .tFwd)) := by
  rw [advancePhase]
  simp [not_lt.mpr full, reverse]

theorem advancePhase_retries (full : (s.loopOf g).phaseLength ≤ (s.loopOf g).phaseCount + 1)
    (forward : (s.loopOf g).phase = .forward)
    (left : ((s.loopOf g).attempts : Int) + 1 < s.classField .unjamAttempts) :
    advancePhase g s = s.onLoop g fun l =>
      { l.startPhase .reverse (s.classField .tRev) with attempts := l.attempts + 1 } := by
  rw [advancePhase]
  simp [not_lt.mpr full, forward, left]

theorem advancePhase_jams (full : (s.loopOf g).phaseLength ≤ (s.loopOf g).phaseCount + 1)
    (forward : (s.loopOf g).phase = .forward)
    (spent : s.classField .unjamAttempts ≤ ((s.loopOf g).attempts : Int) + 1) :
    advancePhase g s = latch (.jam g) s := by
  rw [advancePhase]
  simp [not_lt.mpr full, forward, not_lt.mpr spent]

/-! ## The trip of a loop (R32) -/

theorem enterSlurryRun_requested (v : Int) (s : State) {ch : Channel} (other : ch ≠ .pump) :
    ((enterSlurryRun v s).demand ch).requested = (s.demand ch).requested := by
  have driven : ∀ t : State, ((writePump v (setOwner .pump .loop t)).demand ch).requested =
      (t.demand ch).requested := fun t => by simp [writePump, other]
  unfold enterSlurryRun
  extract_lets entered out
  have same : (out.demand ch).requested = (s.demand ch).requested := driven entered
  split
  · exact same
  · exact same

theorem agitationExit_requested (s : State) {ch : Channel} (other : ch ≠ .pump) :
    ((agitationExit s).demand ch).requested = (s.demand ch).requested := by
  unfold agitationExit
  split
  · rfl
  split
  · exact enterSlurryRun_requested _ s other
  · simp [enterFlush, writePump, other]

/-- A change of a loop's state requests nothing but of the pump. -/
theorem loopMoved_requested (g : Gear) (old : LoopState) (s : State) {ch : Channel} (other : ch ≠ .pump) :
    ((loopMoved g old s).demand ch).requested = (s.demand ch).requested := by
  unfold loopMoved
  split
  · rfl
  split
  · exact agitationExit_requested (startHoldDelay s) other
  split <;> rfl

/-- An entry of a loop requests nothing but of its own valve and of the pump. -/
theorem enterLoop_requested (new : LoopState) (s : State) {ch : Channel} (valve : ch ≠ .valve g)
    (pump : ch ≠ .pump) : ((enterLoop g new s).demand ch).requested = (s.demand ch).requested := by
  have entered : ((valveEntry g new (s.onLoop g (loopEntry s new))).demand ch).requested =
      (s.demand ch).requested := by
    cases new <;> simp [valveEntry, valve]
  rw [enterLoop, loopMoved_requested _ _ _ pump, entered]

theorem enterLoop_tripped_requested (g : Gear) (s : State) :
    ((enterLoop g .tripped s).demand (.valve g)).requested = 0 := by
  rw [enterLoop, loopMoved_requested (ch := .valve g) _ _ _ nofun]
  simp [valveEntry]

theorem stopLoop_requested (s : State) {ch : Channel} (valve : ch ≠ .valve g) (pump : ch ≠ .pump) :
    ((stopLoop g s).demand ch).requested = (s.demand ch).requested := by
  have entry : ∀ new t, ((enterLoop g new t).demand ch).requested = (t.demand ch).requested :=
    fun new t => enterLoop_requested new t valve pump
  have stopping : ((enterStopping g s).demand ch).requested = (s.demand ch).requested := by
    unfold enterStopping
    dsimp only
    split
    · rw [entry, entry]
    · rw [entry]
  unfold stopLoop
  split
  · rw [entry]
  iterate 4 exact stopping
  all_goals rfl

/-- A trip of a loop: it enters TRIPPED with its valve channel at 0, and its partner is stopped (R32). -/
theorem tripLoop_effects (g : Gear) (s : State) :
    (stopLoop g.partner (enterLoop g .tripped s)).loopOf g = loopEntry s .tripped (s.loopOf g) ∧
      ((stopLoop g.partner (enterLoop g .tripped s)).demand (.valve g)).requested = 0 ∧
      ((stopLoop g.partner (enterLoop g .tripped s)).loopOf g.partner).state = s.stopOutcome g.partner := by
  refine ⟨?_, ?_, ?_⟩
  · have kept := stopLoop_partner g.partner (enterLoop g .tripped s)
    rw [Gear.partner_partner] at kept
    rw [kept, enterLoop_loopOf, if_pos rfl]
  · have other : Channel.valve g ≠ .valve g.partner := fun same =>
      Gear.partner_ne g (Channel.valve.inj same).symm
    rw [stopLoop_requested _ other nofun, enterLoop_tripped_requested]
  · rw [stopLoop_state]
    unfold State.stopOutcome
    rw [enterLoop_loopOf, if_neg (Gear.partner_ne g), enterLoop_pickupOf]

/-- R31, R45: a latch of a trip of one loop. -/
theorem latch_loop_effects {k : TripKind} (own : k = .jam g ∨ k = .overpressure g) (s : State) :
    (latch k s).loopOf g = loopEntry s .tripped (s.loopOf g) ∧
      ((latch k s).demand (.valve g)).requested = 0 ∧
      ((latch k s).loopOf g.partner).state = s.stopOutcome g.partner := by
  have acted : latch k s =
      sendReport .urgent (stopLoop g.partner (enterLoop g .tripped (enterKind k s))) := by
    rw [latch_eq_enterKind]
    obtain rfl | rfl := own <;> rfl
  obtain ⟨loop, requested, partner⟩ := tripLoop_effects g (enterKind k s)
  rw [acted, sendReport_loopOf, sendReport_loopOf]
  exact ⟨loop, by rw [State.demand, sendReport_lanes]; exact requested, partner⟩

/-- Settles O21: each outcome of the stall test, of the recovery test and of the phase count. -/
theorem stallAndUnjam : Obligations.StallAndUnjam := by
  refine ⟨fun g inp s driving => ?stall, fun g inp s met unjam hmet => ?recovery, fun g s unjam => ?phase⟩
  case stall =>
    simp only [List.mem_cons, List.not_mem_nil, or_false] at driving
    refine ⟨stallTest_absent, fun p load clear => stallTest_clear load clear,
      fun p load driven slow loaded => ⟨stallTest_counts load driven slow loaded, fun full => ?_⟩⟩
    rw [stallTest_stalls load driven slow loaded full]
    exact jam_effects driving
  case recovery =>
    replace hmet := hmet.trans recoveryMet_iff.symm
    refine ⟨unjamEnd_reverse, fun forward => ⟨fun unmet => unjamEnd_unmet forward (mt hmet.mpr unmet),
      fun recovers short => unjamEnd_counts forward (hmet.mp recovers) short, fun recovers full => ?_⟩⟩
    rw [unjamEnd_frees forward (hmet.mp recovers) full]
    exact free_effects unjam
  case phase =>
    refine ⟨advancePhase_counts, advancePhase_reverse, advancePhase_retries, fun full forward spent => ?_⟩
    rw [advancePhase_jams full forward spent]
    obtain ⟨loop, requested, partner⟩ := latch_loop_effects (k := .jam g) (.inl rfl) s
    rw [loop]
    exact ⟨(latch_latched ..).mpr (.inl rfl), rfl, rfl, rfl, rfl, requested, partner⟩

end

end Sys2Proof.Machine

/-! SUPPORT. The orders that start, stop and hand over the drive loops (R23, R25, R29, R30, R109, R111). -/

namespace Sys2Proof.Machine

section
variable {dt : Nat} {g : Gear} {new : LoopState} {s u v : State}

/-! ## A departure from STOPPED (R109, R111) -/

/-- The end of an agitation over a loop that has left STOPPED (R111). -/
theorem agitationExit_slurry (away : s.bothLoops .stopped = false) : (agitationExit s).slurry =
    if s.slurry.state ≠ .agitate then s.slurry
    else if s.slurry.phase = .burst then
      { s.slurry with
        state := .run, output := s.setting .circDemand, integ := s.setting .circDemand
        suctionCount := 0, detectCount := 0, dwellCount := 0, phase := .none, phaseTimer := .idle }
    else
      { s.slurry with
        state := .flush, output := s.setting .circDemand, phase := .none
        phaseTimer := s.startSec .flushTime } := by
  unfold agitationExit
  split
  · rfl
  split
  · rw [enterSlurryRun_slurry, away]
    rfl
  · rw [enterFlush_slurry]

theorem enterSlurryRun_pump (v : Int) (s : State) :
    ((enterSlurryRun v s).demand .pump).requested = v ∧ ((enterSlurryRun v s).demand .pump).owner = .loop := by
  refine ⟨?_, by rw [enterSlurryRun_owner, if_pos rfl]⟩
  have driven : ∀ t : State, ((writePump v (setOwner .pump .loop t)).demand .pump).requested = v :=
    fun t => by simp [writePump]
  unfold enterSlurryRun
  extract_lets entered out
  split <;> exact driven entered

theorem agitationExit_pump (s : State) :
    ((agitationExit s).demand .pump).requested =
        (if s.slurry.state = .agitate then s.setting .circDemand else (s.demand .pump).requested) ∧
      ((agitationExit s).demand .pump).owner =
        (if s.slurry.state = .agitate ∧ s.slurry.phase = .burst then .loop else (s.demand .pump).owner) := by
  unfold agitationExit
  by_cases agitates : s.slurry.state = .agitate
  · by_cases burst : s.slurry.phase = .burst
    · simp [agitates, burst, enterSlurryRun_pump]
    · simp [agitates, burst, enterFlush, writePump]
  · simp [agitates]

/-- A loop that leaves STOPPED restarts the hold delay, ends an agitation and ends the feed. -/
theorem loopMoved_departs (away : (s.loopOf g).state ≠ .stopped) (idle : (s.loopOf g).state ≠ .run) :
    (loopMoved g .stopped s).slurry = s.slurryAfterDeparture ∧
      ((loopMoved g .stopped s).demand .pump).requested = s.pumpAfterDeparture ∧
      ((loopMoved g .stopped s).demand .pump).owner =
        (if s.slurry.state = .agitate ∧ s.slurry.phase = .burst then .loop else (s.demand .pump).owner) := by
  have both : (startHoldDelay s).bothLoops .stopped = false :=
    Bool.eq_false_iff.mpr fun both => away (bothLoops_iff.mp both g)
  have halted : ((agitationExit (startHoldDelay s)).loopOf g).state ≠ .run := by
    rw [agitationExit_loopOf]
    exact idle
  obtain ⟨requested, owner⟩ := agitationExit_pump (startHoldDelay s)
  unfold loopMoved
  rw [if_neg away, if_pos rfl]
  refine ⟨?_, requested, owner⟩
  rw [formFeed_slurry, feedLimit_of_not_run halted, agitationExit_slurry both]
  unfold State.slurryAfterDeparture
  by_cases agitates : s.slurry.state = .agitate
  · by_cases burst : s.slurry.phase = .burst
    · simp [agitates, burst]
      rfl
    · simp [agitates, burst]
      exact ⟨rfl, rfl⟩
  · simp [agitates]
    rfl

/-- A loop that leaves STOPPED, from the state before. -/
theorem departs (stopped : (s.loopOf g).state = .stopped) (leaves : new = .armed ∨ new = .manual) :
    (enterLoop g new s).slurry = s.slurryAfterDeparture ∧
      ((enterLoop g new s).demand .pump).requested = s.pumpAfterDeparture ∧
      ((enterLoop g new s).demand .pump).owner =
        (if s.slurry.state = .agitate ∧ s.slurry.phase = .burst then .loop else (s.demand .pump).owner) := by
  have entered : ((valveEntry g new (s.onLoop g (loopEntry s new))).loopOf g).state = new := by
    rw [valveEntry_loopOf, State.loopOf_onLoop, if_pos rfl, loopEntry_state]
  have pump : ((valveEntry g new (s.onLoop g (loopEntry s new))).demand .pump).requested =
      (s.demand .pump).requested := by
    obtain rfl | rfl := leaves <;> simp [valveEntry]
  have owner : ((valveEntry g new (s.onLoop g (loopEntry s new))).demand .pump).owner =
      (s.demand .pump).owner := by
    rw [valveEntry_owner, if_neg (by simp), if_neg (by simp)]
    rfl
  obtain ⟨flow, requested, owned⟩ := loopMoved_departs
    (s := valveEntry g new (s.onLoop g (loopEntry s new))) (g := g)
    (by rw [entered]; obtain rfl | rfl := leaves <;> exact nofun)
    (by rw [entered]; obtain rfl | rfl := leaves <;> exact nofun)
  rw [enterLoop, stopped]
  refine ⟨flow.trans ?_, requested.trans ?_, owned.trans ?_⟩
  · unfold State.slurryAfterDeparture
    rw [valveEntry_slurry, valveEntry_setting, valveEntry_setting, valveEntry_setting, valveEntry_now]
    rfl
  · unfold State.pumpAfterDeparture
    rw [valveEntry_slurry, valveEntry_setting, pump]
    rfl
  · rw [valveEntry_slurry, owner]
    rfl

theorem slurryAfterDeparture_not_agitate (s : State) : s.slurryAfterDeparture.state ≠ .agitate := by
  unfold State.slurryAfterDeparture
  split
  next other => exact other
  next => split <;> exact nofun

/-- A departure whose agitation has ended before restarts the same hold delay. -/
theorem slurryAfterDeparture_twice (flow : v.slurry = u.slurryAfterDeparture) (settings : v.settings = u.settings)
    (now : v.now = u.now) : v.slurryAfterDeparture = u.slurryAfterDeparture := by
  have other : v.slurry.state ≠ .agitate := flow ▸ slurryAfterDeparture_not_agitate u
  rw [State.slurryAfterDeparture, if_pos other, flow, now]
  unfold State.slurryAfterDeparture State.setting
  rw [settings]
  split
  · rfl
  · split <;> rfl

/-! ## DRIVE_START (R23) -/

theorem exec_driveStart {r : Result} (orders : s.takesOrders) (h : startDrives (s.afterLink dt) = (r, v)) :
    exec (.driveStart dt []) s = .next (replyOrder 2 r v) := by
  have taken : exec (.driveStart dt []) s = .next (replyOrder 2
      (startDrives (s.afterLink dt)).1 (startDrives (s.afterLink dt)).2) := arrival_taken orders rfl
  rw [taken, h]

theorem bothLoops_eq_false {x : LoopState} :
    s.bothLoops x = false ↔ (s.loopOf .g1).state ≠ x ∨ (s.loopOf .g2).state ≠ x := by
  rw [State.bothLoops, decide_eq_false_iff_not, not_and_or]

theorem startDrives_taken (clear : driveStartTrips.any u.latched = false) (up : (u.laneOf .drive).state = .up)
    (one : (u.loopOf .g1).state = .stopped) (two : (u.loopOf .g2).state = .stopped) :
    startDrives u = (.ok, enterLoop .g2 .armed (enterLoop .g1 .armed u)) := by
  have both : u.bothLoops .stopped = true := decide_eq_true ⟨one, two⟩
  simp [startDrives, clear, up, both]

/-- Settles O24: the refusals in their order, and the two departures of a start that is taken. -/
theorem driveStartArmsBothLoops : Obligations.DriveStartArmsBothLoops := by
  rintro dt s u orders rfl
  refine ⟨fun tripped => exec_driveStart orders (if_pos tripped),
    fun clear down => exec_driveStart orders ?_, fun clear up moving => exec_driveStart orders ?_,
    fun clear up one two => ⟨_, exec_driveStart orders (startDrives_taken clear up one two), ?_⟩⟩
  · simp [startDrives, clear, down]
  · simp [startDrives, clear, up, bothLoops_eq_false.mpr moving]
  obtain ⟨flow, pump, owner⟩ := departs (s := s.afterLink dt) one (.inl rfl)
  have second : ((enterLoop .g1 .armed (s.afterLink dt)).loopOf .g2).state = .stopped := by
    rw [enterLoop_loopOf, if_neg nofun, two]
  have ended := flow ▸ slurryAfterDeparture_not_agitate (s.afterLink dt)
  obtain ⟨flow', pump', owner'⟩ := departs second (.inl rfl)
  refine ⟨fun h => ?_, ?_, ?_, ?_, ?_, ?_, ?_, ?_, ?_, ?_, ?_⟩
  · cases h
    · rw [enterLoop_loopOf, if_neg nofun, enterLoop_loopOf, if_pos rfl]; rfl
    · rw [enterLoop_loopOf, if_pos rfl, enterLoop_loopOf, if_neg nofun]; rfl
  · rw [enterLoop_drive, enterLoop_drive]
  · rw [flow', slurryAfterDeparture_twice flow (enterLoop_settings ..) (enterLoop_now ..)]
  · rw [pump', State.pumpAfterDeparture, if_neg ended, pump]
  · rw [owner', if_neg fun both => ended both.1, owner]
  all_goals simp

/-! ## DRIVE_STOP (R25, R29) -/

theorem stopLoop_resting (rest : (s.loopOf g).state ∈ [LoopState.stopped, .stopping, .manual, .tripped]) :
    stopLoop g s = s := by
  simp only [List.mem_cons, List.not_mem_nil, or_false] at rest
  unfold stopLoop
  obtain h | h | h | h := rest <;> rw [h]

theorem stopLoop_running (run : (s.loopOf g).state.running = true) : stopLoop g s = enterStopping g s := by
  unfold stopLoop
  revert run
  cases (s.loopOf g).state <;> simp [LoopState.running]

/-- A running loop with a sound pickup stops with its target and its integrator (R25). -/
theorem stopLoop_sound (run : (s.loopOf g).state.running = true) (sound : (s.pickupOf g).health = .ok) :
    stopLoop g s = enterLoop g .stopping s := by
  rw [stopLoop_running run, enterStopping, if_neg]
  rw [enterLoop_pickupOf, sound]
  exact nofun

theorem exec_driveStop (orders : s.takesOrders) :
    exec (.driveStop dt []) s = .next (replyOrder 3 .ok (stopBoth (s.afterLink dt))) :=
  arrival_taken (code := 3) orders rfl

/-- What DRIVE_STOP does to a loop that it stops first, or second after the other. -/
theorem stopBoth_loopOf (s : State) (h : Gear) : ∃ t, (stopBoth s).loopOf h = (stopLoop h t).loopOf h ∧
    t.loopOf h = s.loopOf h ∧ t.pickup = s.pickup := by
  cases h with
  | g1 => exact ⟨s, stopLoop_partner .g2 _, rfl, rfl⟩
  | g2 => exact ⟨stopLoop .g1 s, rfl, stopLoop_partner .g1 s, stopLoop_pickup ..⟩

/-- Settles O25: each loop is stopped from the state that it is in, which the other's stop leaves. -/
theorem driveStopStopsLoops : Obligations.DriveStopStopsLoops := by
  rintro dt s u orders rfl
  refine ⟨_, exec_driveStop orders, fun h => ⟨stopBoth_state .., fun run sound => ?_, fun rest => ?_⟩, ?_, ?_,
    ?_, ?_, ?_, ?_, ?_, ?_⟩
  · obtain ⟨t, stops, loop, pickup⟩ := stopBoth_loopOf (s.afterLink dt) h
    rw [← loop] at run
    rw [State.pickupOf, ← pickup] at sound
    rw [stops, stopLoop_sound run sound, enterLoop_loopOf, if_pos rfl, loop]
    rfl
  · obtain ⟨t, stops, loop, pickup⟩ := stopBoth_loopOf (s.afterLink dt) h
    rw [← loop] at rest
    rw [stops, stopLoop_resting rest, loop]
  all_goals simp

/-! ## MODE naming a gearbox (R30) -/

theorem exec_modeGearbox {w : Word} {r : Result} (orders : s.takesOrders)
    (h : modeGearbox g w (s.afterLink dt) = (r, v)) :
    exec (.modeGearbox dt g [w]) s = .next (replyOrder 6 r v) := by
  have taken : exec (.modeGearbox dt g [w]) s = .next (replyOrder 6
      (modeGearbox g w (s.afterLink dt)).1 (modeGearbox g w (s.afterLink dt)).2) :=
    arrival_taken orders rfl
  rw [taken, h]

section
variable {w : Word}

theorem modeGearbox_other (auto : w.toInt ≠ 1) (manual : w.toInt ≠ 2) : modeGearbox g w s = (.badArg, s) := by
  unfold modeGearbox
  by_cases off : w.toInt = 0
  · rw [modeOf_off off]
  · rw [modeOf_other off auto manual]

theorem modeGearbox_manual (word : w.toInt = 2) : modeGearbox g w s =
    if (s.loopOf g).state = .stopped then (.ok, enterLoop g .manual s)
    else if (s.loopOf g).state = .manual then (.ok, s)
    else (.busy, s) := by
  rw [modeGearbox, modeOf_manual word]

theorem modeGearbox_auto (word : w.toInt = 1) : modeGearbox g w s =
    if (s.loopOf g).state = .manual then (.ok, enterLoop g .stopped s) else (.ok, s) := by
  rw [modeGearbox, modeOf_auto word]

end

/-- The entry into MANUAL hands the valve channel to the operator with a requested value of 0. -/
theorem enterLoop_manual_valve (g : Gear) (s : State) :
    ((enterLoop g .manual s).demand (.valve g)).owner = .operator ∧
      ((enterLoop g .manual s).demand (.valve g)).requested = 0 := by
  refine ⟨?_, ?_⟩
  · rw [enterLoop_owner _ _ _ (.valve g) nofun, valveEntry_owner, if_neg (by simp), if_pos (by simp)]
  · rw [enterLoop, loopMoved_requested (ch := .valve g) _ _ _ nofun]
    simp [valveEntry]

/-- A return to STOPPED leaves the pump channel. -/
theorem enterLoop_stopped_pump (moves : (s.loopOf g).state ≠ .stopped) :
    ((enterLoop g .stopped s).demand .pump).requested = (s.demand .pump).requested ∧
      ((enterLoop g .stopped s).demand .pump).owner = (s.demand .pump).owner := by
  rw [enterLoop_stopped_demand moves]
  refine ⟨?_, ?_⟩
  · simp [valveEntry]
  · rw [valveEntry_owner, if_neg (by simp), if_neg (by simp)]
    rfl

/-- Settles O27: the refusals and the states that a mode leaves, the departure and the return. -/
theorem modeGearboxTable : Obligations.ModeGearboxTable := by
  rintro dt g w s u orders rfl
  refine ⟨fun auto manual => exec_modeGearbox orders (modeGearbox_other auto manual),
    fun word state => exec_modeGearbox orders ?_, fun word manual stopped => exec_modeGearbox orders ?_,
    fun word state => exec_modeGearbox orders ?_,
    fun word state => ⟨_, exec_modeGearbox orders ((modeGearbox_manual word).trans (if_pos state)), ?_⟩,
    fun word state => ⟨_, exec_modeGearbox orders ((modeGearbox_auto word).trans (if_pos state)), ?_⟩⟩
  · rw [modeGearbox_manual word, if_neg (by rw [state]; exact nofun), if_pos state]
  · rw [modeGearbox_manual word, if_neg stopped, if_neg manual]
  · rw [modeGearbox_auto word, if_neg state]
  · obtain ⟨flow, pump, owner⟩ := departs state (.inr rfl)
    obtain ⟨operator, zero⟩ := enterLoop_manual_valve g (s.afterLink dt)
    refine ⟨?_, ?_, operator, zero, flow, pump, owner, ?_, ?_, ?_, ?_, ?_, ?_, ?_⟩
    · rw [enterLoop_loopOf, if_pos rfl]; rfl
    · rw [enterLoop_loopOf, if_neg (Gear.partner_ne g)]
    all_goals simp
  · have moves : ((s.afterLink dt).loopOf g).state ≠ .stopped := by rw [state]; exact nofun
    obtain ⟨loop, other, base, zero, owner, flow, selector, pickup, survey, steering, orders⟩ :=
      stops_from (w := s.afterLink dt) rfl rfl rfl moves
    obtain ⟨requested, owned⟩ := enterLoop_stopped_pump moves
    refine ⟨?_, ?_, ?_, other, owner, zero, flow, requested, owned, base, pickup, selector, survey, steering,
      orders, enterLoop_settings ..⟩ <;> rw [loop]

end

end Sys2Proof.Machine

/-! SUPPORT. The overpressure test (R31, R32, R155). -/

namespace Sys2Proof.Machine

section
variable {g : Gear} {s t : State}

/-! ## The counts (R31) -/

/-- What the statement asks of the count of a loop. -/
theorem pressureCount_eq {n : Nat}
    (rest : (s.loopOf g).state ∈ [LoopState.stopped, .tripped] → n = (s.loopOf g).overCount)
    (works : (s.loopOf g).state ∉ [LoopState.stopped, .tripped] →
      (s.pressure g = none → n = (s.loopOf g).overCount) ∧
      ∀ p, s.pressure g = some p → (p < s.classField .pTrip → n = 0) ∧
        (s.classField .pTrip ≤ p → n = (s.loopOf g).overCount + 1)) : s.pressureCount g = n := by
  unfold State.pressureCount
  by_cases counts : (s.loopOf g).state ∈ [LoopState.stopped, .tripped]
  · rw [rest counts, if_pos]
    simpa [State.countsPressure, or_iff_not_imp_left] using counts
  · obtain ⟨absent, present⟩ := works counts
    rw [if_neg (by simpa [State.countsPressure] using counts)]
    unfold State.overPressure
    cases pressure : s.pressure g with
    | none => simp [absent pressure]
    | some p =>
      obtain ⟨below, above⟩ := present p pressure
      obtain low | high := lt_or_ge p (s.classField .pTrip)
      · simp [below low, not_le.mpr low]
      · simp [above high, high]

theorem countsPressure_iff : s.countsPressure g = true ↔ (s.loopOf g).state ∉ [LoopState.stopped, .tripped] := by
  simp [State.countsPressure]

theorem overPressure_iff : s.overPressure g = true ↔ ∃ p, s.pressure g = some p ∧ s.classField .pTrip ≤ p := by
  unfold State.overPressure
  cases s.pressure g <;> simp

theorem willTrip_iff : s.willTrip g = true ↔ (s.loopOf g).state ∉ [LoopState.stopped, .tripped] ∧
    5 ≤ s.pressureCount g ∧ ∃ p, s.pressure g = some p ∧ s.classField .pTrip ≤ p := by
  rw [← overPressure_iff, ← countsPressure_iff, State.willTrip]
  simp only [Bool.and_eq_true, decide_eq_true_eq]
  constructor
  · rintro ⟨⟨counts, above⟩, five⟩
    exact ⟨counts, by simpa [State.pressureCount, counts, above] using five, above⟩
  · rintro ⟨counts, five, above⟩
    exact ⟨⟨counts, above⟩, by simpa [State.pressureCount, counts, above] using five⟩

/-! ## The latch of one loop's overpressure -/

theorem latch_overpressure_eq (g : Gear) (s : State) : latch (.overpressure g) s =
    sendReport .urgent (stopLoop g.partner (enterLoop g .tripped (enterKind (.overpressure g) s))) :=
  latch_eq_enterKind ..

/-- What a latch of a loop's overpressure leaves of the blocks. -/
theorem latch_overpressure_frame (g : Gear) (s : State) :
    (latch (.overpressure g) s).pickup = s.pickup ∧ (latch (.overpressure g) s).selector = s.selector ∧
      (latch (.overpressure g) s).survey = s.survey ∧ (latch (.overpressure g) s).steering = s.steering ∧
      (latch (.overpressure g) s).settings = s.settings ∧
      (latch (.overpressure g) s).drive.base = s.drive.base ∧
      (latch (.overpressure g) s).orders.link = s.orders.link := by
  rw [latch_overpressure_eq]
  simp [enterKind]

/-- After a loop's trip the feed limit is 0. -/
theorem latch_overpressure_feed (moves : (s.loopOf g).state ≠ .tripped) :
    (latch (.overpressure g) s).feedLaw := by
  rw [latch_overpressure_eq]
  refine feedLaw_congr (s := stopLoop g.partner (enterLoop g .tripped (enterKind (.overpressure g) s))) ?_
    (funext fun h => by rw [State.loopStates, sendReport_loopOf]; rfl) (by rw [sendReport_slurry])
    (by rw [sendReport_orders])
  exact (LoopMoves.stopLoop ..).keeps LoopMove.feedLaw (feedLaw_of_formed (enterLoop_feed moves))

theorem latch_overpressure_keeps_feedLaw (g : Gear) (law : s.feedLaw) :
    (latch (.overpressure g) s).feedLaw := by
  rw [latch_overpressure_eq]
  refine feedLaw_congr (s := stopLoop g.partner (enterLoop g .tripped (enterKind (.overpressure g) s))) ?_
    (funext fun h => by rw [State.loopStates, sendReport_loopOf]; rfl) (by rw [sendReport_slurry])
    (by rw [sendReport_orders])
  have tripped : (enterLoop g .tripped (enterKind (.overpressure g) s)).feedLaw :=
    (LoopMoves.trip ..).keeps LoopMove.feedLaw (feedLaw_congr law rfl rfl rfl)
  exact (LoopMoves.stopLoop ..).keeps LoopMove.feedLaw tripped

/-- A loop that already stands in TRIPPED is left there by the trip of its partner. -/
theorem latch_overpressure_partner (tripped : (s.loopOf g.partner).state = .tripped) :
    (latch (.overpressure g) s).loopOf g.partner = s.loopOf g.partner ∧
      ((latch (.overpressure g) s).demand (.valve g.partner)).requested =
        (s.demand (.valve g.partner)).requested := by
  have other : Channel.valve g.partner ≠ .valve g := fun same => Gear.partner_ne g (Channel.valve.inj same)
  have loop : (enterLoop g .tripped (enterKind (.overpressure g) s)).loopOf g.partner = s.loopOf g.partner :=
    (enterLoop_loopOf ..).trans (if_neg (Gear.partner_ne g))
  rw [latch_overpressure_eq, stopLoop_resting (by rw [loop, tripped]; decide), sendReport_loopOf, loop]
  refine ⟨rfl, ?_⟩
  rw [State.demand, sendReport_lanes]
  exact enterLoop_requested .tripped (enterKind (.overpressure g) s) other nofun

/-- What the statement asks of a loop that trips. -/
structure TrippedOut (t : State) (g : Gear) : Prop where
  state : (t.loopOf g).state = .tripped
  overCount : (t.loopOf g).overCount = 0
  integ : (t.loopOf g).integ = 0
  ramped : (t.loopOf g).ramped = 0
  requested : (t.demand (.valve g)).requested = 0
  latched : t.latched (.overpressure g) = true

theorem TrippedOut.of_latch (g : Gear) (s : State) : TrippedOut (latch (.overpressure g) s) g := by
  obtain ⟨loop, requested, -⟩ := latch_loop_effects (k := .overpressure g) (.inr rfl) s
  refine ⟨?_, ?_, ?_, ?_, requested, (latch_latched ..).mpr (.inl rfl)⟩ <;> rw [loop] <;> rfl

/-- A loop that has tripped stays so when its partner does. -/
theorem TrippedOut.partner (out : TrippedOut s g.partner) :
    TrippedOut (latch (.overpressure g) s) g.partner := by
  obtain ⟨loop, requested⟩ := latch_overpressure_partner out.state
  refine ⟨?_, ?_, ?_, ?_, requested.trans out.requested, (latch_latched ..).mpr (.inr out.latched)⟩ <;> rw [loop]
  · exact out.state
  · exact out.overCount
  · exact out.integ
  · exact out.ramped

/-- The count of a loop that is stopped but not at rest is kept. -/
theorem stopLoop_overCount (moves : s.stopOutcome g ≠ .stopped) :
    ((stopLoop g s).loopOf g).overCount = (s.loopOf g).overCount := by
  by_cases run : (s.loopOf g).state.running = true
  · cases health : (s.pickupOf g).health with
    | ok =>
      rw [stopLoop_sound run health, enterLoop_loopOf, if_pos rfl]
      rfl
    | fault =>
      refine absurd ?_ moves
      unfold State.stopOutcome
      revert run
      cases (s.loopOf g).state <;> simp [LoopState.running, health]
  · rw [stopLoop_resting]
    revert run moves
    unfold State.stopOutcome
    cases (s.loopOf g).state <;> simp [LoopState.running]

/-- A trip of one loop alone: its partner is stopped and the slurry loop left (R32). -/
theorem latch_overpressure_alone (works : (s.loopOf g).state ≠ .stopped) :
    (s.stopOutcome g.partner ≠ .stopped →
      ((latch (.overpressure g) s).loopOf g.partner).overCount = (s.loopOf g.partner).overCount) ∧
    (latch (.overpressure g) s).slurry.state = s.slurry.state := by
  have loop : (enterLoop g .tripped (enterKind (.overpressure g) s)).loopOf g.partner = s.loopOf g.partner :=
    (enterLoop_loopOf ..).trans (if_neg (Gear.partner_ne g))
  have outcome : (enterLoop g .tripped (enterKind (.overpressure g) s)).stopOutcome g.partner =
      s.stopOutcome g.partner := by
    unfold State.stopOutcome
    rw [loop, enterLoop_pickupOf]
    rfl
  rw [latch_overpressure_eq, sendReport_loopOf, sendReport_slurry]
  refine ⟨fun moves => ?_, ?_⟩
  · rw [stopLoop_overCount (by rwa [outcome]), loop]
  · rw [stopLoop_slurryState, enterLoop_slurryState, if_neg fun departs => works departs.1]
    rfl

/-! ## The statement -/

theorem countPressures_stopOutcome (s : State) (g : Gear) : (countPressures s).stopOutcome g = s.stopOutcome g := by
  unfold State.stopOutcome
  rw [loopOf_countPressures]
  rfl

theorem loopOf_countPressures_state (s : State) (g : Gear) :
    ((countPressures s).loopOf g).state = (s.loopOf g).state := by rw [loopOf_countPressures]

/-- Both loops trip at one sample, the partner of `g` first. -/
theorem latch_both (g : Gear) (s : State) (moves : (s.loopOf g.partner).state ≠ .tripped) :
    (∀ h, TrippedOut (latch (.overpressure g) (latch (.overpressure g.partner) s)) h) ∧
      (latch (.overpressure g) (latch (.overpressure g.partner) s)).slurry.feed = 0 ∧
      (∀ k, (latch (.overpressure g) (latch (.overpressure g.partner) s)).latched k = true ↔
        k = .overpressure .g1 ∨ k = .overpressure .g2 ∨ s.latched k = true) ∧
      (latch (.overpressure g) (latch (.overpressure g.partner) s)).orders.record =
        if s.orders.trips = [] then some (s.tripRecord (.overpressure g.partner)) else s.orders.record := by
  have out : ∀ h, TrippedOut (latch (.overpressure g) (latch (.overpressure g.partner) s)) h := fun h => by
    obtain rfl | rfl := Gear.eq_or_partner g h
    · exact .of_latch ..
    · exact (TrippedOut.of_latch g.partner s).partner
  refine ⟨out, feed_eq_zero (g := g) ?_ (by rw [(out g).state]; exact nofun), fun k => ?_, ?_⟩
  · exact latch_overpressure_keeps_feedLaw g (latch_overpressure_feed moves)
  · rw [latch_latched, latch_latched]
    cases g
    · exact Iff.rfl
    · exact or_left_comm
  · rw [latch_orders, latch_orders]
    exact if_neg (insertKind_ne_nil _ _)

/-- Settles O28: no request, one, or both in one of the two orders. -/
theorem overpressureTripsAtFive : Obligations.OverpressureTripsAtFive := by
  rintro s t count trips rfl counts trip
  have counted : ∀ g, s.pressureCount g = count g := fun g => pressureCount_eq (counts g).1 (counts g).2
  have will : ∀ g, trips g ↔ s.willTrip g = true := fun g => by rw [trip, willTrip_iff, counted]
  simp only [will]
  clear trip counts will
  obtain ⟨one, two, same⟩ | ⟨g, this, other, same⟩ | ⟨one, two, g, same⟩ := overpressureTest_cases s
  · have none : ∀ g, ¬ s.willTrip g = true := fun g => by cases g <;> simp [one, two]
    rw [same]
    refine ⟨⟨rfl, rfl, rfl, rfl, rfl, rfl, rfl⟩, fun _ => ⟨fun g => ?_, rfl⟩, fun g this => absurd this (none g),
      fun g this => absurd this (none g), fun this => absurd this (none .g1)⟩
    rw [loopOf_countPressures, counted]
  · have only : ∀ h, s.willTrip h = true → h = g := fun h here => by
      obtain rfl | rfl := Gear.eq_or_partner g h
      · rfl
      · rw [other] at here; cases here
    obtain ⟨works, -⟩ := willTrip_iff.mp this
    simp only [List.mem_cons, List.not_mem_nil, or_false, not_or] at works
    rw [← loopOf_countPressures_state] at works
    obtain ⟨-, -, partner⟩ := latch_loop_effects (k := .overpressure g) (.inr rfl) (countPressures s)
    obtain ⟨kept, slurry⟩ := latch_overpressure_alone (s := countPressures s) works.1
    have out := TrippedOut.of_latch g (countPressures s)
    rw [countPressures_stopOutcome] at partner kept
    rw [same]
    refine ⟨latch_overpressure_frame g (countPressures s), fun none => absurd this (none g),
      fun h here => ?_, fun h here _ => ?_, fun one two => ?_⟩
    · obtain rfl := only h here
      refine ⟨out.state, out.overCount, out.integ, out.ramped, out.requested, out.latched,
        feed_eq_zero (latch_overpressure_feed works.2) (by rw [out.state]; exact nofun), fun some => ?_⟩
      rw [latch_orders]
      exact if_neg some
    · obtain rfl := only h here
      refine ⟨partner, fun moves => ?_, fun k => latch_latched .., fun empty =>
        ⟨(countPressures s).tripRecord (.overpressure h), ?_, rfl⟩, slurry⟩
      · rw [kept moves, loopOf_countPressures, counted]
      · rw [latch_orders]
        exact if_pos empty
    · cases (only _ one).trans (only _ two).symm
  · have both : ∀ h, s.willTrip h = true := fun h => by cases h <;> assumption
    have works : ((countPressures s).loopOf g.partner).state ≠ .tripped := by
      obtain ⟨works, -⟩ := willTrip_iff.mp (both g.partner)
      simp only [List.mem_cons, List.not_mem_nil, or_false, not_or] at works
      rw [loopOf_countPressures]
      exact works.2
    obtain ⟨out, feed, latched, record⟩ :=
      latch_both g { countPressures s with draws := (countPressures s).draws + 1 } works
    rw [same]
    refine ⟨?_, fun none => absurd (both g) (none g), fun h _ => ?_, fun h _ alone => absurd (both _) alone,
      fun _ _ => ⟨latched, fun empty => ⟨g.partner, _, record.trans (if_pos empty), rfl⟩⟩⟩
    · obtain ⟨pickup, selector, survey, steering, settings, base, link⟩ := latch_overpressure_frame g
        (latch (.overpressure g.partner) { countPressures s with draws := (countPressures s).draws + 1 })
      obtain ⟨pickup', selector', survey', steering', settings', base', link'⟩ := latch_overpressure_frame
        g.partner { countPressures s with draws := (countPressures s).draws + 1 }
      exact ⟨pickup.trans pickup', selector.trans selector', survey.trans survey', steering.trans steering',
        settings.trans settings', base.trans base', link.trans link'⟩
    · have out := out h
      exact ⟨out.state, out.overCount, out.integ, out.ramped, out.requested, out.latched, feed,
        fun some => record.trans (if_neg some)⟩

end

end Sys2Proof.Machine

/-! SUPPORT. DEPTH frames, panels and spacings (R66 to R70, R72, R76). -/

namespace Sys2Proof.Machine

section
variable {dt : Nat} {s u : State} {v : Survey}

/-! ## The recording test settles (R72) -/

theorem recordPasses_succ (m : Means) (fuel : Nat) (first : Bool) (v : Survey) :
    recordPasses m (fuel + 1) first v =
      if v.reached = false then v
      else if v.exhausted then { v with state := .full }
      else if (recordNext m first v).exhausted then { recordNext m first v with state := .full }
      else recordPasses m fuel false (recordNext m first v) := rfl

/-- With fuel for every station that the table still takes, the passes end at a depth that reaches no
further station, or in FULL. -/
theorem recordPasses_settles (m : Means) (fuel : Nat) (first : Bool) (v : Survey) (some : 0 < fuel)
    (enough : 1024 ≤ fuel + v.frontier) :
    (recordPasses m fuel first v).reached = false ∨ (recordPasses m fuel first v).state = .full := by
  induction fuel generalizing first v with
  | zero => exact absurd some (Nat.lt_irrefl 0)
  | succ fuel ih =>
    rw [recordPasses_succ]
    split
    next here => exact .inl here
    split
    · exact .inr rfl
    split
    · exact .inr rfl
    next fits =>
      have rises := recordNext_frontier m first v
      have step := v.spacing.step_pos
      have below : (recordNext m first v).frontier + (recordNext m first v).spacing.step ≤ 1023 :=
        Nat.not_lt.mp (of_decide_eq_false (Bool.eq_false_iff.mpr fits))
      exact ih false _ (by omega) (by omega)

theorem recordingTest_of_other (other : v.state ≠ .surveying) : recordingTest v = v := if_pos other

theorem recordingTest_of_short (short : v.reached = false) : recordingTest v = v := by
  unfold recordingTest
  split
  · rfl
  · have stays : recordPasses (crossingMeans v) 1024 true v = v := by
      rw [recordPasses_succ _ 1023, if_pos short]
    simp only [stays, if_true]

/-- A recording test that has been made leaves nothing for another. -/
theorem recordingTest_idempotent (v : Survey) : recordingTest (recordingTest v) = recordingTest v := by
  by_cases surveying : v.state = .surveying
  · have settled := recordPasses_settles (crossingMeans v) 1024 true v (by decide) (by omega)
    have done : recordingTest v = recordPasses (crossingMeans v) 1024 true v ∨
        recordingTest v = (recordPasses (crossingMeans v) 1024 true v).clearInterval := by
      rw [recordingTest, if_neg (not_not.mpr surveying)]
      exact (ite_eq_or_eq ..)
    obtain short | full := settled
    · refine recordingTest_of_short ?_
      obtain same | same := done <;> rw [same] <;> exact short
    · refine recordingTest_of_other ?_
      have state : (recordingTest v).state = .full := by obtain same | same := done <;> rw [same] <;> exact full
      rw [state]
      exact nofun
  · rw [recordingTest_of_other surveying, recordingTest_of_other surveying]

/-! ## DEPTH (R66 to R68) -/

theorem exec_depth {items : List Word} (running : s.inReset = false) :
    exec (.depth dt items) s = .next (depthFrame items (s.afterFrame dt)) := exec_running _ running

/-- A frame of another count is discarded. -/
theorem depthFrame_discarded {items : List Word} (count : items.length ≠ 2) : depthFrame items s = s := by
  unfold depthFrame
  split
  · exact absurd rfl count
  · rfl

/-- A DEPTH frame sets the depth and its freshness, evaluates the survey, and makes the recording test. -/
theorem depthFrame_taken {hi lo : Word}
    (taken : v = { s.survey with
      depth := min 300000 (hi.toNat * 65536 + lo.toNat), received := true, fresh := true
      timer := s.startMs .depthWindow }) :
    depthFrame [hi, lo] s =
      { s with survey := recordingTest (surveyEvaluated s.attitudeValid v) } := by
  subst taken
  rfl

theorem exec_depth_taken {hi lo : Word} (running : s.inReset = false)
    (taken : v = { s.survey with
      depth := min 300000 (hi.toNat * 65536 + lo.toNat), received := true, fresh := true
      timer := .running ((s.setting .depthWindow).toNat * 1000) (s.now + dt) }) :
    exec (.depth dt [hi, lo]) s =
      .next { s.afterFrame dt with survey := recordingTest (surveyEvaluated s.attitudeValid v) } :=
  (exec_depth running).trans (congrArg _ (depthFrame_taken taken))

/-- After an evaluation that lets the panel go on, one recording test is made. -/
theorem surveyed_goes_on (state : v.state = .surveying ∨ v.state = .paused) (fresh : v.fresh = true) :
    recordingTest (surveyEvaluated true v) = recordingTest { v with state := .surveying } := by
  have has : (v.fresh && true) = true := by rw [fresh]; rfl
  obtain surveying | paused := state
  · rw [surveyEvaluated_goes_on surveying has]
    rw [← surveying]
  · rw [surveyEvaluated_returns paused has, recordingTest_idempotent]

theorem depthExpired_eq (s : State) : depthExpired s = { s with
    survey := { s.survey with
      fresh := false, timer := .idle
      state := if s.survey.state = .surveying then .paused else s.survey.state } } := by
  show ({ s with survey := surveyEvaluated _ _ } : State) = _
  congr 1
  unfold surveyEvaluated
  cases state : s.survey.state <;> simp [state]

/-- Settles O29: the two kinds of frame, the survey state at a frame, and the freshness timer. -/
theorem depthEvents : Obligations.DepthEvents := by
  refine fun dt s running => ⟨fun items count => ?_, fun hi lo v taken => ?_, fun early => ?_, fun due => ?_⟩
  · rw [exec_depth running, depthFrame_discarded count]
  · have state : v.state = s.survey.state := by rw [taken]
    have fresh : v.fresh = true := by rw [taken]
    rw [exec_depth_taken running taken, ← state]
    refine ⟨fun closed => ?_, fun open_ stale => ?_, fun open_ valid short => ?_, fun open_ valid => ?_⟩
    · rw [surveyEvaluated_closed closed, recordingTest_of_other]
      obtain here | here := closed <;> rw [here] <;> exact nofun
    · rw [stale, surveyEvaluated_pauses open_ (Bool.and_false _), recordingTest_of_other]
      exact SurveyState.noConfusion
    · rw [valid, surveyed_goes_on open_ fresh, recordingTest_of_short]
      exact decide_eq_false (not_le.mpr short)
    · rw [valid, surveyed_goes_on open_ fresh]
  · exact (exec_running _ running).trans (congrArg _ (expiry_early early))
  · exact (exec_running _ running).trans (congrArg _ ((expiry_due due).trans (depthExpired_eq _)))

/-! ## Panels (R69, R70) -/

theorem exec_panelBegin {r : Result} {t : State} (orders : s.takesOrders)
    (h : beginPanel (s.afterLink dt) = (r, t)) :
    exec (.panelBegin dt []) s = .next (replyOrder 9 r t) := by
  have taken : exec (.panelBegin dt []) s = .next (replyOrder 9
      (beginPanel (s.afterLink dt)).1 (beginPanel (s.afterLink dt)).2) := arrival_taken orders rfl
  rw [taken, h]

theorem exec_panelEnd (orders : s.takesOrders) :
    exec (.panelEnd dt []) s = .next (replyOrder 10 .ok ((s.afterLink dt).onSurvey closePanel)) :=
  arrival_taken (code := 10) orders rfl

/-- The start index is the highest multiple of the step that neither the depth nor the table excludes. -/
theorem startIndex_eq {depth step : Nat} (pos : 0 < step) :
    startIndex depth step = min (depth / 250 / step * step) (1023 / step * step) := by
  have multiple : ∀ q, q * step ≤ 1023 ↔ q * step ≤ 1023 / step * step := fun q => by
    rw [← Nat.le_div_iff_mul_le pos]
    exact (Nat.mul_le_mul_right_iff pos).symm
  have table : 1023 / step * step ≤ 1023 := Nat.div_mul_le_self ..
  unfold startIndex
  dsimp only
  split
  next beyond => exact (min_eq_right (by omega)).symm
  next within => exact (min_eq_left ((multiple _).mp (by omega))).symm

/-- Settles O31: the refusals of PANEL_BEGIN, the panel that it opens, and the two ways of PANEL_END. -/
theorem panelOrders : Obligations.PanelOrders := by
  rintro dt s u orders rfl
  refine ⟨fun busy => exec_panelBegin orders (if_pos busy), fun idle lacks => exec_panelBegin orders ?_, ?_,
    fun idle => ?_, fun busy => ?_⟩
  · rw [beginPanel, if_neg (not_not.mpr idle), if_pos lacks]
  · rintro spacing b idle received fresh valid rfl rfl
    have has : ¬ ((s.afterLink dt).survey.received = false ∨ (s.afterLink dt).survey.fresh = false ∨
        (s.afterLink dt).attitudeValid = false) := by simp [received, fresh, valid]
    refine exec_panelBegin orders ?_
    rw [beginPanel, if_neg (not_not.mpr idle), if_neg has, ← startIndex_eq (Spacing.step_pos _).1]
    rfl
  · rw [exec_panelEnd orders, State.onSurvey, closePanel, if_pos idle]
  · rw [exec_panelEnd orders, State.onSurvey, closePanel, if_neg busy]
    rfl

/-! ## Spacings (R76) -/

theorem exec_setSpacing {w : Word} {r : Result} {t : State} (orders : s.takesOrders)
    (h : takeSpacing w (s.afterLink dt) = (r, t)) :
    exec (.setSpacing dt [w]) s = .next (replyOrder 11 r t) := by
  have taken : exec (.setSpacing dt [w]) s = .next (replyOrder 11
      (takeSpacing w (s.afterLink dt)).1 (takeSpacing w (s.afterLink dt)).2) := arrival_taken orders rfl
  rw [taken, h]

theorem spacingOf_eq {w : Word} {p : Spacing} (h : w.toInt = p.number) : spacingOf w = some p := by
  unfold spacingOf signed
  cases p <;> simp [h, Spacing.number]

theorem takeSpacing_named {w : Word} {p : Spacing} (h : w.toInt = p.number) :
    takeSpacing w s = (.ok, s.onSurvey (orderSpacing p)) := by rw [takeSpacing, spacingOf_eq h]

/-- What a named spacing comes to, with its step. -/
theorem exec_setSpacing_named {w : Word} {p : Spacing} (orders : s.takesOrders) (h : u = s.afterLink dt)
    (named : w.toInt = p.number) :
    (u.survey.state = .idle ∨ u.survey.frontier % p.step ≠ 0 →
      exec (.setSpacing dt [w]) s = .next (replyOrder 11 .ok
        { u with survey := { u.survey with pending := some p } })) ∧
    (u.survey.frontier % p.step = 0 →
      (u.survey.state = .paused ∨ u.survey.state = .full →
        exec (.setSpacing dt [w]) s = .next (replyOrder 11 .ok
          { u with survey := { u.survey with spacing := p, pending := none } })) ∧
      (u.survey.state = .surveying →
        exec (.setSpacing dt [w]) s = .next (replyOrder 11 .ok
          { u with survey := recordingTest { u.survey with spacing := p, pending := none } }))) := by
  subst h
  rw [exec_setSpacing orders (takeSpacing_named named)]
  refine ⟨fun waits => ?_, fun suits => ⟨fun state => ?_, fun state => ?_⟩⟩
  · have pending : ¬ ((s.afterLink dt).survey.state ≠ .idle ∧ (s.afterLink dt).survey.frontier % p.step = 0) :=
      fun both => waits.elim both.1 fun other => other both.2
    rw [State.onSurvey, orderSpacing, if_neg pending]
  · have other : (s.afterLink dt).survey.state ≠ .idle ∧ (s.afterLink dt).survey.state ≠ .surveying := by
      obtain here | here := state <;> simp [here]
    rw [State.onSurvey, orderSpacing, if_pos ⟨other.1, suits⟩, recordingTest_of_other]
    exact other.2
  · have open_ : (s.afterLink dt).survey.state ≠ .idle := by simp [state]
    rw [State.onSurvey, orderSpacing, if_pos ⟨open_, suits⟩]

/-- Settles O32: no spacing named, a spacing that is pending, and one that takes effect at once. -/
theorem spacingOrder : Obligations.SpacingOrder := by
  refine fun dt w s u orders after => ⟨fun normal fine extra => ?_, fun p named => ?_⟩
  · subst after
    refine exec_setSpacing orders ?_
    rw [takeSpacing, spacingOf]
    simp [signed, normal, fine, extra]
  · cases p with
    | normal => exact exec_setSpacing_named (p := .normal) orders after named
    | fine => exact exec_setSpacing_named (p := .fine) orders after named
    | extra => exact exec_setSpacing_named (p := .extra) orders after named

end

end Sys2Proof.Machine

/-! SUPPORT. The crossings of the recording test (R72 to R77). -/

namespace Sys2Proof.Machine

section
variable {m : Means} {v : Survey} {first : Bool}

theorem Spacing.step_cases (p : Spacing) : p.step = 4 ∨ p.step = 2 ∨ p.step = 1 := by
  cases p <;> simp [Spacing.step]

/-- The station with offset `j` of a crossing that goes on at one spacing. -/
def Survey.crossing (v : Survey) (m : Means) (first : Bool) (j : Nat) : Station :=
  { index := v.frontier + (j + 1) * v.spacing.step, spacing := v.spacing
    interpolated := decide (1 ≤ j) || !first || decide (v.count = 0), disagree := v.intervalDisagree
    count := if j = 0 ∧ first = true then v.count else 0, meanX := m.x, meanY := m.y, meanR := m.r
    offsetX := offsetOf (v.accX + ((j + 1) * (v.spacing.step * 250) : Nat) * m.x)
    offsetY := offsetOf (v.accY + ((j + 1) * (v.spacing.step * 250) : Nat) * m.y) }

/-- A survey that has gone on by `k` stations at one spacing. -/
def Survey.advanced (v : Survey) (m : Means) (k : Nat) (t : List Station) : Survey :=
  { v with frontier := v.frontier + k * v.spacing.step, trajectory := t
           accX := v.accX + (k * (v.spacing.step * 250) : Nat) * m.x
           accY := v.accY + (k * (v.spacing.step * 250) : Nat) * m.y }

theorem Survey.advanced_advanced (k : Nat) (t u : List Station) :
    (v.advanced m 1 t).advanced m k u = v.advanced m (k + 1) u := by
  simp only [Survey.advanced, Survey.mk.injEq, true_and, and_true]
  refine ⟨?_, ?_, ?_⟩
  · ring
  · push_cast; ring
  · push_cast; ring

theorem Survey.advanced_station (j : Nat) (t : List Station) :
    (v.advanced m 1 t).frontier + j * (v.advanced m 1 t).spacing.step =
      v.frontier + (j + 1) * v.spacing.step := by
  simp only [Survey.advanced]
  ring

theorem Survey.crossing_advanced (j : Nat) (t : List Station) :
    (v.advanced m 1 t).crossing m false j = v.crossing m first (j + 1) := by
  have acc : ∀ a x : Int, a + (1 * (v.spacing.step * 250) : Nat) * x +
      ((j + 1) * (v.spacing.step * 250) : Nat) * x =
      a + ((j + 1 + 1) * (v.spacing.step * 250) : Nat) * x := fun a x => by push_cast; ring
  simp only [Survey.crossing, Survey.advanced, acc]
  simp
  ring

/-- One pass: the station is recorded with the offsets of the new accumulators, and a pending spacing is
looked at. -/
theorem recordNext_eq (m : Means) (first : Bool) (v : Survey) :
    recordNext m first v =
      applyPending (v.advanced m 1 (recordStation (v.crossing m first 0) v.trajectory)) := by
  simp [recordNext, Survey.advanced, Survey.crossing]

theorem applyPending_waits (waits : ∀ p, v.pending = some p → v.frontier % p.step ≠ 0) :
    applyPending v = v := by
  unfold applyPending
  cases pending : v.pending with
  | none => rfl
  | some p => exact if_neg (waits p pending)

/-- One pass at which no pending spacing takes effect. -/
theorem recordNext_advanced
    (waits : ∀ p, v.pending = some p → (v.frontier + 1 * v.spacing.step) % p.step ≠ 0) :
    recordNext m first v = v.advanced m 1 (recordStation (v.crossing m first 0) v.trajectory) := by
  rw [recordNext_eq, applyPending_waits]
  exact waits

/-- The pass after which no station is reached, or none fits, is the last one. -/
theorem recordPasses_last {fuel : Nat} {w : Survey} (next : w = recordNext m first v)
    (reached : (v.frontier + v.spacing.step) * 250 ≤ v.depth) (fits : v.frontier + v.spacing.step ≤ 1023)
    (surveying : v.state = .surveying)
    (ends : v.depth < (w.frontier + w.spacing.step) * 250 ∨ 1023 < w.frontier + w.spacing.step) :
    recordPasses m (fuel + 1) first v =
      { w with state := if 1023 < w.frontier + w.spacing.step then .full else .surveying } := by
  have state : w.state = .surveying := by rw [next, recordNext_state, surveying]
  have depth : w.depth = v.depth := by rw [next, recordNext_eq]; unfold applyPending; split <;> [split; skip] <;> rfl
  have goes : v.reached ≠ false := by simpa [Survey.reached] using reached
  have room : ¬ v.exhausted = true := by simpa [Survey.exhausted] using fits
  rw [recordPasses_succ, if_neg goes, if_neg room, ← next]
  by_cases full : 1023 < w.frontier + w.spacing.step
  · rw [if_pos full]
    exact if_pos (decide_eq_true full)
  · have short : w.reached = false := decide_eq_false (by rw [depth]; exact Nat.not_le.mpr (ends.resolve_right full))
    rw [if_neg full, if_neg (by simpa [Survey.exhausted] using full), ← state]
    cases fuel with
    | zero => rfl
    | succ fuel => rw [recordPasses_succ, if_pos short]

/-- The passes of a crossing of `k` stations at one spacing. -/
theorem recordPasses_crossing {k fuel : Nat} (enough : k < fuel) (surveying : v.state = .surveying)
    (reached : (v.frontier + (k + 1) * v.spacing.step) * 250 ≤ v.depth)
    (fits : v.frontier + (k + 1) * v.spacing.step ≤ 1023)
    (ends : v.depth < (v.frontier + (k + 2) * v.spacing.step) * 250 ∨
      1023 < v.frontier + (k + 2) * v.spacing.step)
    (waits : ∀ p, v.pending = some p → ∀ j ≤ k, (v.frontier + (j + 1) * v.spacing.step) % p.step ≠ 0) :
    ∃ t, recordPasses m fuel first v =
        { v.advanced m (k + 1) t with
          state := if 1023 < v.frontier + (k + 2) * v.spacing.step then .full else .surveying } ∧
      (∀ j ≤ k, stationAt t (v.frontier + (j + 1) * v.spacing.step) = some (v.crossing m first j)) ∧
      ∀ i, (∀ j ≤ k, i ≠ v.frontier + (j + 1) * v.spacing.step) → stationAt t i = stationAt v.trajectory i := by
  induction k generalizing fuel first v with
  | zero =>
    have whole := recordNext_advanced (m := m) (first := first) fun p pending => waits p pending 0 le_rfl
    obtain ⟨fuel, rfl⟩ : ∃ n, fuel = n + 1 := ⟨fuel - 1, by omega⟩
    rw [Nat.zero_add, one_mul] at reached fits
    rw [Nat.zero_add] at ends
    have sum : v.frontier + 2 * v.spacing.step = v.frontier + 1 * v.spacing.step + v.spacing.step := by ring
    refine ⟨recordStation (v.crossing m first 0) v.trajectory, ?_, fun j zero => ?_, fun i other => ?_⟩
    · rw [Nat.zero_add, Nat.zero_add, recordPasses_last whole.symm reached fits surveying (sum ▸ ends), sum]
      rfl
    · rw [Nat.le_zero.mp zero, stationAt_recordStation]
      exact if_pos rfl
    · rw [stationAt_recordStation]
      exact if_neg (other 0 le_rfl)
  | succ k ih =>
    have whole := recordNext_advanced (m := m) (first := first) fun p pending => waits p pending 0 (Nat.zero_le _)
    have one := v.spacing.step_pos.1
    obtain ⟨fuel, rfl⟩ : ∃ n, fuel = n + 1 := ⟨fuel - 1, by omega⟩
    have two : v.frontier + (1 + 1) * v.spacing.step ≤ v.frontier + (k + 1 + 1) * v.spacing.step :=
      Nat.add_le_add_left (Nat.mul_le_mul_right _ (by omega)) _
    have first_two : v.frontier + v.spacing.step ≤ v.frontier + (1 + 1) * v.spacing.step := by omega
    have goes : v.reached ≠ false := by
      simpa [Survey.reached] using (Nat.mul_le_mul_right 250 (first_two.trans two)).trans reached
    have room : ¬ v.exhausted = true := by simpa [Survey.exhausted] using first_two.trans (two.trans fits)
    rw [recordPasses_succ, if_neg goes, if_neg room, whole]
    set first_ := recordStation (v.crossing m first 0) v.trajectory
    have station := v.advanced_station (m := m) (t := first_)
    have still : ¬ (v.advanced m 1 first_).exhausted = true := by
      have one := station 1
      simp only [Survey.exhausted, decide_eq_true_eq]
      omega
    obtain ⟨t, passed, at_, other⟩ := ih (v := v.advanced m 1 first_) (first := false) (fuel := fuel)
      (by omega) surveying (by rwa [station]) (by rwa [station]) (by rwa [station])
      (fun p pending j within => by rw [station]; exact waits p pending (j + 1) (by omega))
    refine ⟨t, ?_, fun j within => ?_, fun i outside => ?_⟩
    · rw [if_neg still, passed, Survey.advanced_advanced, station]
    · cases j with
      | zero =>
        rw [other]
        · exact (stationAt_recordStation ..).trans (if_pos rfl)
        · intro j _
          rw [station]
          have := Nat.mul_lt_mul_of_pos_right (show 0 + 1 < j + 1 + 1 by omega) one
          omega
      | succ j => rw [← station, at_ j (by omega), Survey.crossing_advanced]
    · rw [other i fun j within => station _ ▸ outside (j + 1) (by omega)]
      exact (stationAt_recordStation ..).trans (if_neg (outside 0 (Nat.zero_le _)))

/-- The crossing means are those of the samples, or without one those of the frontier station. -/
theorem crossingMeans_eq
    (means : 1 ≤ v.count →
      m = ⟨roundDiv v.sumX v.count, roundDiv v.sumY v.count, roundDiv v.sumR v.count⟩)
    (absent : v.count = 0 → ∃ old, stationAt v.trajectory v.frontier = some old ∧
      m = ⟨old.meanX, old.meanY, old.meanR⟩) : crossingMeans v = m := by
  unfold crossingMeans
  split
  next some => exact (means some).symm
  next none =>
    obtain ⟨old, found, here⟩ := absent (by omega)
    rw [found, here]

/-- A recording test whose passes move the frontier clears the interval. -/
theorem recordingTest_moved {w : Survey} (surveying : v.state = .surveying) (means : crossingMeans v = m)
    (passed : recordPasses m 1024 true v = w) (moved : w.frontier ≠ v.frontier) :
    recordingTest v = w.clearInterval := by
  rw [recordingTest, if_neg (not_not.mpr surveying), means, passed]
  exact if_neg moved

/-- One pass, with what it leaves of a pending spacing. -/
theorem recordNext_looked {i : Nat} {spacing : Spacing} {pending : Option Spacing}
    (at_ : i = v.frontier + v.spacing.step)
    (none_ : v.pending = none → (spacing, pending) = (v.spacing, none))
    (suits : ∀ p, v.pending = some p → i % p.step = 0 → (spacing, pending) = (p, none))
    (waits : ∀ p, v.pending = some p → i % p.step ≠ 0 → (spacing, pending) = (v.spacing, some p)) :
    recordNext m first v =
      { v with
        frontier := i, spacing := spacing, pending := pending
        trajectory := recordStation (v.crossing m first 0) v.trajectory
        accX := v.accX + (v.spacing.step * 250 : Nat) * m.x
        accY := v.accY + (v.spacing.step * 250 : Nat) * m.y } := by
  subst at_
  rw [recordNext_eq, Survey.advanced, one_mul, one_mul]
  unfold applyPending
  dsimp only
  cases asked : v.pending with
  | none =>
    obtain ⟨rfl, rfl⟩ := Prod.mk.inj (none_ asked)
    rfl
  | some p =>
    by_cases fits : (v.frontier + v.spacing.step) % p.step = 0
    · obtain ⟨rfl, rfl⟩ := Prod.mk.inj (suits p asked fits)
      exact if_pos fits
    · obtain ⟨rfl, rfl⟩ := Prod.mk.inj (waits p asked fits)
      exact if_neg fits

/-- Settles O30: one station with a pending spacing looked at, no station, and several at one spacing. -/
theorem recordingTestRecordsStation : Obligations.RecordingTestRecordsStation := by
  refine ⟨fun v i m spacing pending st surveying at_ fits reached means absent looked ends station => ?_,
    fun v none => ?_, fun v k step m surveying at_ within several count means absent waits => ?_⟩
  · have whole := recordNext_looked (m := m) (first := true) (spacing := spacing) (pending := pending) at_
      (fun asked => by rw [looked, asked]) (fun p asked suits => by rw [looked, asked]; exact if_pos suits)
      (fun p asked waits => by rw [looked, asked]; exact if_neg waits)
    have recorded : v.crossing m true 0 = st := by
      rw [station, at_]
      simp [Survey.crossing, offsetOf, clampMag]
    have last := recordPasses_last (fuel := 1023) whole.symm (at_ ▸ reached) (at_ ▸ fits) surveying
      (.inl ends)
    have moved := recordingTest_moved surveying (crossingMeans_eq means absent) last
      (by have := v.spacing.step_pos; dsimp only; omega)
    rw [moved]
    refine ⟨?_, fun j other => ?_, ?_⟩
    · exact (stationAt_recordStation ..).trans (by rw [recorded, station]; exact if_pos rfl)
    · exact (stationAt_recordStation ..).trans (if_neg (by rw [recorded, station]; exact other))
    · rfl
  · exact none.elim recordingTest_of_other fun short => recordingTest_of_short (decide_eq_false (Nat.not_le.mpr short))
  · obtain ⟨k, rfl⟩ : ∃ n, k = n + 1 := ⟨k - 1, by omega⟩
    have pos := v.spacing.step_pos.1
    subst at_
    have bounds : (v.frontier + (k + 1) * v.spacing.step) * 250 ≤ v.depth ∧
        v.frontier + (k + 1) * v.spacing.step ≤ 1023 ∧
        (v.depth < (v.frontier + (k + 2) * v.spacing.step) * 250 ∨
          1023 < v.frontier + (k + 2) * v.spacing.step) := by
      obtain step | step | step := v.spacing.step_cases <;> rw [step] at count ⊢ <;> omega
    obtain ⟨reached, fits, ends⟩ := bounds
    obtain ⟨t, passed, stations, other⟩ := recordPasses_crossing (m := m) (first := true) (fuel := 1024)
      (by have := Nat.le_mul_of_pos_right (k + 1) pos; omega) surveying reached fits ends
      fun p pending j before => waits p pending j (by omega)
    have moved := recordingTest_moved surveying (crossingMeans_eq means absent) passed
      (by have := Nat.le_mul_of_pos_right (k + 1) pos; simp only [Survey.advanced]; omega)
    rw [moved]
    refine ⟨fun j before => ?_, fun i outside => other i fun j before => outside j (by omega), rfl⟩
    refine (stations j (by omega)).trans (congrArg some ?_)
    simp [Survey.crossing, offsetOf, clampMag]

end

end Sys2Proof.Machine

/-! SUPPORT. The steering update (R83, R84, R86, R89 to R97). -/

namespace Sys2Proof.Machine

section
variable {dt : Nat} {s u : State}

/-- A steering update restarts its timer. -/
def steeringRestarted (dt : Nat) (s : State) : State :=
  (s.elapse dt).onSteering fun x =>
    { x with timer := .running ((s.setting .steerPeriod).toNat * 1000) (s.now + dt) }

theorem exec_steeringUpdate_early (running : s.inReset = false)
    (early : s.steering.timer.due (s.now + dt) = false) :
    exec (.steeringUpdate dt) s = .next (s.elapse dt) :=
  (exec_running _ running).trans (congrArg _ (expiry_early early))

theorem exec_steeringUpdate_due (running : s.inReset = false)
    (due : s.steering.timer.due (s.now + dt) = true) :
    exec (.steeringUpdate dt) s = .next (steeringWork (steeringRestarted dt s)) :=
  (exec_running _ running).trans (congrArg _ (expiry_due due))

theorem steeringWork_idle (state : s.steering.state = .off ∨ s.steering.state = .manual) :
    steeringWork s = s := by
  unfold steeringWork
  obtain here | here := state <;> rw [here]

/-- In AUTO and HOLD the plates are regulated, to the kept targets while a HOLD cause stands. -/
theorem steeringWork_held (state : s.steering.state = .auto ∨ s.steering.state = .hold)
    (cause : s.holdCause = true) :
    steeringWork s = regulatePlates (if s.steering.state = .auto then enterSteeringHold s else s) := by
  unfold steeringWork
  obtain here | here := state <;> rw [here] <;> simp only [if_pos cause] <;> rfl

theorem steeringWork_projects (state : s.steering.state = .auto ∨ s.steering.state = .hold)
    (free : s.holdCause = false) : steeringWork s = regulatePlates (autoWork s) := by
  have none_ : ¬ s.holdCause = true := by rw [free]; exact Bool.false_ne_true
  unfold steeringWork
  obtain here | here := state <;> rw [here] <;> simp only [if_neg none_]

/-- The regulation asks for the opening that R94 and R95 give. -/
theorem openingFor_eq_asked (s : State) (p : Plate) :
    s.openingFor p = s.openingAsked p (s.steering.targets.get p) := by
  unfold State.openingFor State.openingAsked plateOpening
  cases (s.laneOf .steer).fresh <;> cases s.stroke p <;> rfl

/-- The regulation writes the plate channels and leaves every block. -/
theorem regulatePlates_keeps (s : State) :
    (regulatePlates s).steering = s.steering ∧ (regulatePlates s).drive = s.drive ∧
      (regulatePlates s).survey = s.survey ∧ (regulatePlates s).slurry = s.slurry ∧
      (regulatePlates s).orders = s.orders ∧ (regulatePlates s).selector = s.selector ∧
      (regulatePlates s).pickup = s.pickup ∧ (regulatePlates s).settings = s.settings := by
  rw [regulatePlates_eq]
  exact ⟨rfl, rfl, rfl, rfl, rfl, rfl, rfl, rfl⟩

theorem holdCause_true_iff (s : State) : s.holdCause = true ↔
    s.survey.fresh = false ∨ s.survey.received = false ∨ s.attitudeValid = false ∨
      s.survey.state = .idle ∨ s.survey.state = .paused ∨
      s.survey.depth < s.survey.frontier * 250 ∨ s.latched .orderLost = true := by
  simp [State.holdCause, or_assoc]

/-- Settles O34: a timer not due, the loops at rest, the HOLD causes, and an update under one. -/
theorem steeringUpdateHolds : Obligations.SteeringUpdateHolds := by
  refine ⟨fun dt s running early => exec_steeringUpdate_early running early, ?_⟩
  rintro dt s u running due rfl
  refine ⟨fun idle => ?_, holdCause_true_iff s, fun works cause => ?_⟩
  · exact (exec_steeringUpdate_due running due).trans (congrArg _ (steeringWork_idle idle))
  · have held : steeringWork (steeringRestarted dt s) = _ := steeringWork_held works cause
    refine ⟨_, (exec_steeringUpdate_due running due).trans (congrArg _ held), ?_⟩
    obtain ⟨steering, frame⟩ := regulatePlates_keeps
      (if (steeringRestarted dt s).steering.state = .auto then enterSteeringHold (steeringRestarted dt s)
        else steeringRestarted dt s)
    simp only [regulatePlates_requested, openingFor_eq_asked, steering, frame]
    obtain auto | hold := works
    · have here : (steeringRestarted dt s).steering.state = .auto := auto
      rw [if_pos here]
      exact ⟨fun _ => rfl, fun hold => absurd (auto.symm.trans hold) SteerState.noConfusion, fun _ => rfl,
        rfl, rfl, rfl, rfl, rfl, rfl, rfl⟩
    · have other : (steeringRestarted dt s).steering.state ≠ .auto := by
        rw [show (steeringRestarted dt s).steering.state = .hold from hold]
        exact SteerState.noConfusion
      rw [if_neg other]
      exact ⟨fun auto => absurd (hold.symm.trans auto) SteerState.noConfusion, fun _ => rfl, fun _ => rfl,
        rfl, rfl, rfl, rfl, rfl, rfl, rfl⟩

/-- Settles O35: the projections from the frontier station, and what they make of plates and trim. -/
theorem steeringUpdateProjects : Obligations.SteeringUpdateProjects := by
  rintro dt s station d px py ex ey er y r running due works free found rfl rfl rfl rfl rfl rfl rfl rfl
  have projects : steeringWork (steeringRestarted dt s) = _ := steeringWork_projects works free
  have offset : ∀ f : Station → Int,
      ((steeringRestarted dt s).frontierStation.map f).getD 0 = f station := fun f =>
    congrArg (fun x => (Option.map f x).getD 0) found
  obtain ⟨steering, drive, survey, slurry, orders, selector, pickup, settings⟩ :=
    regulatePlates_keeps (autoWork (steeringRestarted dt s))
  refine ⟨_, (exec_steeringUpdate_due running due).trans (congrArg _ projects), ?_,
    fun p => ?_, drive, survey, slurry, orders, selector, pickup, settings⟩
  · rw [steering]
    simp only [autoWork, offset]
    rfl
  · rw [regulatePlates_requested, openingFor_eq_asked, steering]
    rfl

end

end Sys2Proof.Machine

/-! SUPPORT. Agitation timers, pump orders and priming (R102 to R105, R108 to R113). -/

namespace Sys2Proof.Machine

section
variable {dt : Nat} {s u t : State} {r : Result} {w : Word}

/-! ## What a write of the pump leaves -/

/-- Outside the pump's channel and the slurry block the drive loops, the survey, steering and the orders
are as they were. -/
structure PumpOnly (s t : State) : Prop where
  drive : t.drive = s.drive
  survey : t.survey = s.survey
  steering : t.steering = s.steering
  orders : t.orders = s.orders
  selector : t.selector = s.selector

theorem PumpOnly.four (h : PumpOnly s t) :
    t.drive = s.drive ∧ t.survey = s.survey ∧ t.steering = s.steering ∧ t.orders = s.orders :=
  ⟨h.drive, h.survey, h.steering, h.orders⟩

theorem PumpOnly.writePump (v : Int) (s : State) : PumpOnly s (writePump v s) := by
  rw [writePump_eq]
  exact ⟨rfl, rfl, rfl, rfl, rfl⟩

theorem PumpOnly.enterSlurryRun (v : Int) (s : State) : PumpOnly s (enterSlurryRun v s) := by
  rw [enterSlurryRun_eq]
  exact ⟨rfl, rfl, rfl, rfl, rfl⟩

theorem PumpOnly.zeroSlurry (new : SlurryState) (s : State) : PumpOnly s (zeroSlurry new s) := by
  rw [zeroSlurry_eq]
  exact ⟨rfl, rfl, rfl, rfl, rfl⟩

theorem PumpOnly.startAgitation (p : AgitationPhase) (d t : Setting) (s : State) :
    PumpOnly s (startAgitation p d t s) := by
  rw [startAgitation_eq]
  exact ⟨rfl, rfl, rfl, rfl, rfl⟩

theorem PumpOnly.setOwner (o : Owner) (s : State) : PumpOnly s (setOwner .pump o s) := by
  rw [setOwner_eq]
  exact ⟨rfl, rfl, rfl, rfl, rfl⟩

theorem startAgitation_slurry (p : AgitationPhase) (d t : Setting) (s : State) :
    (startAgitation p d t s).slurry = { s.slurry with
      state := .agitate, phase := p, phaseTimer := s.startSec t, output := s.setting d } := by
  rw [startAgitation_eq]

theorem startAgitation_pump (p : AgitationPhase) (d t : Setting) (s : State) :
    ((startAgitation p d t s).demand .pump).requested = s.setting d := by
  rw [startAgitation, writePump_requested, if_pos rfl]

theorem zeroSlurry_pump (new : SlurryState) (s : State) : ((zeroSlurry new s).demand .pump).requested = 0 := by
  rw [zeroSlurry, writePump_requested, if_pos rfl]

/-- The hold delay that a seeded entry into RUN leaves. -/
theorem enterSlurryRun_holdDelay (v : Int) (s : State) : (enterSlurryRun v s).slurry.holdDelay =
    if (s.loopOf .g1).state = .stopped ∧ (s.loopOf .g2).state = .stopped then
      .running ((s.setting .holdDelay).toNat * 1000000) s.now
    else s.slurry.holdDelay := by
  rw [enterSlurryRun_slurry]
  simp only [State.bothLoops, decide_eq_true_eq]
  rfl

/-- The slurry block after a seeded entry into RUN, with the hold delay written out. -/
theorem enterSlurryRun_slurry_eq (v : Int) (s : State) :
    (enterSlurryRun v s).slurry = { s.slurry with
      state := .run, phase := .none, phaseTimer := .idle, output := v, integ := v
      suctionCount := 0, detectCount := 0, dwellCount := 0
      holdDelay := if (s.loopOf .g1).state = .stopped ∧ (s.loopOf .g2).state = .stopped then
        .running ((s.setting .holdDelay).toNat * 1000000) s.now
      else s.slurry.holdDelay } := by
  rw [← enterSlurryRun_holdDelay v s, enterSlurryRun_slurry]

/-! ## The agitation timers (R109 to R111) -/

theorem exec_holdDelay_early (running : s.inReset = false)
    (early : s.slurry.holdDelay.due (s.now + dt) = false) :
    exec (.holdDelayExpiry dt) s = .next (s.elapse dt) :=
  (exec_running _ running).trans (congrArg _ (expiry_early early))

theorem exec_holdDelay_due (running : s.inReset = false)
    (due : s.slurry.holdDelay.due (s.now + dt) = true) :
    exec (.holdDelayExpiry dt) s = .next (holdDelayExpired (s.elapse dt)) :=
  (exec_running _ running).trans (congrArg _ (expiry_due due))

theorem exec_phaseTimer_early (running : s.inReset = false)
    (early : s.slurry.phaseTimer.due (s.now + dt) = false) :
    exec (.phaseTimerExpiry dt) s = .next (s.elapse dt) :=
  (exec_running _ running).trans (congrArg _ (expiry_early early))

theorem exec_phaseTimer_due (running : s.inReset = false)
    (due : s.slurry.phaseTimer.due (s.now + dt) = true) :
    exec (.phaseTimerExpiry dt) s = .next (phaseExpired (s.elapse dt)) :=
  (exec_running _ running).trans (congrArg _ (expiry_due due))

theorem phaseExpired_flush (state : s.slurry.state = .flush) :
    phaseExpired s = enterSlurryRun (s.setting .circDemand) s := by rw [phaseExpired, state]

/-- Settles O39: the hold delay in RUN and elsewhere, and the phase timer in REST, BURST and FLUSH. -/
theorem agitationTimers : Obligations.AgitationTimers := by
  refine fun dt s running => ⟨exec_holdDelay_early running, exec_phaseTimer_early running,
    fun due => ⟨fun other => ?_, fun run one two => ?_⟩,
    fun due => ⟨fun agitate rest => ?_, fun agitate burst => ?_, fun flush => ?_⟩⟩
  · rw [exec_holdDelay_due running due]
    refine congrArg _ (if_neg fun both => ?_)
    obtain ⟨run, stopped⟩ := both
    have stopped := bothLoops_iff.mp stopped
    exact other.elim (absurd run) fun moves => moves.elim (absurd (stopped .g1)) (absurd (stopped .g2))
  · have both : ((s.elapse dt).onSlurry fun x => { x with holdDelay := .idle }).bothLoops .stopped = true :=
      bothLoops_iff.mpr fun g => by cases g; exacts [one, two]
    refine ⟨_, (exec_holdDelay_due running due).trans (congrArg _ (if_pos ⟨run, both⟩)), ?_,
      startAgitation_pump .., (PumpOnly.startAgitation ..).four⟩
    rw [startAgitation_slurry]
    rfl
  · have starts : phaseExpired (s.elapse dt) = startAgitation .burst .circDemand .burstTime (s.elapse dt) := by
      rw [phaseExpired, State.elapse_slurry, agitate, rest]
    refine ⟨_, (exec_phaseTimer_due running due).trans (congrArg _ starts), ?_, startAgitation_pump ..,
      (PumpOnly.startAgitation ..).four⟩
    rw [startAgitation_slurry, ← agitate]
    rfl
  · have starts : phaseExpired (s.elapse dt) = startAgitation .rest .idleDemand .restTime (s.elapse dt) := by
      rw [phaseExpired, State.elapse_slurry, agitate, burst]
    refine ⟨_, (exec_phaseTimer_due running due).trans (congrArg _ starts), ?_, startAgitation_pump ..,
      (PumpOnly.startAgitation ..).four⟩
    rw [startAgitation_slurry, ← agitate]
    rfl
  · obtain ⟨requested, owner⟩ := enterSlurryRun_pump (s.setting .circDemand) (s.elapse dt)
    exact ⟨_, (exec_phaseTimer_due running due).trans (congrArg _ (phaseExpired_flush flush)),
      enterSlurryRun_slurry_eq .., requested, owner, (PumpOnly.enterSlurryRun ..).four⟩

/-! ## PUMP_START and PUMP_STOP (R103, R108) -/

theorem exec_pumpStart (orders : s.takesOrders) (h : startPump (s.afterLink dt) = (r, u)) :
    exec (.pumpStart dt []) s = .next (replyOrder 7 r u) := by
  have taken : exec (.pumpStart dt []) s = .next (replyOrder 7
      (startPump (s.afterLink dt)).1 (startPump (s.afterLink dt)).2) := arrival_taken orders rfl
  rw [taken, h]

theorem exec_pumpStop (orders : s.takesOrders) (h : stopPump (s.afterLink dt) = (r, u)) :
    exec (.pumpStop dt []) s = .next (replyOrder 8 r u) := by
  have taken : exec (.pumpStop dt []) s = .next (replyOrder 8
      (stopPump (s.afterLink dt)).1 (stopPump (s.afterLink dt)).2) := arrival_taken orders rfl
  rw [taken, h]

theorem startPump_noLane (free : s.slurryTripped = false) (down : (s.laneOf .slurry).state ≠ .up) :
    startPump s = (.noLane, s) := by
  rw [startPump, if_neg (by simp [free]), if_pos down]

theorem startPump_busy (free : s.slurryTripped = false) (up : (s.laneOf .slurry).state = .up)
    (busy : s.slurry.state ≠ .stopped) : startPump s = (.busy, s) := by
  rw [startPump, if_neg (by simp [free]), if_neg (not_not.mpr up), if_pos busy]

theorem startPump_primes (free : s.slurryTripped = false) (up : (s.laneOf .slurry).state = .up)
    (stopped : s.slurry.state = .stopped) :
    startPump s = (.ok, writePump (s.setting .primeStart) (s.onSlurry fun x =>
      { x with state := .priming, integ := 0, dwellCount := 0
               dwellLength := (s.setting .primeDwell).toNat, detectCount := 0 })) := by
  rw [startPump, if_neg (by simp [free]), if_neg (not_not.mpr up), if_neg (not_not.mpr stopped)]

theorem stopPump_idle (free : s.anyCutting = false)
    (idle : s.slurry.state = .stopped ∨ s.slurry.state = .tripped) : stopPump s = (.ok, s) := by
  rw [stopPump, if_neg (by simp [free]), if_pos idle]

theorem stopPump_stops (free : s.anyCutting = false)
    (works : s.slurry.state ≠ .stopped) (other : s.slurry.state ≠ .tripped) :
    stopPump s = (.ok, zeroSlurry .stopped s) := by
  rw [stopPump, if_neg (by simp [free]), if_neg (not_or.mpr ⟨works, other⟩)]

/-! ## MODE naming the pump (R112) -/

theorem exec_modePump (orders : s.takesOrders) (h : modePump w (s.afterLink dt) = (r, u)) :
    exec (.modePump dt [w]) s = .next (replyOrder 6 r u) := by
  have taken : exec (.modePump dt [w]) s = .next (replyOrder 6
      (modePump w (s.afterLink dt)).1 (modePump w (s.afterLink dt)).2) := arrival_taken orders rfl
  rw [taken, h]

theorem modePump_other (not_auto : w.toInt ≠ 1) (not_manual : w.toInt ≠ 2) :
    modePump w s = (.badArg, s) := by
  by_cases off : w.toInt = 0
  · rw [modePump, modeOf_off off]
  · rw [modePump, modeOf_other off not_auto not_manual]

theorem modePump_auto (auto : w.toInt = 1) : modePump w s =
    if s.slurry.state = .manual then (.ok, enterSlurryRun (s.demand .pump).requested s) else (.ok, s) := by
  rw [modePump, modeOf_auto auto]

theorem modePump_stays (manual : w.toInt = 2) (state : s.slurry.state = .manual) :
    modePump w s = (.ok, s) := by rw [modePump, modeOf_manual manual, state]

theorem modePump_busy (manual : w.toInt = 2)
    (state : s.slurry.state ∈ [SlurryState.priming, .flush, .tripped]) : modePump w s = (.busy, s) := by
  simp only [List.mem_cons, List.not_mem_nil, or_false] at state
  rw [modePump, modeOf_manual manual]
  obtain here | here | here := state <;> rw [here]

theorem modePump_enters (manual : w.toInt = 2)
    (state : s.slurry.state ∈ [SlurryState.stopped, .run, .agitate]) :
    modePump w s = (.ok, enterPumpManual s) := by
  simp only [List.mem_cons, List.not_mem_nil, or_false] at state
  rw [modePump, modeOf_manual manual]
  obtain here | here | here := state <;> rw [here]

/-- Settles O40: the refusals of PUMP_START and PUMP_STOP, and the table of MODE naming the pump. -/
theorem pumpOrders : Obligations.PumpOrders := by
  refine ⟨?_, ?_⟩
  · rintro dt s u tripped orders rfl kinds
    have same : tripped = (s.afterLink dt).slurryTripped := kinds
    subst same
    refine ⟨fun latched => exec_pumpStart orders (if_pos latched),
      fun free down => exec_pumpStart orders (startPump_noLane free down),
      fun free up busy => exec_pumpStart orders (startPump_busy free up busy),
      fun free up stopped => ⟨_, exec_pumpStart orders (startPump_primes free up stopped), ?_, ?_,
        (PumpOnly.writePump ..).four⟩,
      fun cuts => exec_pumpStop orders (if_pos cuts),
      fun free idle => exec_pumpStop orders (stopPump_idle free idle),
      fun free works other => ⟨_, exec_pumpStop orders (stopPump_stops free works other),
        zeroSlurry_slurry .., zeroSlurry_pump .., (zeroSlurry_owner ..).trans (if_pos rfl),
        (PumpOnly.zeroSlurry ..).four⟩⟩
    · rw [writePump_slurry]
      rfl
    · rw [writePump_requested, if_pos rfl]
  · rintro dt w s u orders rfl
    refine ⟨fun auto manual => exec_modePump orders (modePump_other auto manual),
      fun manual state => exec_modePump orders (modePump_stays manual state),
      fun manual state => exec_modePump orders (modePump_busy manual state),
      fun auto state => exec_modePump orders ((modePump_auto auto).trans (if_neg state)),
      fun manual state => ⟨_, exec_modePump orders (modePump_enters manual state), ?_, ?_, ?_,
        (PumpOnly.setOwner ..).four⟩, ?_⟩
    · exact setOwner_slurry ..
    · exact (setOwner_owner ..).trans (if_pos rfl)
    · exact setOwner_requested ..
    · rintro auto state seed rfl
      obtain ⟨requested, owner⟩ :=
        enterSlurryRun_pump ((s.afterLink dt).demand .pump).requested (s.afterLink dt)
      exact ⟨_, exec_modePump orders ((modePump_auto auto).trans (if_pos state)),
        enterSlurryRun_slurry_eq .., owner, requested, (PumpOnly.enterSlurryRun ..).four⟩

end

end Sys2Proof.Machine

/-! SUPPORT. The priming work and the slurry trips (R104, R105, R113). -/

namespace Sys2Proof.Machine

section
variable {g : Gear} {s t u : State}

/-! ## What the stop of a loop leaves of the slurry loop -/

/-- The slurry loop and the pump's channel apart from the feed limit and the hold delay. -/
structure FlowKept (s t : State) : Prop where
  slurry : t.slurry = { s.slurry with feed := t.slurry.feed, holdDelay := t.slurry.holdDelay }
  requested : (t.demand .pump).requested = (s.demand .pump).requested
  owner : (t.demand .pump).owner = (s.demand .pump).owner

theorem FlowKept.refl (s : State) : FlowKept s s := ⟨rfl, rfl, rfl⟩

theorem FlowKept.trans (h : FlowKept s t) (k : FlowKept t u) : FlowKept s u :=
  ⟨k.slurry.trans (by rw [h.slurry]), k.requested.trans h.requested, k.owner.trans h.owner⟩

theorem FlowKept.formFeed (s : State) : FlowKept s (formFeed s) := ⟨rfl, rfl, rfl⟩

/-- A loop that does not leave STOPPED leaves the slurry loop apart from these. -/
theorem FlowKept.enterLoop {new : LoopState} (works : (s.loopOf g).state ≠ .stopped) :
    FlowKept s (enterLoop g new s) := by
  have valve : FlowKept s (valveEntry g new (s.onLoop g (loopEntry s new))) := by
    refine ⟨by rw [valveEntry_slurry]; rfl, ?_, ?_⟩
    · cases new <;> simp [valveEntry]
    · rw [valveEntry_owner, if_neg (by simp), if_neg (by simp)]
      rfl
  refine valve.trans ?_
  unfold Machine.enterLoop loopMoved
  split
  · exact .refl _
  · split
    · exact ⟨rfl, rfl, rfl⟩
    · exact .formFeed _

theorem FlowKept.enterStopping (works : (s.loopOf g).state ≠ .stopped) :
    FlowKept s (enterStopping g s) := by
  unfold Machine.enterStopping
  have entered : FlowKept s (Machine.enterLoop g .stopping s) := .enterLoop works
  dsimp only
  split
  · refine entered.trans (.enterLoop ?_)
    rw [enterLoop_state, if_pos rfl]
    exact LoopState.noConfusion
  · exact entered

theorem FlowKept.stopLoop (g : Gear) (s : State) : FlowKept s (stopLoop g s) := by
  unfold Machine.stopLoop
  split
  next armed => exact .enterLoop (by rw [armed]; exact LoopState.noConfusion)
  next run => exact .enterStopping (by rw [run]; exact LoopState.noConfusion)
  next held => exact .enterStopping (by rw [held]; exact LoopState.noConfusion)
  next unjam => exact .enterStopping (by rw [unjam]; exact LoopState.noConfusion)
  next opened => exact .enterStopping (by rw [opened]; exact LoopState.noConfusion)
  all_goals exact .refl _

theorem FlowKept.stopBoth (s : State) : FlowKept s (stopBoth s) := (stopLoop ..).trans (stopLoop ..)

theorem FlowKept.sendReport (tag : Tag) (s : State) : FlowKept s (sendReport tag s) := by
  refine ⟨by rw [sendReport_slurry], ?_, ?_⟩ <;> rw [State.demand, sendReport_lanes] <;> rfl

/-! ## A trip of the slurry loop (R113) -/

/-- A latch of one of the slurry loop's own trips. -/
theorem latch_slurry_eq {k : TripKind} (own : k = .primeFail ∨ k = .suction) (s : State) :
    latch k s = sendReport .urgent (stopBoth (zeroSlurry .tripped (enterKind k s))) := by
  rw [latch_eq_enterKind]
  obtain rfl | rfl := own <;> rfl

/-- What such a latch leaves of the slurry loop, the pump and the drive loops. -/
theorem latch_slurry_effects {k : TripKind} (own : k = .primeFail ∨ k = .suction) (s : State) :
    (latch k s).slurry = { s.slurry with
        state := .tripped, output := 0, integ := 0, detectCount := 0, dwellCount := 0
        suctionCount := 0, phase := .none, phaseTimer := .idle
        feed := (latch k s).slurry.feed, holdDelay := (latch k s).slurry.holdDelay } ∧
      ((latch k s).demand .pump).requested = 0 ∧ ((latch k s).demand .pump).owner = .loop ∧
      ∀ g, ((latch k s).loopOf g).state = s.stopOutcome g := by
  rw [latch_slurry_eq own]
  have kept := (FlowKept.stopBoth (zeroSlurry .tripped (enterKind k s))).trans (.sendReport .urgent _)
  refine ⟨?_, kept.requested.trans (zeroSlurry_pump ..), kept.owner.trans ?_, fun g => ?_⟩
  · refine kept.slurry.trans ?_
    rw [zeroSlurry_slurry]
    rfl
  · exact (zeroSlurry_owner ..).trans (if_pos rfl)
  · rw [sendReport_loopOf, stopBoth_state]
    unfold State.stopOutcome
    rw [zeroSlurry_loopOf, zeroSlurry_pickupOf]
    rfl

/-- What such a latch leaves of the other blocks. -/
theorem latch_slurry_frame {k : TripKind} (own : k = .primeFail ∨ k = .suction) (s : State) :
    (latch k s).survey = s.survey ∧ (latch k s).steering = s.steering ∧
      (latch k s).selector = s.selector ∧ (latch k s).pickup = s.pickup := by
  rw [latch_slurry_eq own]
  simp [enterKind]

/-! ## Priming (R104, R105) -/

theorem primingWork_steps (full : s.slurry.dwellLength ≤ s.slurry.dwellCount + 1)
    (room : s.slurry.output < s.setting .primeMax) : primingWork s =
      writePump (min (s.slurry.output + s.setting .primeStep) (s.setting .primeMax))
        (s.onSlurry fun x =>
          { x with dwellCount := 0, dwellLength := (s.setting .primeDwell).toNat }) := by
  rw [primingWork, if_neg (not_lt.mpr full), if_pos room]

theorem primingWork_fails (full : s.slurry.dwellLength ≤ s.slurry.dwellCount + 1)
    (spent : s.setting .primeMax ≤ s.slurry.output) : primingWork s = latch .primeFail s := by
  rw [primingWork, if_neg (not_lt.mpr full), if_neg (not_lt.mpr spent)]

theorem primingSample_below (priming : s.slurry.state = .priming)
    (below : ∀ q, s.flow = some q → q < s.setting .primeFlow) :
    primingSample s = s.onSlurry fun x => { x with detectCount := 0 } := by
  rw [primingSample, if_neg (not_not.mpr priming)]
  cases flow : s.flow with
  | none => rfl
  | some q => exact if_neg (not_le.mpr (below q flow))

theorem primingSample_above {q : Int} (priming : s.slurry.state = .priming) (flow : s.flow = some q)
    (above : s.setting .primeFlow ≤ q) : primingSample s =
      if 2 ≤ s.slurry.detectCount + 1 then enterSlurryRun s.slurry.output s
      else s.onSlurry fun x => { x with detectCount := x.detectCount + 1 } := by
  rw [primingSample, if_neg (not_not.mpr priming), flow]
  exact if_pos above

/-- Settles O38: the dwell, the step, PRIME_FAIL, and the detection from 0 and from 1. -/
theorem primingSweepAndDetection : Obligations.PrimingSweepAndDetection := by
  refine fun s priming => ⟨fun short => if_pos short, ?_, fun full spent => ?_,
    primingSample_below priming, fun q flow above => ⟨fun first => ?_, fun second => ?_⟩⟩
  · rintro out full room rfl
    rw [primingWork_steps full room]
    refine ⟨?_, ?_, (PumpOnly.writePump ..).drive⟩
    · rw [writePump_slurry]
      rfl
    · rw [writePump_requested, if_pos rfl]
  · obtain ⟨slurry, requested, -, loops⟩ := latch_slurry_effects (k := .primeFail) (.inl rfl) s
    rw [primingWork_fails full spent]
    refine ⟨(latch_latched ..).mpr (.inl rfl), ?_, ?_, ?_, ?_, requested, loops⟩ <;> rw [slurry]
  · rw [primingSample_above priming flow above, first]
    simp only [State.onSlurry, first]
    rfl
  · obtain ⟨requested, owner⟩ := enterSlurryRun_pump s.slurry.output s
    rw [primingSample_above priming flow above, second, if_pos (by decide)]
    refine ⟨?_, ?_, ?_, ?_, ?_, ?_, requested, owner,
      fun one two => (enterSlurryRun_holdDelay ..).trans (if_pos ⟨one, two⟩)⟩ <;> rw [enterSlurryRun_slurry]

end

end Sys2Proof.Machine

/-! SUPPORT. The slurry update (R101, R106, R107, R114, R116). -/

namespace Sys2Proof.Machine

section
variable {dt : Nat} {s t u : State} {q cut out : Int}

/-! ## The cut factor (R114) -/

theorem formCut_kept (h : (s.laneOf .slurry).fresh = false ∨ s.density = none ∨ s.flow = none) :
    formCut s = s := by
  unfold formCut
  obtain stale | absent | absent := h
  · rw [stale]
  · rw [absent]
    cases (s.laneOf .slurry).fresh <;> rfl
  · rw [absent]
    cases (s.laneOf .slurry).fresh <;> cases s.density <;> rfl

theorem formCut_formed {rho : Int} (fresh : (s.laneOf .slurry).fresh = true) (density : s.density = some rho)
    (flow : s.flow = some q) : formCut s = s.onSlurry fun x => { x with
      cut := min (cutDensity (s.setting .cutMin) (s.setting .densityLow) (s.setting .densityHigh) rho)
        (cutFlow (s.setting .cutMin) (s.classField .qSet) q) } := by
  rw [formCut, fresh, density, flow]

/-- The cut factor after an update with a fresh source and a flow. -/
theorem formCut_eq (fresh : (s.laneOf .slurry).fresh = true) (flow : s.flow = some q)
    (absent : s.density = none → cut = s.slurry.cut)
    (present : ∀ rho, s.density = some rho → cut =
      min (cutDensity (s.setting .cutMin) (s.setting .densityLow) (s.setting .densityHigh) rho)
        (cutFlow (s.setting .cutMin) (s.classField .qSet) q)) :
    formCut s = s.onSlurry fun x => { x with cut := cut } := by
  cases density : s.density with
  | none =>
    rw [formCut_kept (.inr (.inl density)), absent density]
    rfl
  | some rho => rw [formCut_formed fresh density flow, present rho density]

/-! ## The update by state -/

/-- A slurry update restarts its timer. -/
def slurryRestarted (dt : Nat) (s : State) : State :=
  (s.elapse dt).onSlurry fun x =>
    { x with timer := .running ((s.setting .slurryPeriod).toNat * 1000) (s.now + dt) }

theorem exec_slurryUpdate_early (running : s.inReset = false)
    (early : s.slurry.timer.due (s.now + dt) = false) :
    exec (.slurryUpdate dt) s = .next (s.elapse dt) :=
  (exec_running _ running).trans (congrArg _ (expiry_early early))

theorem exec_slurryUpdate_due (running : s.inReset = false)
    (due : s.slurry.timer.due (s.now + dt) = true) :
    exec (.slurryUpdate dt) s = .next (formFeed (slurryCut (slurryFirst (slurryRestarted dt s)))) :=
  (exec_running _ running).trans (congrArg _ (expiry_due due))

theorem slurryFirst_idle (state : s.slurry.state = .stopped ∨ s.slurry.state = .tripped) :
    slurryFirst s = s := by
  unfold slurryFirst
  obtain here | here := state <;> rw [here]

theorem slurryFirst_drives (state : s.slurry.state ∈ [SlurryState.agitate, .flush, .manual]) :
    slurryFirst s = s ∧ slurryCut s = formCut s := by
  simp only [List.mem_cons, List.not_mem_nil, or_false] at state
  unfold slurryFirst slurryCut
  obtain here | here | here := state <;> rw [here] <;> exact ⟨rfl, if_neg (by decide)⟩

theorem slurryCut_works (works : s.slurry.state = .priming ∨ s.slurry.state = .run) :
    slurryCut s = formCut s := by
  refine if_neg ?_
  obtain here | here := works <;> rw [here] <;> decide

theorem slurryFirst_priming (state : s.slurry.state = .priming) : slurryFirst s = primingWork s := by
  rw [slurryFirst, state]

/-- The priming work stays in PRIMING or trips. -/
theorem primingWork_state (priming : s.slurry.state = .priming) :
    (primingWork s).slurry.state = .priming ∨ (primingWork s).slurry.state = .tripped := by
  unfold primingWork
  split
  · exact .inl priming
  · split
    · rw [writePump_slurry]
      exact .inl priming
    · rw [(latch_slurry_effects (.inl rfl) s).1]
      exact .inr rfl

theorem flowWork_kept (h : (s.laneOf .slurry).fresh = false ∨ s.flow = none) : flowWork s = s := by
  unfold flowWork
  obtain stale | absent := h
  · rw [stale]
  · rw [absent]
    cases (s.laneOf .slurry).fresh <;> rfl

theorem slurryFirst_run (run : s.slurry.state = .run) (fresh : (s.laneOf .slurry).fresh = true)
    (flow : s.flow = some q) : slurryFirst s = if s.lowSuction then backOff s else regulateFlow q s := by
  rw [slurryFirst, run]
  show flowWork s = _
  rw [flowWork, fresh, flow]

theorem lowSuction_eq_false (fine : ∀ p, s.suction = some p → s.setting .suctionMin ≤ p) :
    s.lowSuction = false := by
  unfold State.lowSuction
  cases suction : s.suction with
  | none => rfl
  | some p => exact decide_eq_false (not_lt.mpr (fine p suction))

theorem lowSuction_eq_true {p : Int} (suction : s.suction = some p) (low : p < s.setting .suctionMin) :
    s.lowSuction = true := by
  rw [State.lowSuction, suction]
  exact decide_eq_true low

theorem feedLimit_eq (s : State) : s.feedLimit =
    if (s.loopOf .g1).state = .run ∧ (s.loopOf .g2).state = .run ∧ s.orders.link = .live then
      roundDiv (s.classField .feedMax * s.slurry.cut *
        min (s.loopOf .g1).torque (s.loopOf .g2).torque) 1048576
    else 0 := by
  simp only [State.feedLimit, State.bothLoops, decide_eq_true_eq, and_assoc]

/-! ## An update in RUN that writes the pump -/

/-- What the statement asks of an update in RUN that drives the pump. -/
structure PumpDriven (s t : State) (x : Slurry) (out : Int) : Prop where
  slurry : t.slurry = { x with feed := t.slurry.feed }
  feed : t.slurry.feed = t.feedLimit
  requested : (t.demand .pump).requested = out
  frame : PumpOnly s t

/-- The pump is written, then the cut factor and the feed limit are formed. -/
theorem PumpDriven.of_write {f : Slurry → Slurry} (run : (f u.slurry).state = .run)
    (same : (f u.slurry).cut = u.slurry.cut) (fresh : (u.laneOf .slurry).fresh = true)
    (flow : u.flow = some q) (absent : u.density = none → cut = u.slurry.cut)
    (present : ∀ rho, u.density = some rho → cut =
      min (cutDensity (u.setting .cutMin) (u.setting .densityLow) (u.setting .densityHigh) rho)
        (cutFlow (u.setting .cutMin) (u.classField .qSet) q)) :
    PumpDriven u (formFeed (slurryCut (writePump out (u.onSlurry f))))
      { f u.slurry with output := out, cut := cut } out := by
  have kept := (LanesKept.onSlurry f u).trans (writePump_kept out (u.onSlurry f))
  have state : (writePump out (u.onSlurry f)).slurry.state = .run := by rw [writePump_slurry]; exact run
  have formed := formCut_eq (s := writePump out (u.onSlurry f)) (q := q) (cut := cut)
    ((kept.fresh .slurry).trans fresh) ((kept.item ..).trans flow)
    (fun none => by rw [writePump_slurry]; exact (absent ((kept.item ..).symm.trans none)).trans same.symm)
    (fun rho some => by
      rw [writePump_setting, writePump_setting, writePump_setting, writePump_classField]
      exact present rho ((kept.item ..).symm.trans some))
  rw [slurryCut_works (.inr state), formed]
  have only := PumpOnly.writePump out (u.onSlurry f)
  refine ⟨?_, rfl, ?_, only.drive, only.survey, only.steering, only.orders, only.selector⟩
  · rw [formFeed_slurry]
    simp only [State.onSlurry, writePump_slurry]
  · exact (writePump_requested ..).trans (if_pos rfl)

/-- R107: the pump lowered by the back-off step, with the low suction counted. -/
def pumpLowered (s : State) : State :=
  writePump (max 0 (s.slurry.output - s.setting .backOffStep)) (s.onSlurry fun x =>
    { x with integ := max 0 (s.slurry.output - s.setting .backOffStep), suctionCount := x.suctionCount + 1 })

theorem backOff_trips (full : s.setting .suctionLimit ≤ (s.slurry.suctionCount : Int) + 1) :
    backOff s = latch .suction (pumpLowered s) := if_pos full

theorem pumpLowered_only (s : State) : PumpOnly s (pumpLowered s) :=
  let only := PumpOnly.writePump _ (s.onSlurry _)
  ⟨only.drive, only.survey, only.steering, only.orders, only.selector⟩

theorem pumpLowered_pickup (s : State) : (pumpLowered s).pickup = s.pickup := writePump_pickup ..

theorem backOff_lowers (short : (s.slurry.suctionCount : Int) + 1 < s.setting .suctionLimit)
    (lowered : out = max 0 (s.slurry.output - s.setting .backOffStep)) :
    backOff s = writePump out (s.onSlurry fun x =>
      { x with integ := out, suctionCount := x.suctionCount + 1 }) := by
  rw [lowered]
  exact if_neg (not_le.mpr short)

/-- The SUCTION trip of an update, and the feed limit that it ends (R107, R113). -/
theorem suctionTrip_effects (s : State) :
    (formFeed (slurryCut (latch .suction s))).slurry = { s.slurry with
        state := .tripped, output := 0, integ := 0, detectCount := 0, dwellCount := 0
        suctionCount := 0, phase := .none, phaseTimer := .idle, feed := 0
        holdDelay := (formFeed (slurryCut (latch .suction s))).slurry.holdDelay } ∧
      formFeed (slurryCut (latch .suction s)) = formFeed (latch .suction s) := by
  obtain ⟨slurry, -, -, loops⟩ := latch_slurry_effects (.inr rfl) s
  have idle : slurryCut (latch .suction s) = latch .suction s := if_pos (.inr (by rw [slurry]))
  have halted : ((latch .suction s).loopOf .g1).state ≠ .run := by
    intro run
    have other := stopOutcome_not_running s .g1
    rw [← loops .g1, run] at other
    exact Bool.noConfusion other
  rw [idle, formFeed_slurry, feedLimit_of_not_run halted]
  refine ⟨?_, rfl⟩
  rw [slurry]

/-- Settles O37: the update in each state of the slurry loop, and in RUN by flow and suction. -/
theorem slurryUpdateRegulates : Obligations.SlurryUpdateRegulates := by
  refine ⟨fun dt s running early => exec_slurryUpdate_early running early,
    fun s => ⟨formCut_kept, ?_⟩, ?_⟩
  · rintro rho q fresh density flow _ _ rfl rfl
    exact formCut_formed fresh density flow
  rintro dt s u running due rfl
  have update := exec_slurryUpdate_due running due
  refine ⟨fun idle => ?idle, fun drives => ?drives, ?priming, fun run lacks => ?stale, ?run, feedLimit_eq _⟩
  case idle =>
    have first : slurryFirst (slurryRestarted dt s) = _ := slurryFirst_idle idle
    have cut : slurryCut (slurryRestarted dt s) = _ := if_pos idle
    rw [update, first, cut]
    rfl
  case drives =>
    obtain ⟨first, cut⟩ := slurryFirst_drives (s := slurryRestarted dt s) drives
    rw [update, first, cut]
    rfl
  case priming =>
    rintro priming v rfl
    have first : slurryFirst (slurryRestarted dt s) = _ := slurryFirst_priming priming
    rw [update, first]
    refine ⟨fun stays => ?_, fun leaves => ?_⟩
    · exact congrArg (Host.Outcome.next ∘ formFeed) (slurryCut_works (.inl stays))
    · have tripped := (primingWork_state (s := slurryRestarted dt s) priming).resolve_left leaves
      exact ⟨tripped, congrArg (Host.Outcome.next ∘ formFeed) (if_pos (.inr tripped))⟩
  case stale =>
    have first : slurryFirst (slurryRestarted dt s) = slurryRestarted dt s := by
      rw [slurryFirst, show (slurryRestarted dt s).slurry.state = .run from run]
      exact flowWork_kept lacks
    have kept : formCut (slurryRestarted dt s) = slurryRestarted dt s :=
      formCut_kept (lacks.imp_right .inr)
    rw [update, first, slurryCut_works (s := slurryRestarted dt s) (.inr run), kept]
    rfl
  case run =>
    intro q cut run fresh flow formed
    have absent : s.density = none → cut = s.slurry.cut := fun none => by rw [formed, none]
    have present : ∀ rho, s.density = some rho → cut =
        min (cutDensity (s.setting .cutMin) (s.setting .densityLow) (s.setting .densityHigh) rho)
          (cutFlow (s.setting .cutMin) (s.classField .qSet) q) := fun rho some => by rw [formed, some]
    have first : slurryFirst (slurryRestarted dt s) = _ := slurryFirst_run run fresh flow
    rw [update, first]
    refine ⟨?_, ?_, ?_⟩
    · rintro e next raw fine rfl rfl rfl
      have low : (slurryRestarted dt s).lowSuction ≠ true := by
        rw [lowSuction_eq_false (s := slurryRestarted dt s) fine]
        exact Bool.false_ne_true
      rw [if_neg low]
      obtain ⟨slurry, feed, requested, frame⟩ := PumpDriven.of_write (u := slurryRestarted dt s)
        (out := (flowStage (s.setting .flowKp) (s.setting .flowKi) s.slurry.integ
          (s.classField .qSet - q)).output)
        (f := fun x => { x with
          integ := (flowStage (s.setting .flowKp) (s.setting .flowKi) s.slurry.integ
            (s.classField .qSet - q)).integ
          suctionCount := 0 }) run rfl fresh flow absent present
      exact ⟨_, rfl, slurry, feed, requested, frame.drive, frame.survey, frame.steering, frame.orders,
        frame.selector⟩
    · rintro p out suction low lowered short
      rw [if_pos (lowSuction_eq_true (s := slurryRestarted dt s) suction low),
        backOff_lowers (s := slurryRestarted dt s) short lowered]
      obtain ⟨slurry, feed, requested, frame⟩ := PumpDriven.of_write (u := slurryRestarted dt s) (out := out)
        (f := fun x => { x with integ := out, suctionCount := x.suctionCount + 1 }) run rfl fresh flow absent present
      exact ⟨_, rfl, slurry, feed, requested, frame.drive, frame.survey, frame.steering, frame.orders,
        frame.selector⟩
    · rintro p suction low full
      rw [if_pos (lowSuction_eq_true (s := slurryRestarted dt s) suction low),
        backOff_trips (s := slurryRestarted dt s) full]
      obtain ⟨-, requested, owner, loops⟩ := latch_slurry_effects (.inr rfl) (pumpLowered (slurryRestarted dt s))
      obtain ⟨survey, steering, selector, pickup⟩ :=
        latch_slurry_frame (.inr rfl) (pumpLowered (slurryRestarted dt s))
      obtain ⟨slurry, trips⟩ := suctionTrip_effects (pumpLowered (slurryRestarted dt s))
      have only := pumpLowered_only (slurryRestarted dt s)
      have same : (pumpLowered (slurryRestarted dt s)).orders = s.orders := only.orders
      refine ⟨_, rfl, fun k => ?_, fun some => ?_, fun empty => ?_, ?_, ?_, ?_, fun g => ?_, ?_, ?_, ?_, ?_⟩
      · rw [trips, formFeed_latched, latch_latched, State.latched, same]
        rfl
      · rw [trips, formFeed_orders, latch_orders, same]
        exact if_neg some
      · refine ⟨(pumpLowered (slurryRestarted dt s)).tripRecord .suction, ?_, rfl⟩
        rw [trips, formFeed_orders, latch_orders, same]
        exact if_pos empty
      · refine slurry.trans ?_
        rw [pumpLowered, writePump_slurry]
        rfl
      · rw [trips]; exact requested
      · rw [trips]; exact owner
      · rw [trips, formFeed_loopOf, loops]
        unfold State.stopOutcome State.loopOf State.pickupOf
        rw [only.drive, pumpLowered_pickup]
        rfl
      · rw [trips, formFeed_survey]; exact survey.trans only.survey
      · rw [trips, formFeed_steering]; exact steering.trans only.steering
      · rw [trips, formFeed_selector]; exact selector.trans only.selector
      · rw [trips, formFeed_pickup]; exact pickup.trans (pumpLowered_pickup _)

end

end Sys2Proof.Machine

/-! SUPPORT. What interlocks, trips and own frames leave of the lane boxes and of the frame path: a lane that
is not in UP keeps its box, a lane in UP all of it but the refresh timer and the pending composition. -/

namespace Sys2Proof.Machine

theorem laneOf_foldl_onDemand (f : Channel → Demand → Demand) (chs : List Channel) (s : State) (k : Lane) :
    (chs.foldl (fun t ch => t.onDemand ch (f ch)) s).laneOf k = s.laneOf k := by
  induction chs generalizing s with
  | nil => rfl
  | cons ch chs ih => rw [List.foldl_cons, ih, State.laneOf_onDemand]

theorem laneOf_markClamped (l k : Lane) (s : State) : (markClamped l s).laneOf k = s.laneOf k :=
  laneOf_foldl_onDemand (fun ch d => { d with clamped := s.outsideEnvelope ch }) ..

theorem enqueue_free (p : Port) (tag : Tag) (f : Frame) (s : State) :
    (enqueue p tag f s).path.free ⊆ s.path.free := by
  cases free : s.path.free with
  | nil => rw [enqueue, free, free]; exact List.Subset.refl _
  | cons b rest => rw [enqueue_cons free]; exact List.subset_cons_self b rest

/-- A DEMAND that is sent leaves the boxes of the other lanes. -/
theorem laneOf_sendDemand {l k : Lane} (other : k ≠ l) (a : Nat) (s : State) :
    (sendDemand l a s).laneOf k = s.laneOf k := by
  unfold sendDemand
  dsimp only
  rw [State.laneOf_onLane, if_neg other, ← laneOf_markClamped l k s]
  split
  · rfl
  · rw [State.laneOf, enqueue_lanes]
    rfl

/-- A DEMAND that is sent takes its buffer from the free list, or none. -/
theorem sendDemand_free (l : Lane) (a : Nat) (s : State) : (sendDemand l a s).path.free ⊆ s.path.free := by
  unfold sendDemand
  have marked : (markClamped l s).path = s.path := markClamped_path l s
  dsimp only
  rw [← marked]
  split
  · exact List.Subset.refl _
  · exact enqueue_free _ _ _ _

/-- Of the lane boxes only a refresh timer and a pending composition of a lane in UP change, and of the
frame path only the queues and the free list, to which nothing comes back. -/
structure BoxesKept (s t : State) : Prop where
  up : ∀ l, t.laneOf l = { s.laneOf l with
    refresh := (t.laneOf l).refresh, compose := (t.laneOf l).compose }
  down : ∀ l, (s.laneOf l).state ≠ .up → t.laneOf l = s.laneOf l
  path : t.path = { s.path with free := t.path.free, queue := t.path.queue }
  free : t.path.free ⊆ s.path.free

namespace BoxesKept

variable {s t u : State}

theorem refl (s : State) : BoxesKept s s := ⟨fun _ => rfl, fun _ _ => rfl, rfl, List.Subset.refl _⟩

theorem state (h : BoxesKept s t) (l : Lane) : (t.laneOf l).state = (s.laneOf l).state := by rw [h.up l]

theorem trans (h : BoxesKept s t) (k : BoxesKept t u) : BoxesKept s u := by
  refine ⟨fun l => ?_, fun l low => ?_, ?_, List.Subset.trans k.free h.free⟩
  · rw [k.up l, h.up l]
  · rw [k.down l (by rwa [h.state]), h.down l low]
  · rw [k.path, h.path]

theorem foldl {α : Type} {g : State → α → State} (hg : ∀ t a, BoxesKept t (g t a)) (as : List α)
    (s : State) : BoxesKept s (as.foldl g s) := by
  induction as generalizing s with
  | nil => exact refl s
  | cons a as ih => exact (hg s a).trans (ih (g s a))

/-- An operation that leaves the boxes and the path. -/
theorem of_still (boxes : ∀ l, t.laneOf l = s.laneOf l) (path : t.path = s.path) : BoxesKept s t :=
  ⟨fun l => by rw [boxes l], fun l _ => boxes l, by rw [path], by rw [path]; exact List.Subset.refl _⟩

theorem onDemand (ch : Channel) (f : Demand → Demand) (s : State) : BoxesKept s (s.onDemand ch f) :=
  of_still (fun l => State.laneOf_onDemand ch f l s) rfl

theorem onSlurry (f : Slurry → Slurry) (s : State) : BoxesKept s (s.onSlurry f) :=
  of_still (fun _ => rfl) rfl

theorem onSteering (f : Steering → Steering) (s : State) : BoxesKept s (s.onSteering f) :=
  of_still (fun _ => rfl) rfl

theorem composeDue (l : Lane) (s : State) : BoxesKept s (composeDue l s) := by
  have kept := composeDue_kept l s
  refine ⟨kept.lane, fun k low => ?_, kept.path, ?_⟩
  · by_cases up : (s.laneOf l).state = .up
    · have other : k ≠ l := fun same => low (same ▸ up)
      unfold Machine.composeDue
      split
      · rfl
      split
      · rfl
      split
      · rw [State.laneOf_onLane, if_neg other]
      · exact laneOf_sendDemand other ..
    · rw [Machine.composeDue, if_pos (.inr up)]
  · unfold Machine.composeDue
    split
    · exact List.Subset.refl _
    split
    · exact List.Subset.refl _
    split
    · exact List.Subset.refl _
    · exact sendDemand_free ..

theorem setRequested (ch : Channel) (v : Int) (s : State) : BoxesKept s (setRequested ch v s) := by
  unfold Machine.setRequested
  split
  · exact refl s
  · exact (onDemand ..).trans (composeDue ..)

theorem setOwner (ch : Channel) (o : Owner) (s : State) : BoxesKept s (setOwner ch o s) := by
  unfold Machine.setOwner
  split
  · exact refl s
  · exact onDemand ..

theorem writePump (v : Int) (s : State) : BoxesKept s (writePump v s) :=
  (onSlurry _ s).trans (setRequested ..)

theorem enterSlurryRun (v : Int) (s : State) : BoxesKept s (enterSlurryRun v s) := by
  unfold Machine.enterSlurryRun
  extract_lets entered driven
  have run : BoxesKept s entered := onSlurry _ s
  have pumped : BoxesKept s driven := run.trans ((setOwner ..).trans (writePump ..))
  refine pumped.trans ?_
  split
  · exact onSlurry ..
  · exact refl _

theorem agitationExit (s : State) : BoxesKept s (agitationExit s) := by
  unfold Machine.agitationExit
  split
  · exact refl s
  split
  · exact enterSlurryRun ..
  · exact (onSlurry _ s).trans (writePump ..)

theorem enterLoop (g : Gear) (new : LoopState) (s : State) : BoxesKept s (enterLoop g new s) := by
  have valve : BoxesKept (s.onLoop g (loopEntry s new)) (valveEntry g new (s.onLoop g (loopEntry s new))) := by
    unfold valveEntry
    split
    case h_4 => exact refl _
    all_goals exact (setOwner ..).trans (setRequested ..)
  refine (of_still (s := s) (t := s.onLoop g (loopEntry s new)) (fun _ => rfl) rfl).trans (valve.trans ?_)
  unfold Machine.enterLoop loopMoved
  split
  · exact refl _
  split
  · exact (onSlurry ..).trans ((agitationExit _).trans (onSlurry ..))
  split
  · exact (onSlurry ..).trans (onSlurry ..)
  · exact onSlurry ..

theorem loopMoves (moves : LoopMoves s t) : BoxesKept s t := by
  refine moves.keeps (P := BoxesKept s) (fun move kept => kept.trans ?_) (refl s)
  cases move
  exact enterLoop ..

theorem enterSteeringClear (new : SteerState) (o : Owner) (s : State) :
    BoxesKept s (enterSteeringClear new o s) :=
  (onSteering _ s).trans (foldl (fun t _ => (setOwner _ _ t).trans (setRequested ..)) _ _)

theorem tripSlurry (s : State) : BoxesKept s (tripSlurry s) := by
  refine .trans ?_ (loopMoves (LoopMoves.stopBoth _))
  exact (onSlurry _ s).trans ((setOwner ..).trans (writePump ..))

theorem actOnLatch (k : TripKind) (s : State) : BoxesKept s (actOnLatch k s) := by
  unfold Machine.actOnLatch
  split
  · have stopped := loopMoves (LoopMoves.stopBoth s)
    simp only
    split
    · exact stopped.trans (onSteering ..)
    · exact stopped
  · exact loopMoves ((LoopMoves.trip ..).trans (LoopMoves.stopLoop ..))
  · exact loopMoves ((LoopMoves.trip ..).trans (LoopMoves.stopLoop ..))
  · exact tripSlurry s
  · exact tripSlurry s
  · exact loopMoves ((LoopMoves.tripUnlessStopped ..).trans (LoopMoves.tripUnlessStopped ..))
  · split
    · exact refl s
    · exact enterSteeringClear ..
  · exact refl s
  · split
    · exact refl s
    · exact tripSlurry s

theorem sendReport (tag : Tag) (s : State) : BoxesKept s (sendReport tag s) := by
  refine ⟨fun l => ?_, fun l _ => ?_, ?_, ?_⟩
  · rw [State.laneOf, sendReport_lanes]; rfl
  · rw [State.laneOf, sendReport_lanes]; rfl
  · unfold Machine.sendReport
    dsimp only
    split
    · rfl
    · unfold enqueue
      split <;> rfl
  · unfold Machine.sendReport
    dsimp only
    split
    · exact List.Subset.refl _
    · exact enqueue_free _ _ _ _

theorem latch (k : TripKind) (s : State) : BoxesKept s (latch k s) := by
  rw [latch_eq_enterKind]
  exact (of_still (s := s) (t := enterKind k s) (fun _ => rfl) rfl).trans ((actOnLatch ..).trans (sendReport ..))

end BoxesKept

end Sys2Proof.Machine

/-! SUPPORT. A frame that comes on a lane: its class, the liveness of the lane and the use of a SAMPLE (R119,
R120, R123, R124, R138, R139). -/

namespace Sys2Proof.Machine

section
variable {dt : Nat} {l : Lane} {rx : Reception} {f : Frame} {s t u : State}

/-! ## What the blocks of a sample leave of the lane boxes -/

theorem BoxesKept.overpressureTest (s : State) : BoxesKept s (overpressureTest s) := by
  have counted : BoxesKept s (countPressures s) := .of_still (fun _ => rfl) rfl
  have drawn : BoxesKept s { countPressures s with draws := (countPressures s).draws + 1 } :=
    .of_still (fun _ => rfl) rfl
  obtain ⟨-, -, same⟩ | ⟨g, -, -, same⟩ | ⟨-, -, g, same⟩ := overpressureTest_cases s <;> rw [same]
  · exact counted
  · exact counted.trans (.latch ..)
  · exact drawn.trans ((BoxesKept.latch ..).trans (.latch ..))

theorem BoxesKept.primingSample (s : State) : BoxesKept s (primingSample s) := by
  unfold Machine.primingSample
  split
  · exact .refl s
  split
  · exact .onSlurry ..
  split
  · split
    · exact .enterSlurryRun ..
    · exact .onSlurry ..
  · exact .onSlurry ..

theorem BoxesKept.handSample (l : Lane) (s : State) : BoxesKept s (handSample l s) := by
  cases l with
  | drive => exact .overpressureTest s
  | steer => exact .refl s
  | attitude => exact .of_still (fun _ => rfl) rfl
  | slurry => exact .primingSample s

/-! ## The liveness of a lane (R120) -/

theorem laneAlive_eq (l : Lane) (s : State) :
    laneAlive l s = { s with lanes := (laneAlive l s).lanes, path := (laneAlive l s).path } := by
  unfold laneAlive
  split
  · rfl
  · rw [composeDue_eq]
    rfl

/-- A valid frame brings the lane into UP, or keeps it there, and restarts its silence timer. -/
theorem laneOf_laneAlive (l : Lane) (s : State) : (laneAlive l s).laneOf l =
    { s.laneOf l with
      state := .up, silence := s.startMs .laneSilence, badRun := 0
      refresh := ((laneAlive l s).laneOf l).refresh, compose := ((laneAlive l s).laneOf l).compose } := by
  unfold laneAlive
  split
  next up =>
    rw [State.laneOf_onLane, if_pos rfl, ← up]
  · refine ((composeDue_kept ..).lane l).trans ?_
    rw [State.laneOf_onLane, if_pos rfl]

theorem laneAlive_path (l : Lane) (s : State) : (laneAlive l s).path =
    { s.path with free := (laneAlive l s).path.free, queue := (laneAlive l s).path.queue } := by
  unfold laneAlive
  split
  · rfl
  · exact (composeDue_kept ..).path

/-! ## The arrival (R138) -/

theorem laneReception_of_empty (empty : s.path.area.get (.lane l) = .empty) :
    laneReception l rx s = laneArrival l (received rx) (emptyArea (.lane l) s) := by
  have area : (storeChars (.lane l) rx s).path.area.get (.lane l) = received rx := by
    show ((s.path.area.set (.lane l) ((s.path.area.get (.lane l)).gather rx)).get (.lane l)) = _
    rw [PerPort.get_set, if_pos rfl, empty]
    rfl
  rw [laneReception, area, emptyArea_storeChars]

/-- Both commands of a lane's frame come to the same arrival. -/
theorem exec_lane (running : s.inReset = false) (empty : s.path.area.get (.lane l) = .empty) :
    exec (.laneFrameArrival dt l rx) s =
        .next (laneArrival l (received rx) (emptyArea (.lane l) (s.elapse dt))) ∧
      exec (.sampleArrival dt l rx) s =
        .next (laneArrival l (received rx) (emptyArea (.lane l) (s.elapse dt))) :=
  have same := laneReception_of_empty (s := s.elapse dt) (rx := rx) empty
  ⟨(exec_running _ running).trans (congrArg _ same), (exec_running _ running).trans (congrArg _ same)⟩

theorem laneArrival_sample {area : ReceiveArea} (valid : s.classify l area = .valid f)
    (sample : f.kind = kindSample) :
    laneArrival l area s = decimate f (useSample l f.items (laneAlive l s)) := by
  rw [laneArrival, valid]
  exact if_pos sample

/-! ## The use of a SAMPLE (R124, R139) -/

theorem readItem_eq : readItem = fun r w =>
    if w = 0x8000#16 then none else some (clamp r.lo r.hi w.toInt) := by
  funext r w
  unfold readItem itemValue
  split
  next absent => exact (if_pos absent).symm
  next present => exact (if_neg present).symm

/-- The part with the latest items of a SAMPLE that has come. -/
def sampleTaken (dt : Nat) (l : Lane) (items : List Word) (s : State) : State :=
  (laneAlive l (emptyArea (.lane l) (s.elapse dt))).onLane l fun b =>
    { b with items := List.zipWith
               (fun r w => if w = 0x8000#16 then none else some (clamp r.lo r.hi w.toInt))
               (roleRanges l) items
             fresh := true
             freshTimer := .running ((s.setting (freshWindow l)).toNat * 1000) (s.now + dt) }

theorem useSample_eq (dt : Nat) (l : Lane) (items : List Word) (s : State) :
    useSample l items (laneAlive l (emptyArea (.lane l) (s.elapse dt))) =
      handSample l (sampleTaken dt l items s) := by
  have timer : (laneAlive l (emptyArea (.lane l) (s.elapse dt))).startMs (freshWindow l) =
      .running ((s.setting (freshWindow l)).toNat * 1000) (s.now + dt) := by
    rw [laneAlive_eq]
    rfl
  rw [useSample, timer, readItem_eq]
  rfl

theorem exec_sample (running : s.inReset = false) (empty : s.path.area.get (.lane l) = .empty)
    (valid : s.classify l (received rx) = .valid f) (sample : f.kind = kindSample) :
    exec (.sampleArrival dt l rx) s = .next (decimate f (handSample l (sampleTaken dt l f.items s))) := by
  have arrives := laneArrival_sample (s := emptyArea (.lane l) (s.elapse dt)) valid sample
  rw [(exec_lane running empty).2, arrives, useSample_eq]

theorem primingSample_eq (s : State) :
    primingSample s = if s.slurry.state = .priming then primingSample s else s := by
  split
  · rfl
  next other => exact if_pos other

/-- Decimation counts once under the route entry of the source (R139). -/
theorem decimate_decimation {n c : Nat} (entry : n = routeWord s.path.route f.src.toNat 1)
    (count : c = s.path.decimation.getD f.src.toNat 0) :
    (decimate f s).path.decimation = s.path.decimation.set f.src.toNat
      (if n = 0 then 0 else if c + 1 < n then c + 1 else 0) := by
  have offered : ∀ t : State, (offerSample f t).path.decimation = t.path.decimation := fun t => by
    unfold offerSample
    split
    · rfl
    · unfold offerFrame
      split
      · rfl
      · unfold enqueue
        split <;> rfl
  unfold decimate
  dsimp only
  rw [← entry, ← count]
  split
  · rfl
  split
  · rfl
  · rw [offered]
    rfl

/-- Settles O42: the block of each lane, and the lane, its source and its counter whatever the block does. -/
theorem sampleIsUsed : Obligations.SampleIsUsed := by
  rintro dt l rx f s u n c running empty valid sample rfl rfl rfl
  have used := exec_sample (dt := dt) running empty valid sample
  refine ⟨?_, ?_, ?_, ?_, _, used, ?_⟩
  · rintro rfl; exact used
  · rintro rfl; exact used
  · rintro rfl; exact used
  · rintro rfl
    refine used.trans (congrArg (fun x => Host.Outcome.next (decimate f x)) ((primingSample_eq _).trans ?_))
    have state : (sampleTaken dt .slurry f.items s).slurry.state = s.slurry.state := by
      rw [sampleTaken, laneAlive_eq]
      rfl
    rw [state]
    rfl
  · have kept := BoxesKept.handSample l (sampleTaken dt l f.items s)
    have box : (sampleTaken dt l f.items s).laneOf l = _ := (State.laneOf_onLane ..).trans (if_pos rfl)
    have alive := laneOf_laneAlive l (emptyArea (.lane l) (s.elapse dt))
    have decimated := decimate_decimation (f := f) (s := handSample l (sampleTaken dt l f.items s)) rfl rfl
    have lane : ∀ t : State, (decimate f t).laneOf l = t.laneOf l := fun t => by
      rw [State.laneOf, decimate_lanes]
      rfl
    have path : (sampleTaken dt l f.items s).path = _ := laneAlive_path l (emptyArea (.lane l) (s.elapse dt))
    rw [lane, kept.up l, box, decimated, kept.path, path]
    refine ⟨?_, ?_, ?_, rfl, rfl, rfl, rfl, ?_⟩
    · exact congrArg LaneBox.state alive
    · exact congrArg LaneBox.badRun alive
    · exact congrArg LaneBox.silence alive
    · rintro rfl
      rw [decimate_eq, handSample, sampleTaken, laneAlive_eq]
      exact ⟨rfl, rfl, rfl, rfl, rfl⟩

end

end Sys2Proof.Machine

/-! SUPPORT. The composition of a lane's DEMAND: what it sends, and the value of each channel (R125, R129,
R130). -/

namespace Sys2Proof.Machine

section
variable {dt : Nat} {l : Lane} {a : Nat} {f : Frame} {s t u : State} {ch : Channel} {v : Int}

/-! ## A DEMAND that is sent -/

/-- What a DEMAND `f` that a lane sends leaves. -/
structure DemandSent (l : Lane) (f : Frame) (s t : State) : Prop where
  recomposed : s.waiting (.lane l) .demand = true →
    t.queueOf (.lane l) = (s.queueOf (.lane l)).map (fun e =>
      if e.tag = .demand then { e with frame := f } else e) ∧ t.path.free = s.path.free
  placed : s.waiting (.lane l) .demand = false → ∀ b rest, s.path.free = b :: rest →
    t.queueOf (.lane l) = s.queueOf (.lane l) ++ [⟨b, .demand, f⟩] ∧ t.path.free = rest
  box : ∀ k, t.laneOf k = if k = l then
      { s.laneOf l with refresh := .running ((s.setting .refreshInterval).toNat * 1000) s.now }
    else s.laneOf k
  demands : ∀ ch, t.demand ch = { s.demand ch with
    clamped := if ch ∈ laneChannels l then
        decide ((s.demand ch).requested < s.envelopeMin ch ∨ s.envelopeMax ch < (s.demand ch).requested)
      else (s.demand ch).clamped }
  blocks : t = { s with lanes := t.lanes, path := t.path }

theorem waiting_markClamped (p : Port) (tag : Tag) : (markClamped l s).waiting p tag = s.waiting p tag := by
  rw [State.waiting, State.queueOf, markClamped_path]
  rfl

theorem sendDemand_path (l : Lane) (a : Nat) (s : State) : (sendDemand l a s).path =
    if s.waiting (.lane l) .demand then
      (refreshWaiting (.lane l) .demand (s.demandFrame l a s.composedValue) (markClamped l s)).path
    else (enqueue (.lane l) .demand (s.demandFrame l a s.composedValue) (markClamped l s)).path := by
  unfold sendDemand
  dsimp only
  split <;> rfl

theorem sendDemand_demand (l : Lane) (a : Nat) (s : State) (ch : Channel) :
    (sendDemand l a s).demand ch = (markClamped l s).demand ch := by
  unfold sendDemand
  dsimp only
  rw [State.demand_onLane]
  split
  · cases ch <;> rfl
  · unfold State.demand
    rw [enqueue_lanes]

theorem laneOf_sendDemand_self (l : Lane) (a : Nat) (s : State) : (sendDemand l a s).laneOf l =
    { s.laneOf l with refresh := .running ((s.setting .refreshInterval).toNat * 1000) s.now } := by
  unfold sendDemand
  dsimp only
  rw [State.laneOf_onLane, if_pos rfl, ← laneOf_markClamped l l s]
  split
  · rfl
  · rw [State.laneOf, enqueue_lanes]
    rfl

theorem sendDemand_sent (l : Lane) (a : Nat) (s : State) :
    DemandSent l (s.demandFrame l a s.composedValue) s (sendDemand l a s) := by
  refine ⟨fun waits => ?_, fun none b rest free => ?_, fun k => ?_, fun ch => ?_, sendDemand_eq l a s⟩
  · rw [State.queueOf, sendDemand_path, if_pos waits]
    refine ⟨?_, ?_⟩
    · show ((markClamped l s).path.queue.set (.lane l) _).get (.lane l) = _
      rw [PerPort.get_set, if_pos rfl, State.queueOf, markClamped_path]
      rfl
    · show (markClamped l s).path.free = _
      rw [markClamped_path]
  · have marked : (markClamped l s).path.free = b :: rest := by rw [markClamped_path, free]
    rw [State.queueOf, sendDemand_path, if_neg (by simp [none]), enqueue_cons marked]
    refine ⟨?_, rfl⟩
    show ((markClamped l s).path.queue.set (.lane l) _).get (.lane l) = _
    rw [PerPort.get_set, if_pos rfl, markClamped_path]
    rfl
  · split
    next same => rw [same, laneOf_sendDemand_self]
    next other => exact laneOf_sendDemand other a s
  · rw [sendDemand_demand, markClamped_demand]
    split <;> rfl

/-! ## A composition that is due (R129) -/

theorem composeDue_nothing (h : (s.laneOf l).state ≠ .up ∨ s.mappedAddress l = none) :
    composeDue l s = s := by
  unfold composeDue
  split
  · rfl
  next works =>
    rw [h.resolve_left (not_not.mpr (not_not.mp (not_or.mp works).2))]

theorem composeDue_pends (channels : laneChannels l ≠ []) (up : (s.laneOf l).state = .up)
    (mapped : s.mappedAddress l = some a) (sends : s.demandInTransmission l = true) :
    composeDue l s = s.onLane l fun b => { b with compose := true } := by
  rw [composeDue, if_neg (by simp [channels, up]), mapped]
  exact if_pos sends

theorem composeDue_sends (channels : laneChannels l ≠ []) (up : (s.laneOf l).state = .up)
    (mapped : s.mappedAddress l = some a) (idle : s.demandInTransmission l = false) :
    composeDue l s = sendDemand l a s := by
  rw [composeDue, if_neg (by simp [channels, up]), mapped]
  exact if_neg (by simp [idle])

/-! ## The value of a channel (R130) -/

theorem slewed_far {slew last requested : Int} (nonneg : 0 ≤ slew) (some : slew ≠ 0)
    (far : slew < mag (requested - last)) :
    slewed slew last requested = if last < requested then last + slew else last - slew := by
  rw [slewed, if_neg (not_or.mpr ⟨some, not_le.mpr far⟩)]
  obtain up | same | down := lt_trichotomy last requested
  · rw [if_pos up, signOf, if_pos (by omega), mul_one]
  · rw [same, sub_self] at far
    exact absurd far (not_lt.mpr nonneg)
  · rw [if_neg (not_lt.mpr down.le), signOf, if_neg (by omega), if_pos (by omega), mul_neg_one, sub_eq_add_neg]

theorem slewed_near {slew last requested : Int} (near : slew = 0 ∨ mag (requested - last) ≤ slew) :
    slewed slew last requested = requested := if_pos near

/-- The slew bounds what a composition moves a value by. -/
theorem mag_slewed_le {slew last requested : Int} (nonneg : 0 ≤ slew) (some : slew ≠ 0) :
    mag (slewed slew last requested - last) ≤ slew := by
  by_cases near : mag (requested - last) ≤ slew
  · rwa [slewed_near (.inr near)]
  · rw [slewed_far nonneg some (not_le.mp near)]
    unfold mag
    split <;> split <;> omega

/-- A clamp to a range moves a value no further from a value of the range. -/
theorem mag_clamp_sub_le {lo hi x y : Int} (low : lo ≤ y) (high : y ≤ hi) :
    mag (clamp lo hi x - y) ≤ mag (x - y) := by
  unfold mag clamp
  repeat' split
  all_goals omega

theorem envelopeSlew_nonneg (s : State) (ch : Channel) : 0 ≤ s.envelopeSlew ch := Int.natCast_nonneg _

/-! ## The refresh timer and a requested value (R125, R129) -/

theorem exec_refresh_early (running : s.inReset = false)
    (early : (s.laneOf l).refresh.due (s.now + dt) = false) :
    exec (.refreshTimerExpiry dt l) s = .next (s.elapse dt) :=
  (exec_running _ running).trans (congrArg _ (expiry_early early))

theorem exec_refresh_due (running : s.inReset = false)
    (due : (s.laneOf l).refresh.due (s.now + dt) = true) :
    exec (.refreshTimerExpiry dt l) s = .next (refreshExpired l (s.elapse dt)) :=
  (exec_running _ running).trans (congrArg _ (expiry_due due))

/-- Settles O46: the timer, the three ways of a composition at a refresh and at a write, and the values. -/
theorem refreshComposesDemand : Obligations.RefreshComposesDemand := by
  refine ⟨fun dt l s running early => exec_refresh_early running early, ?refresh, fun s ch v => ⟨fun same => if_pos same, ?write⟩,
    fun s ch range => ?value⟩
  case value =>
    refine ⟨(clamp_mem _ range).1, (clamp_mem _ range).2,
      fun some far => congrArg (clamp _ _) (slewed_far (envelopeSlew_nonneg s ch) some far),
      fun near => congrArg (clamp _ _) (slewed_near near),
      fun low high some => (mag_clamp_sub_le low high).trans (mag_slewed_le (envelopeSlew_nonneg s ch) some)⟩
  case refresh =>
    rintro dt l s u running due up channels rfl
    have expired := exec_refresh_due running due
    refine ⟨fun unmapped => expired.trans (congrArg _ (if_pos ⟨up, unmapped⟩)), ?_⟩
    rintro a f mapped rfl
    have works : ¬ (((s.elapse dt).laneOf l).state = .up ∧ (s.elapse dt).mappedAddress l = none) := fun both =>
      Option.some_ne_none a (mapped.symm.trans both.2)
    have composed : refreshExpired l (s.elapse dt) =
        composeDue l ((s.elapse dt).onLane l fun b => { b with refresh := .idle }) := if_neg works
    rw [expired, composed]
    have state : (((s.elapse dt).onLane l fun b => { b with refresh := .idle }).laneOf l).state = .up := by
      rw [State.laneOf_onLane, if_pos rfl]
      exact up
    refine ⟨fun sends => congrArg _ (composeDue_pends channels state mapped sends), fun idle => ?_⟩
    have sent := sendDemand_sent l a ((s.elapse dt).onLane l fun b => { b with refresh := .idle })
    rw [composeDue_sends channels state mapped idle]
    have refreshed := congrArg LaneBox.refresh ((sent.box l).trans (if_pos rfl))
    have blocks := sent.blocks
    refine ⟨fun waits => ?_, fun none b rest free => ?_⟩
    · obtain ⟨queue, pool⟩ := sent.recomposed waits
      refine ⟨_, rfl, queue, pool, refreshed, ?_⟩
      rw [blocks]
      exact ⟨rfl, rfl, rfl⟩
    · obtain ⟨queue, pool⟩ := sent.placed none b rest free
      refine ⟨_, rfl, queue, pool, refreshed, fun ch own => ?_, ?_⟩
      · rw [sent.demands, if_pos own]
        rfl
      · rw [blocks]
        exact ⟨rfl, rfl, rfl⟩
  case write =>
    rintro l u other rfl rfl
    have channels : laneChannels (channelLane ch) ≠ [] := by cases ch <;> exact List.cons_ne_nil _ _
    have box : ∀ k, (s.onDemand ch fun d => { d with requested := v }).laneOf k = s.laneOf k :=
      fun k => State.laneOf_onDemand ..
    have composed : setRequested ch v s =
        composeDue (channelLane ch) (s.onDemand ch fun d => { d with requested := v }) := if_neg other
    rw [composed]
    refine ⟨fun nothing => composeDue_nothing (nothing.imp_left fun low => by rwa [box]), ?_⟩
    rintro a f sent up mapped rfl rfl
    have up : ((s.onDemand ch fun d => { d with requested := v }).laneOf (channelLane ch)).state = .up := by
      rwa [box]
    refine ⟨fun sends => composeDue_pends channels up mapped sends, fun idle => ?_⟩
    rw [composeDue_sends channels up mapped idle]
    have sent := sendDemand_sent (channelLane ch) a (s.onDemand ch fun d => { d with requested := v })
    have blocks := sent.blocks
    refine ⟨sent.recomposed, sent.placed, fun k => ?_, fun c => ?_, ?_⟩
    · rw [sent.box, box, box]
      rfl
    · rw [sent.demands]
      have envelope := s.envelope_onDemand ch fun d => { d with requested := v }
      have clamped : ((s.onDemand ch fun d => { d with requested := v }).demand c).clamped =
          (s.demand c).clamped := by
        rw [State.demand_onDemand]
        split
        next same => rw [same]
        next => rfl
      unfold State.envelopeMin State.envelopeMax
      rw [envelope, clamped]
    · rw [blocks]
      exact ⟨rfl, rfl, rfl, rfl, rfl⟩

end

end Sys2Proof.Machine

/-! SUPPORT. The classes of a frame on a lane, and a NODE frame on its way up (R119, R120, R122, R138, R142). -/

namespace Sys2Proof.Machine

section
variable {dt : Nat} {l : Lane} {area : ReceiveArea} {f : Frame} {s t u : State}

/-! ## The classes (R119, R138) -/

theorem laneArrival_misrouted (h : s.classify l area = .misrouted) : laneArrival l area s = s := by
  rw [laneArrival, h]

theorem laneArrival_bad (h : s.classify l area = .bad) : laneArrival l area s = countBad l s := by
  rw [laneArrival, h]

theorem laneArrival_malformed (h : s.classify l area = .malformed f) :
    laneArrival l area s = decimate f (countBad l s) := by
  rw [laneArrival, h]

theorem laneArrival_node (h : s.classify l area = .valid f) (node : f.kind = kindNode) :
    laneArrival l area s = offerFrame .shaft .node f (laneAlive l s) := by
  rw [laneArrival, h]
  exact (if_neg (by rw [node]; decide)).trans (if_pos node)

theorem laneArrival_other (h : s.classify l area = .valid f) (other : f.kind ≠ kindSample)
    (kind : f.kind ≠ kindNode) : laneArrival l area s = laneAlive l s := by
  rw [laneArrival, h]
  exact (if_neg other).trans (if_neg kind)

/-- A valid frame comes from the address that is mapped to its lane. -/
theorem mappedAddress_of_valid (h : s.classify l area = .valid f) : s.mappedAddress l = some f.src.toNat := by
  unfold State.classify at h
  split at h
  · cases h
  · split at h
    · cases h
    next same =>
      split at h
      · cases h
      · cases h
        exact not_not.mp same

theorem countBad_counts (counted : State) (low : (s.laneOf l).state ≠ .up → counted = s)
    (few : (s.laneOf l).state = .up → (s.laneOf l).badRun + 1 < 8 →
      counted = s.onLane l fun b => { b with badRun := b.badRun + 1 })
    (eighth : (s.laneOf l).state = .up → 8 ≤ (s.laneOf l).badRun + 1 → counted = faultLane l s) :
    countBad l s = counted := by
  unfold countBad
  split
  next other => exact (low other).symm
  next up =>
    split
    next full => exact (eighth (not_not.mp up) full).symm
    next short => exact (few (not_not.mp up) (not_le.mp short)).symm

/-! ## Admission to the upper queue (R142) -/

theorem offerNode_refused (h : 18 ≤ s.forwardedWaiting .shaft ∨ s.path.free.length ≤ 10) :
    offerFrame .shaft .node f s = s := if_pos h

theorem offerNode_placed {b : Nat} {rest : List Nat} (share : s.forwardedWaiting .shaft < 18)
    (reserve : 10 < s.path.free.length) (free : s.path.free = b :: rest) :
    offerFrame .shaft .node f s = s.onPath fun x =>
      { x with free := rest, queue := x.queue.set .shaft (s.queueOf .shaft ++ [⟨b, .node, f⟩]) } :=
  (if_neg (not_or.mpr ⟨not_le.mpr share, not_le.mpr reserve⟩)).trans (enqueue_cons free)

/-! ## A lane that comes into UP (R120) -/

/-- A lane that a valid frame brings into UP, before its DEMAND is composed. -/
def laneRaised (l : Lane) (s : State) : State :=
  s.onLane l fun b =>
    { b with state := .up, badRun := 0, silence := .running ((s.setting .laneSilence).toNat * 1000) s.now
             refresh := if laneChannels l = [] then b.refresh
               else .running ((s.setting .refreshInterval).toNat * 1000) s.now }

theorem laneAlive_raises (low : (s.laneOf l).state ≠ .up) :
    laneAlive l s = composeDue l (laneRaised l s) := if_neg low

theorem laneRaised_up (l : Lane) (s : State) : ((laneRaised l s).laneOf l).state = .up := by
  rw [laneRaised, State.laneOf_onLane, if_pos rfl]

/-- With its refresh timer just started, the DEMAND that a raised lane sends leaves its box as it is. -/
theorem DemandSent.raised (channels : laneChannels l ≠ []) (sent : DemandSent l f (laneRaised l s) t) (k : Lane) :
    t.laneOf k = (laneRaised l s).laneOf k := by
  rw [sent.box]
  split
  next same =>
    rw [same, laneRaised, State.laneOf_onLane, if_pos rfl]
    simp only [if_neg channels]
    rfl
  next => rfl

/-- Settles O43: each class of a frame, the routing of a NODE frame, and the lane that a valid frame raises. -/
theorem laneFrameClasses : Obligations.LaneFrameClasses := by
  rintro dt l rx s u a running empty rfl rfl
  obtain ⟨frame, sample⟩ := exec_lane (dt := dt) (rx := rx) running empty
  refine ⟨fun misrouted => ?_, fun counted low few eighth => ?_, ?_⟩
  · rw [frame, sample, laneArrival_misrouted (s := emptyArea (.lane l) (s.elapse dt)) misrouted]
    exact ⟨rfl, rfl⟩
  · have counts := countBad_counts (s := emptyArea (.lane l) (s.elapse dt)) (l := l) counted low few eighth
    refine ⟨fun bad => ?_, fun f malformed => ?_⟩
    · rw [frame, sample, laneArrival_bad (s := emptyArea (.lane l) (s.elapse dt)) bad, counts]
      exact ⟨rfl, rfl⟩
    · rw [sample, laneArrival_malformed (s := emptyArea (.lane l) (s.elapse dt)) malformed, counts]
  · rintro f alive valid other rfl
    have mapped := mappedAddress_of_valid valid
    refine ⟨fun kind => ?_, fun node => ⟨fun refused => ?_, fun b rest share reserve free => ?_⟩,
      fun up => if_pos up, ?_⟩
    · rw [frame, laneArrival_other (s := emptyArea (.lane l) (s.elapse dt)) valid other kind]
    · rw [frame, laneArrival_node (s := emptyArea (.lane l) (s.elapse dt)) valid node, offerNode_refused refused]
    · rw [frame, laneArrival_node (s := emptyArea (.lane l) (s.elapse dt)) valid node,
        offerNode_placed share reserve free]
    · rintro low up demand rfl rfl
      have raises := laneAlive_raises (s := emptyArea (.lane l) (s.elapse dt)) low
      have state := laneRaised_up l (emptyArea (.lane l) (s.elapse dt))
      rw [raises]
      refine ⟨fun none => if_pos (.inl none), fun channels => ⟨fun sends =>
        composeDue_pends channels state mapped sends, fun idle => ?_⟩⟩
      rw [composeDue_sends channels state mapped idle]
      have sent := sendDemand_sent l f.src.toNat (laneRaised l (emptyArea (.lane l) (s.elapse dt)))
      have blocks := sent.blocks
      have dest : BitVec.ofNat 8 f.src.toNat = f.src := BitVec.ofNat_toNat ..
      refine ⟨sent.raised channels, fun ch => sent.demands ch, fun waits => ?_, fun none b rest free => ?_, ?_⟩
      · obtain ⟨queue, pool⟩ := sent.recomposed waits
        refine ⟨pool, queue.trans ?_⟩
        rw [State.demandFrame, dest]
        rfl
      · obtain ⟨queue, pool⟩ := sent.placed none b rest free
        refine ⟨pool, queue.trans ?_⟩
        rw [State.demandFrame, dest]
        rfl
      · rw [blocks]
        exact ⟨rfl, rfl, rfl, rfl, rfl⟩

end

end Sys2Proof.Machine

/-! SUPPORT. The timers of a lane and its entry into FAULT (R33, R88, R113, R121, R123). -/

namespace Sys2Proof.Machine

section
variable {dt : Nat} {l : Lane} {s t u : State}

theorem exec_silence_early (running : s.inReset = false)
    (early : (s.laneOf l).silence.due (s.now + dt) = false) :
    exec (.silenceTimerExpiry dt l) s = .next (s.elapse dt) :=
  (exec_running _ running).trans (congrArg _ (expiry_early early))

theorem exec_silence_due (running : s.inReset = false)
    (due : (s.laneOf l).silence.due (s.now + dt) = true) :
    exec (.silenceTimerExpiry dt l) s = .next (faultLane l (s.elapse dt)) :=
  (exec_running _ running).trans (congrArg _ (expiry_due due))

theorem exec_freshness_early (running : s.inReset = false)
    (early : (s.laneOf l).freshTimer.due (s.now + dt) = false) :
    exec (.freshnessExpiry dt l) s = .next (s.elapse dt) :=
  (exec_running _ running).trans (congrArg _ (expiry_early early))

theorem exec_freshness_due (running : s.inReset = false)
    (due : (s.laneOf l).freshTimer.due (s.now + dt) = true) :
    exec (.freshnessExpiry dt l) s = .next (freshnessExpired l (s.elapse dt)) :=
  (exec_running _ running).trans (congrArg _ (expiry_due due))

/-- A survey that is evaluated without a valid attitude or a fresh depth pauses, if it goes on at all. -/
theorem surveyEvaluated_lacking (v : Survey) : surveyEvaluated false v =
    { v with state := if v.state = .surveying then .paused else v.state } := by
  obtain ⟨state⟩ := v
  cases state <;> simp [surveyEvaluated]

/-! ## A lane that enters FAULT (R121) -/

/-- A lane in FAULT, before its trip is latched. -/
def laneFaulted (l : Lane) (s : State) : State :=
  s.onLane l fun b =>
    { b with state := .fault, silence := .idle, badRun := 0, refresh := .idle, compose := false }

theorem faultLane_eq (l : Lane) (s : State) :
    faultLane l s = sendReport .urgent (actOnLatch (.laneTrip l) (enterKind (.laneTrip l) (laneFaulted l s))) :=
  latch_eq_enterKind ..

theorem laneOf_faultLane (l : Lane) (s : State) : (faultLane l s).laneOf l =
    { s.laneOf l with
      state := .fault, silence := .idle, badRun := 0, refresh := .idle, compose := false } := by
  have faulted : (laneFaulted l s).laneOf l = _ := (State.laneOf_onLane ..).trans (if_pos rfl)
  refine ((BoxesKept.latch (.laneTrip l) (laneFaulted l s)).down l ?_).trans faulted
  rw [faulted]
  exact LaneState.noConfusion

theorem faultLane_latched (l : Lane) (s : State) : (faultLane l s).latched (.laneTrip l) = true :=
  (latch_latched ..).mpr (.inl rfl)

theorem faultLane_survey (l : Lane) (s : State) : (faultLane l s).survey = s.survey := latch_survey ..

/-- R33: LANE_DRIVE takes each loop that is not in STOPPED to TRIPPED. -/
theorem faultLane_drive (s : State) : (faultLane .drive s).steering = s.steering ∧ ∀ g,
    ((faultLane .drive s).loopOf g).state =
      if (s.loopOf g).state = .stopped then .stopped else .tripped := by
  set faulted := enterKind (.laneTrip .drive) (laneFaulted .drive s)
  have acted : actOnLatch (.laneTrip .drive) faulted = tripUnlessStopped .g2 (tripUnlessStopped .g1 faulted) := rfl
  have moves : LoopMoves faulted (tripUnlessStopped .g2 (tripUnlessStopped .g1 faulted)) :=
    (LoopMoves.tripUnlessStopped ..).trans (LoopMoves.tripUnlessStopped ..)
  rw [faultLane_eq, sendReport_steering, acted]
  refine ⟨moves.steering, fun g => ?_⟩
  rw [sendReport_loopOf]
  show (tripUnlessStopped .g2 (tripUnlessStopped .g1 faulted)).loopStates g = _
  rw [tripUnlessStopped_loopStates, tripUnlessStopped_loopStates]
  have same : faulted.loopStates = s.loopStates := rfl
  rw [same]
  show _ = if s.loopStates g = .stopped then _ else _
  cases g with
  | g1 => by_cases stopped : s.loopStates .g1 = .stopped <;> simp [stopped]
  | g2 => by_cases stopped : s.loopStates .g2 = .stopped <;> simp [stopped]

/-- R88: LANE_STEER takes steering to OFF. -/
theorem faultLane_steer (s : State) : (faultLane .steer s).drive = s.drive ∧
    (faultLane .steer s).slurry = s.slurry ∧ (faultLane .steer s).steering.state = .off := by
  rw [faultLane_eq, sendReport_drive, sendReport_slurry, sendReport_steering]
  unfold actOnLatch
  dsimp only
  split
  next off => exact ⟨rfl, rfl, off⟩
  · rw [enterSteeringClear_eq]
    exact ⟨rfl, rfl, rfl⟩

theorem faultLane_attitude (s : State) : (faultLane .attitude s).drive = s.drive ∧
    (faultLane .attitude s).slurry = s.slurry ∧ (faultLane .attitude s).steering = s.steering := by
  rw [faultLane_eq, sendReport_drive, sendReport_slurry, sendReport_steering]
  exact ⟨rfl, rfl, rfl⟩

/-- R113: LANE_SLURRY takes a working slurry loop to TRIPPED and stops the drive loops. -/
theorem faultLane_slurry (s : State) : (faultLane .slurry s).steering = s.steering ∧
    (faultLane .slurry s).slurry.state = (if s.slurry.state = .stopped then .stopped else .tripped) ∧
    (s.slurry.state ≠ .stopped → s.slurry.state ≠ .tripped →
      ∀ g, ((faultLane .slurry s).loopOf g).state = s.stopOutcome g) := by
  rw [faultLane_eq, sendReport_steering, sendReport_slurry]
  unfold actOnLatch
  dsimp only
  split
  next idle =>
    refine ⟨rfl, ?_, fun works other => absurd idle (not_or.mpr ⟨works, other⟩)⟩
    obtain stopped | tripped := idle
    · rw [if_pos (show s.slurry.state = _ from stopped)]
      exact stopped
    · rw [if_neg (show s.slurry.state ≠ _ by rw [show s.slurry.state = _ from tripped]; exact SlurryState.noConfusion)]
      exact tripped
  next works =>
    obtain ⟨other, -⟩ := not_or.mp works
    unfold tripSlurry
    refine ⟨?_, ?_, fun _ _ g => ?_⟩
    · rw [stopBoth_steering, zeroSlurry_steering]
      rfl
    · rw [stopBoth_slurryState, zeroSlurry_slurry]
      exact (if_neg other).symm
    · rw [sendReport_loopOf, stopBoth_state]
      unfold State.stopOutcome
      rw [zeroSlurry_loopOf, zeroSlurry_pickupOf]
      rfl

/-- Settles O44: the timers of a lane, a source that goes stale, and what each lane's FAULT leaves. -/
theorem laneTimersExpire : Obligations.LaneTimersExpire := by
  refine ⟨?_, fun l s => ⟨laneOf_faultLane l s, faultLane_latched l s, faultLane_survey l s, ?_, ?_, ?_, ?_⟩⟩
  · rintro dt l s u running rfl
    refine ⟨exec_silence_early running, exec_freshness_early running, exec_silence_due running, fun due => ?_⟩
    rw [exec_freshness_due running due]
    refine ⟨?_, ?_, ?_⟩
    · rintro (rfl | rfl) <;> rfl
    · rintro rfl
      rw [freshnessExpired]
      dsimp only
      rw [evaluateSurvey, State.attitudeValid, State.laneOf_onLane, if_pos rfl]
      dsimp only
      rw [Bool.false_and, State.onSurvey, surveyEvaluated_lacking]
      rfl
    · rintro rfl
      rw [freshnessExpired]
      dsimp only
      unfold primingStale
      split
      next priming =>
        rw [if_pos (show s.slurry.state = .priming from priming)]
        rfl
      next other =>
        rw [if_neg (show s.slurry.state ≠ .priming from other)]
        rfl
  · rintro rfl; exact faultLane_drive s
  · rintro rfl; exact faultLane_steer s
  · rintro rfl; exact faultLane_attitude s
  · rintro rfl; exact faultLane_slurry s

end

end Sys2Proof.Machine

/-! SUPPORT. Operator DEMAND frames and the deadman timers (R126, R127). -/

namespace Sys2Proof.Machine

section
variable {dt : Nat} {l : Lane} {s t u : State} {c ch : Channel} {w : Word}

theorem composeDue_demand_outside (outside : c ∉ laneChannels l) : (composeDue l s).demand c = s.demand c := by
  unfold composeDue
  split
  · rfl
  split
  · rfl
  split
  · rw [State.demand_onLane]
  · rw [sendDemand_demand, markClamped_demand, if_neg outside]

theorem channelLane_of_mem : ∀ ch ∈ laneChannels l, channelLane ch = l := by cases l <;> decide

theorem laneChannels_nodup (l : Lane) : (laneChannels l).Nodup := by cases l <;> decide

/-! ## One item for one channel (R126) -/

/-- What a DEMAND from the operator may change of a channel. -/
structure SameDemand (d e : Demand) : Prop where
  owner : e.owner = d.owner
  requested : e.requested = d.requested
  deadman : e.deadman = d.deadman

theorem SameDemand.trans {d e f : Demand} (h : SameDemand d e) (k : SameDemand e f) : SameDemand d f :=
  ⟨k.owner.trans h.owner, k.requested.trans h.requested, k.deadman.trans h.deadman⟩

/-- A channel after the item `w` of an operator DEMAND. -/
structure Merged (s t : State) (ch : Channel) (w : Word) : Prop where
  owner : (t.demand ch).owner = (s.demand ch).owner
  set : (s.demand ch).owner = .operator → w ≠ 0x8000#16 →
    (t.demand ch).requested = clamp (channelLow ch) 1000 w.toInt ∧
      (t.demand ch).deadman = .running ((s.setting .deadmanTime).toNat * 1000) s.now
  kept : (s.demand ch).owner = .loop ∨ w = 0x8000#16 →
    (t.demand ch).requested = (s.demand ch).requested ∧ (t.demand ch).deadman = (s.demand ch).deadman

theorem mergeItem_set (own : (s.demand ch).owner = .operator) (present : w ≠ 0x8000#16) :
    mergeItem ch w s = setRequested ch (clamp (channelLow ch) channelHigh w.toInt)
      (s.onDemand ch fun d => { d with deadman := s.startMs .deadmanTime }) := by
  have value : itemValue w = some w.toInt := if_neg present
  rw [mergeItem, value, own]

theorem mergeItem_kept (h : (s.demand ch).owner = .loop ∨ w = 0x8000#16) : mergeItem ch w s = s := by
  unfold mergeItem
  obtain own | absent := h
  · rw [own]
    cases itemValue w <;> rfl
  · rw [show itemValue w = none from if_pos absent]

/-- An item is taken, or leaves everything. -/
theorem mergeItem_cases (ch : Channel) (w : Word) (s : State) :
    ((s.demand ch).owner = .operator ∧ w ≠ 0x8000#16) ∨ ((s.demand ch).owner = .loop ∨ w = 0x8000#16) := by
  by_cases absent : w = 0x8000#16
  · exact .inr (.inr absent)
  · cases own : (s.demand ch).owner with
    | operator => exact .inl ⟨rfl, absent⟩
    | loop => exact .inr (.inl rfl)

theorem merged_mergeItem (ch : Channel) (w : Word) (s : State) : Merged s (mergeItem ch w s) ch w := by
  obtain ⟨own, present⟩ | kept := mergeItem_cases ch w s
  · rw [mergeItem_set own present]
    refine ⟨?_, fun _ _ => ⟨?_, ?_⟩, fun other => ?_⟩
    · rw [setRequested_owner, State.demand_onDemand, if_pos rfl]
    · rw [setRequested_requested, if_pos rfl]
      rfl
    · rw [setRequested_deadman, State.demand_onDemand, if_pos rfl]
      rfl
    · exact other.elim (fun loop => Owner.noConfusion (own.symm.trans loop)) fun absent => absurd absent present
  · rw [mergeItem_kept kept]
    refine ⟨rfl, fun own present => ?_, fun _ => ⟨rfl, rfl⟩⟩
    exact kept.elim (fun loop => Owner.noConfusion (own.symm.trans loop)) fun absent => absurd absent present

theorem mergeItem_other (other : c ≠ ch) (w : Word) (s : State) :
    SameDemand (s.demand c) ((mergeItem ch w s).demand c) := by
  obtain ⟨own, present⟩ | kept := mergeItem_cases ch w s
  · rw [mergeItem_set own present]
    refine ⟨?_, ?_, ?_⟩
    · rw [setRequested_owner, State.demand_onDemand, if_neg other]
    · rw [setRequested_requested, if_neg other, State.demand_onDemand, if_neg other]
    · rw [setRequested_deadman, State.demand_onDemand, if_neg other]
  · rw [mergeItem_kept kept]
    exact ⟨rfl, rfl, rfl⟩

theorem mergeItem_outside (outside : c ∉ laneChannels (channelLane ch)) (other : c ≠ ch) (w : Word) (s : State) :
    (mergeItem ch w s).demand c = s.demand c := by
  obtain ⟨own, present⟩ | kept := mergeItem_cases ch w s
  · rw [mergeItem_set own present]
    unfold setRequested
    split
    · rw [State.demand_onDemand, if_neg other]
    · rw [composeDue_demand_outside outside, State.demand_onDemand, if_neg other, State.demand_onDemand,
        if_neg other]
  · rw [mergeItem_kept kept]

/-! ## The items in channel order -/

theorem mergeItems_other {chs : List Channel} (outside : c ∉ chs) (ws : List Word) (s : State) :
    SameDemand (s.demand c) ((mergeItems chs ws s).demand c) := by
  induction chs generalizing ws s with
  | nil => exact ⟨rfl, rfl, rfl⟩
  | cons first chs ih =>
    obtain ⟨other, outside⟩ := List.ne_and_not_mem_of_not_mem_cons outside
    cases ws with
    | nil => exact ⟨rfl, rfl, rfl⟩
    | cons w ws => exact (mergeItem_other other w s).trans (ih outside ws _)

theorem mergeItems_outside {chs : List Channel} (own : ∀ ch ∈ chs, channelLane ch = l)
    (outside : c ∉ laneChannels l) (apart : c ∉ chs) (ws : List Word) (s : State) :
    (mergeItems chs ws s).demand c = s.demand c := by
  induction chs generalizing ws s with
  | nil => rfl
  | cons first chs ih =>
    obtain ⟨other, apart⟩ := List.ne_and_not_mem_of_not_mem_cons apart
    have same := own first List.mem_cons_self
    cases ws with
    | nil => rfl
    | cons w ws =>
      exact (ih (fun ch here => own ch (List.mem_cons_of_mem _ here)) apart ws _).trans
        (mergeItem_outside (same ▸ outside) other w s)

theorem merged_mergeItems {chs : List Channel} (distinct : chs.Nodup) (ws : List Word) (s : State) {i : Nat}
    (at_ : chs[i]? = some ch) (item : ws[i]? = some w) : Merged s (mergeItems chs ws s) ch w := by
  induction chs generalizing ws s i with
  | nil => cases at_
  | cons first chs ih =>
    obtain ⟨apart, distinct⟩ := List.nodup_cons.mp distinct
    cases ws with
    | nil => cases item
    | cons v ws =>
      cases i with
      | zero =>
        obtain rfl : first = ch := Option.some.inj at_
        obtain rfl : v = w := Option.some.inj item
        have one := merged_mergeItem first v s
        have rest := mergeItems_other apart ws (mergeItem first v s)
        refine ⟨rest.owner.trans one.owner, fun own present => ?_, fun keeps => ?_⟩
        · obtain ⟨requested, deadman⟩ := one.set own present
          exact ⟨rest.requested.trans requested, rest.deadman.trans deadman⟩
        · obtain ⟨requested, deadman⟩ := one.kept keeps
          exact ⟨rest.requested.trans requested, rest.deadman.trans deadman⟩
      | succ i =>
        have later := ih distinct ws (mergeItem first v s) at_ item
        have other : ch ≠ first := fun same => apart (same ▸ List.mem_of_getElem? at_)
        have before := mergeItem_other other v s
        have timer : (mergeItem first v s).setting .deadmanTime = s.setting .deadmanTime ∧
            (mergeItem first v s).now = s.now := by rw [mergeItem_eq]; exact ⟨rfl, rfl⟩
        refine ⟨later.owner.trans before.owner, fun own present => ?_, fun keeps => ?_⟩
        · rw [← timer.1, ← timer.2]
          exact later.set (before.owner.trans own) present
        · obtain ⟨requested, deadman⟩ := later.kept (keeps.imp_left before.owner.trans)
          exact ⟨requested.trans before.requested, deadman.trans before.deadman⟩

/-! ## The frame and the deadman timer (R126, R127) -/

theorem exec_operatorDemand {dest : Byte} {items : List Word} (running : s.inReset = false) :
    exec (.operatorDemand dt dest items) s = .next (operatorDemand dest items (s.afterFrame dt)) :=
  exec_running _ running

theorem operatorDemand_merges {dest : Byte} {items : List Word} (node : s.nodeLane dest = some l)
    (channels : laneChannels l ≠ []) (count : items.length = (laneChannels l).length) :
    operatorDemand dest items s = mergeItems (laneChannels l) items s := by
  rw [operatorDemand, node]
  exact if_neg (by simp [channels, count])

theorem operatorDemand_ignored {dest : Byte} {items : List Word} (node : s.nodeLane dest = some l)
    (h : laneChannels l = [] ∨ items.length ≠ (laneChannels l).length) : operatorDemand dest items s = s := by
  rw [operatorDemand, node]
  exact if_pos h

theorem exec_deadman_early (running : s.inReset = false)
    (early : (s.demand ch).deadman.due (s.now + dt) = false) :
    exec (.deadmanExpiry dt ch) s = .next (s.elapse dt) :=
  (exec_running _ running).trans (congrArg _ (expiry_early early))

theorem exec_deadman_due (running : s.inReset = false)
    (due : (s.demand ch).deadman.due (s.now + dt) = true) :
    exec (.deadmanExpiry dt ch) s = .next (deadmanExpired ch (s.elapse dt)) :=
  (exec_running _ running).trans (congrArg _ (expiry_due due))

/-- Settles O45: a frame for no lane, one that is ignored, one that is merged, and the deadman timer. -/
theorem operatorDemandIsMerged : Obligations.OperatorDemandIsMerged := by
  refine ⟨fun dt dest items s running => ⟨fun nothing => ?_, fun l node => ⟨fun ignored => ?_,
    fun channels count => ?_⟩⟩, fun dt ch s running early => exec_deadman_early running early,
    fun dt ch s running due => ?_⟩
  · have ignored : operatorDemand dest items (s.afterFrame dt) = s.afterFrame dt := by
      rw [operatorDemand, show (s.afterFrame dt).nodeLane dest = none from nothing]
    rw [exec_operatorDemand running, ignored]
  · rw [exec_operatorDemand running, operatorDemand_ignored (s := s.afterFrame dt) node ignored]
  · refine ⟨_, (exec_operatorDemand running).trans (congrArg _ (operatorDemand_merges (s := s.afterFrame dt)
      node channels count)), fun i ch w at_ item => ?_, fun ch outside => ?_, ?_⟩
    · obtain ⟨owner, set, kept⟩ := merged_mergeItems (laneChannels_nodup l) items (s.afterFrame dt) at_ item
      exact ⟨owner, set, kept⟩
    · exact mergeItems_outside channelLane_of_mem outside outside items (s.afterFrame dt)
    · rw [mergeItems_eq]
      exact ⟨rfl, rfl, rfl, rfl, rfl⟩
  · refine ⟨_, exec_deadman_due running due, ?_, ?_, ?_, fun other apart => ?_, ?_⟩ <;> rw [deadmanExpired]
    · rw [setRequested_requested, if_pos rfl]
    · rw [setRequested_deadman, State.demand_onDemand, if_pos rfl]
    · rw [setRequested_owner, State.demand_onDemand, if_pos rfl]
      rfl
    · rw [setRequested_requested, if_neg apart, State.demand_onDemand, if_neg apart]
      rfl
    · rw [setRequested_eq]
      exact ⟨rfl, rfl, rfl, rfl, rfl⟩

end

end Sys2Proof.Machine

/-! SUPPORT. Frames that the part passes on, and transmissions (R131, R134, R139, R140, R142, R143, R145 to
R148, R172). -/

namespace Sys2Proof.Machine

section
variable {dt : Nat} {l : Lane} {p : Port} {f : Frame} {s t u : State} {e : Queued}

/-! ## A NODE frame on its way down (R140, R142) -/

theorem exec_shaftFrameDiscard (rx : Reception) (running : s.inReset = false) :
    exec (.shaftFrameDiscard dt rx) s = .next (s.afterFrame dt) :=
  (exec_running _ running).trans (congrArg _ (emptyArea_storeChars .shaft rx (s.elapse dt)))

theorem exec_nodeDown (running : s.inReset = false) :
    exec (.nodeDown dt f) s = .next (nodeDown f (s.afterFrame dt)) := exec_running _ running

theorem nodeDown_stopped (h : s.nodeLane f.dest = none ∨ routeWord s.path.route f.dest.toNat 2 ≠ 1) :
    nodeDown f s = s := by
  unfold nodeDown
  split
  · rfl
  next some => exact if_neg (h.resolve_left (by rw [some]; exact Option.some_ne_none _))

theorem nodeDown_passes (node : s.nodeLane f.dest = some l) (passes : routeWord s.path.route f.dest.toNat 2 = 1) :
    nodeDown f s = offerFrame (.lane l) .node f s := by
  rw [nodeDown, node]
  exact if_pos passes

theorem offerFrame_refused {tag : Tag} (h : forwardedShare p ≤ s.forwardedWaiting p ∨ s.path.free.length ≤ 10) :
    offerFrame p tag f s = s := if_pos h

theorem offerFrame_placed {tag : Tag} {b : Nat} {rest : List Nat} (share : s.forwardedWaiting p < forwardedShare p)
    (reserve : 10 < s.path.free.length) (free : s.path.free = b :: rest) :
    offerFrame p tag f s = s.onPath fun x =>
      { x with free := rest, queue := x.queue.set p (s.queueOf p ++ [⟨b, tag, f⟩]) } :=
  (if_neg (not_or.mpr ⟨not_le.mpr share, not_le.mpr reserve⟩)).trans (enqueue_cons free)

/-! ## Decimation (R139, R143) -/

theorem offerSample_supersedes (waits : ∃ e ∈ s.queueOf .shaft, e.sampleFrom f.src = true) :
    offerSample f s = s.setQueue .shaft ((s.queueOf .shaft).map fun e =>
      if e.sampleFrom f.src then { e with frame := f } else e) := if_pos (List.any_eq_true.mpr waits)

theorem offerSample_offers (none : ∀ e ∈ s.queueOf .shaft, e.sampleFrom f.src = false) :
    offerSample f s = offerFrame .shaft .sample f s :=
  if_neg (by simpa using none)

/-- The decimation counter of a frame's source set to 0. -/
def decimationCleared (f : Frame) (s : State) : State :=
  s.onPath fun x => { x with decimation := x.decimation.set f.src.toNat 0 }

theorem decimate_off (off : routeWord s.path.route f.src.toNat 1 = 0) : decimate f s =
    decimationCleared f s := if_pos off

theorem decimate_counts {n c : Nat} (entry : n = routeWord s.path.route f.src.toNat 1)
    (count : c = s.path.decimation.getD f.src.toNat 0) (short : c + 1 < n) : decimate f s =
      s.onPath fun x => { x with decimation := x.decimation.set f.src.toNat (c + 1) } := by
  subst entry count
  exact (if_neg (by omega)).trans (if_pos short)

theorem decimate_offers {n c : Nat} (entry : n = routeWord s.path.route f.src.toNat 1)
    (count : c = s.path.decimation.getD f.src.toNat 0) (on : n ≠ 0) (full : n ≤ c + 1) : decimate f s =
      offerSample f (decimationCleared f s) := by
  subst entry count
  exact (if_neg on).trans (if_neg (by omega))

/-- Settles O47: a frame that goes no further, a NODE frame down, and a SAMPLE up. -/
theorem forwardedFrameIsAdmitted : Obligations.ForwardedFrameIsAdmitted := by
  refine ⟨fun dt s running => ⟨fun rx => exec_shaftFrameDiscard rx running, fun f => ⟨fun stops => ?_,
    fun l node passes => ?_⟩⟩, ?_⟩
  · rw [exec_nodeDown running, nodeDown_stopped (s := s.afterFrame dt) stops]
  · rw [exec_nodeDown running, nodeDown_passes (s := s.afterFrame dt) node passes]
    refine ⟨fun refused => ?_, fun b rest share reserve free => ?_⟩
    · rw [offerFrame_refused (s := s.afterFrame dt) (p := .lane l) refused]
    · rw [offerFrame_placed (s := s.afterFrame dt) (p := .lane l) share reserve free]
      rfl
  · rintro f s u n c entry count rfl
    refine ⟨fun off => decimate_off (entry ▸ off), decimate_counts entry count, fun on full => ?_⟩
    rw [decimate_offers entry count on full]
    refine ⟨fun e here sample => offerSample_supersedes (s := decimationCleared f s) ⟨e, here, sample⟩,
      fun none => ?_⟩
    rw [offerSample_offers (s := decimationCleared f s) none]
    exact ⟨fun refused => offerFrame_refused (s := decimationCleared f s) (p := .shaft) refused,
      fun b rest share reserve free =>
        offerFrame_placed (s := decimationCleared f s) (p := .shaft) share reserve free⟩

end

end Sys2Proof.Machine

/-! SUPPORT. The start of a transmission and the bits on the pin (R131, R145 to R148, R172). -/

namespace Sys2Proof.Machine

section
variable {dt : Nat} {l : Lane} {p : Port} {s t u : State} {e : Queued} {ch : Channel} {w : Word}

/-! ## The selection (R146, R148) -/

section
variable {test : Tag → Bool} {order : List (Tag → Bool)} {q : List Queued}

theorem selectBy_found (found : (q.find? fun e => test e.tag) ≠ none) :
    selectBy (test :: order) q = q.find? fun e => test e.tag := by
  obtain ⟨e, here⟩ := Option.ne_none_iff_exists'.mp found
  rw [selectBy, List.findSome?_cons, here]

theorem selectBy_skips (none : (q.find? fun e => test e.tag) = none) :
    selectBy (test :: order) q = selectBy order q := by
  rw [selectBy, List.findSome?_cons, none]
  rfl

theorem selectBy_last : selectBy [test] q = q.find? fun e => test e.tag := by
  rw [selectBy, List.findSome?_cons]
  cases q.find? fun e => test e.tag <;> rfl

end

/-- At an arbiter count of 3 the second test finds a forwarded frame, and at any other none. -/
theorem find?_atCount {q : List Queued} {count : Nat} :
    (q.find? fun e => e.tag.forwarded && decide (count = 3)) =
      if count = 3 then q.find? fun e => e.tag.forwarded else none := by
  split
  next full => simp [full]
  next low => simp [low]

/-! ## The last sent values (R131) -/

theorem setLastSent_other {c : Channel} {chs : List Channel} (outside : c ∉ chs) (ws : List Word) (s : State) :
    (setLastSent chs ws s).demand c = s.demand c := by
  induction chs generalizing ws s with
  | nil => rfl
  | cons first chs ih =>
    obtain ⟨other, outside⟩ := List.ne_and_not_mem_of_not_mem_cons outside
    cases ws with
    | nil => rfl
    | cons w ws => rw [setLastSent, ih outside, State.demand_onDemand, if_neg other]

theorem setLastSent_demand {chs : List Channel} (distinct : chs.Nodup) (ws : List Word) (s : State) {i : Nat}
    (at_ : chs[i]? = some ch) (item : ws[i]? = some w) :
    (setLastSent chs ws s).demand ch = { s.demand ch with lastSent := w.toInt } := by
  induction chs generalizing ws s i with
  | nil => cases at_
  | cons first chs ih =>
    obtain ⟨apart, distinct⟩ := List.nodup_cons.mp distinct
    cases ws with
    | nil => cases item
    | cons v ws =>
      rw [setLastSent]
      cases i with
      | zero =>
        obtain rfl : first = ch := Option.some.inj at_
        obtain rfl : v = w := Option.some.inj item
        rw [setLastSent_other apart, State.demand_onDemand, if_pos rfl]
        rfl
      | succ i =>
        have other : ch ≠ first := fun same => apart (same ▸ List.mem_of_getElem? at_)
        rw [ih distinct ws _ at_ item, State.demand_onDemand, if_neg other]

theorem laneOf_setLastSent (chs : List Channel) (ws : List Word) (s : State) (k : Lane) :
    (setLastSent chs ws s).laneOf k = s.laneOf k := by
  induction chs generalizing ws s with
  | nil => rfl
  | cons ch chs ih =>
    cases ws with
    | nil => rfl
    | cons w ws => rw [setLastSent, ih, State.laneOf_onDemand]

/-! ## The start (R145, R147) -/

/-- The selected frame has left its queue and its transmission has started. -/
def frameLeft (p : Port) (e : Queued) (s : State) : State :=
  s.onPath fun x =>
    { x with queue := x.queue.set p ((s.queueOf p).erase e), tx := x.tx.set p (some ⟨e, s.now⟩) }

theorem startTransmission_starts (idle : s.txOf p = none) (selected : s.selected p = some e) :
    startTransmission p s = noteStart p e (frameLeft p e s) := by
  rw [startTransmission, idle, selected]
  rfl

theorem startTransmission_stays (h : s.txOf p ≠ none ∨ s.selected p = none) : startTransmission p s = s := by
  obtain ⟨same, -⟩ | ⟨e, idle, selected, -⟩ := startTransmission_cases p s
  · exact same
  · exact h.elim (absurd idle) fun none => absurd (selected.symm.trans none) (Option.some_ne_none e)

theorem noteStart_path (p : Port) (e : Queued) (s : State) : (noteStart p e s).path =
    { s.path with arbiter := (noteStart p e s).path.arbiter } := by
  unfold noteStart
  split
  · rfl
  · split
    · rw [setLastSent_eq]
    · rfl

theorem exec_transmissionStart (running : s.inReset = false) :
    exec (.transmissionStart dt p) s = .next (startTransmission p (s.elapse dt)) := exec_running _ running

/-- The pin of a port during its transmission. -/
theorem txPin_sends {x : Transmission} (running : s.inReset = false) (sends : s.txOf p = some x) (k : Nat) :
    s.txPin p k =
      ((frameChars x.entry.frame).flatMap charBits).getD (((s.now - x.since) * 16 + k) / s.bitTicks p) true := by
  rw [State.txPin, running, sends]
  rfl

theorem bitTicks_charMicros (s : State) (p : Port) : s.bitTicks p * 10 = s.charMicros p * 16 := by
  unfold State.bitTicks microTicks State.charMicros
  split
  · split <;> rfl
  · rfl

theorem selected_shaft_urgent (found : ((s.queueOf .shaft).find? fun e => e.tag == .urgent) ≠ none) :
    s.selected .shaft = (s.queueOf .shaft).find? fun e => e.tag == .urgent :=
  selectBy_found (test := (· == .urgent)) found

/-- Without an urgent REPORT the arbiter count decides whether a forwarded frame goes first. -/
theorem selected_shaft (none_ : ((s.queueOf .shaft).find? fun e => e.tag == .urgent) = none) :
    s.selected .shaft = selectBy [fun x => x.forwarded && decide (s.path.arbiter = 3), (· == .reply),
      (· == .periodic), Tag.forwarded] (s.queueOf .shaft) :=
  selectBy_skips (test := (· == .urgent)) none_

theorem selected_shaft_full (none_ : ((s.queueOf .shaft).find? fun e => e.tag == .urgent) = none)
    (full : s.path.arbiter = 3) (found : ((s.queueOf .shaft).find? fun e => e.tag.forwarded) ≠ none) :
    s.selected .shaft = (s.queueOf .shaft).find? fun e => e.tag.forwarded := by
  have same := find?_atCount (q := s.queueOf .shaft) (count := s.path.arbiter)
  rw [if_pos full] at same
  rw [selected_shaft none_, selectBy_found (by rwa [same]), same]

theorem selected_shaft_rest (none_ : ((s.queueOf .shaft).find? fun e => e.tag == .urgent) = none)
    (passes : s.path.arbiter ≠ 3 ∨ ((s.queueOf .shaft).find? fun e => e.tag.forwarded) = none) :
    s.selected .shaft = selectBy [(· == .reply), (· == .periodic), Tag.forwarded] (s.queueOf .shaft) := by
  have same := find?_atCount (q := s.queueOf .shaft) (count := s.path.arbiter)
  rw [selected_shaft none_, selectBy_skips]
  rw [same]
  split
  next full => exact passes.resolve_left (not_not.mpr full)
  next => rfl

/-- What a start leaves in the port, and of the other blocks. -/
theorem startTransmission_effects (idle : s.txOf p = none) (selected : s.selected p = some e) :
    (startTransmission p s).txOf p = some ⟨e, s.now⟩ ∧
      (startTransmission p s).queueOf p = (s.queueOf p).erase e ∧
      (startTransmission p s).path.free = s.path.free := by
  have path := noteStart_path p e (frameLeft p e s)
  rw [startTransmission_starts idle selected, State.txOf, State.queueOf, path]
  refine ⟨?_, ?_, rfl⟩
  · show (s.path.tx.set p _).get p = _
    rw [PerPort.get_set, if_pos rfl]
  · show (s.path.queue.set p _).get p = _
    rw [PerPort.get_set, if_pos rfl]

/-- On the shaft link the arbiter count changes as the table of R147 gives. -/
theorem startTransmission_shaft (idle : s.txOf .shaft = none) (selected : s.selected .shaft = some e) :
    (startTransmission .shaft s).lanes = s.lanes ∧ (startTransmission .shaft s).path.arbiter =
      (if e.tag.forwarded then 0
        else if ((startTransmission .shaft s).queueOf .shaft).any (fun x => x.tag.forwarded) then
          min 3 (s.path.arbiter + 1)
        else 0) := by
  rw [startTransmission_starts idle selected]
  refine ⟨rfl, ?_⟩
  show arbiterAfter s.path.arbiter e.tag (s.path.queue.set .shaft ((s.queueOf .shaft).erase e)).shaft = _
  unfold arbiterAfter
  cases e.tag.forwarded
  · simp only [true_and]
    rfl
  · simp

/-- On a lane a DEMAND gives its values to the last sent values. -/
theorem startTransmission_lane (idle : s.txOf (.lane l) = none) (selected : s.selected (.lane l) = some e) :
    (startTransmission (.lane l) s).path.arbiter = s.path.arbiter ∧
      (e.tag ≠ .demand → (startTransmission (.lane l) s).lanes = s.lanes) ∧
      (e.tag = .demand → ∀ (i : Nat) (ch : Channel) (w : Word),
        (laneChannels l)[i]? = some ch → e.frame.items[i]? = some w →
        (startTransmission (.lane l) s).demand ch = { s.demand ch with lastSent := w.toInt }) := by
  rw [startTransmission_starts idle selected]
  refine ⟨?_, fun other => ?_, fun demand i ch w at_ item => ?_⟩
  · unfold noteStart
    dsimp only
    split
    · rw [setLastSent_eq]
      rfl
    · rfl
  · have started : noteStart (.lane l) e (frameLeft (.lane l) e s) = frameLeft (.lane l) e s := if_neg other
    rw [started]
    rfl
  · have started : noteStart (.lane l) e (frameLeft (.lane l) e s) =
        setLastSent (laneChannels l) e.frame.items (frameLeft (.lane l) e s) := if_pos demand
    rw [started, setLastSent_demand (laneChannels_nodup l) _ _ at_ item]
    cases ch <;> rfl

/-- Settles O48: a start, the pin, the character times, and the selection on each port. -/
theorem transmissionStarts : Obligations.TransmissionStarts := by
  refine ⟨fun dt p s running => ⟨fun nothing => ?_, fun e idle selected => ?start⟩,
    fun s p k => ⟨fun idle => ?_, bitTicks_charMicros s p⟩, fun s l => ⟨rfl, ?_, ?_, ?_, ?_⟩, ?select⟩
  · rw [exec_transmissionStart running, startTransmission_stays (s := s.elapse dt) nothing]
  case start =>
    obtain ⟨sends, queue, free⟩ := startTransmission_effects (s := s.elapse dt) idle selected
    have eq := startTransmission_eq p (s.elapse dt)
    refine ⟨_, exec_transmissionStart running, sends, queue, selected_mem selected, free, fun d k => ?_, ?_,
      ?_, ?_, ?_⟩
    · have still : (startTransmission p (s.elapse dt)).inReset = false ∧
          (startTransmission p (s.elapse dt)).now = s.now + dt ∧
          (startTransmission p (s.elapse dt)).bitTicks p = s.bitTicks p := by
        rw [eq]
        exact ⟨running, rfl, rfl⟩
      obtain ⟨runs, now, bit⟩ := still
      have pin := txPin_sends (s := (startTransmission p (s.elapse dt)).elapse d) runs sends k
      rw [pin]
      simp only [State.elapse_now, now, Nat.add_sub_cancel_left]
      exact congrArg (fun x => List.getD _ ((d * 16 + k) / x) true) bit
    · rw [eq]
      rfl
    · rintro rfl
      exact startTransmission_shaft (s := s.elapse dt) idle selected
    · rintro l rfl
      exact startTransmission_lane (s := s.elapse dt) idle selected
    · rw [eq]
      exact ⟨rfl, rfl, rfl, rfl, rfl⟩
  · rw [State.txPin, idle]
    cases s.inReset <;> rfl
  case select =>
    rintro s q first found
    simp only [found]
    refine ⟨?_, ?_⟩
    · rintro rfl
      refine ⟨selected_shaft_urgent, fun none => ⟨selected_shaft_full none, fun passes => ?_⟩⟩
      rw [selected_shaft_rest none passes]
      refine ⟨selectBy_found (test := (· == .reply)), fun none => ?_⟩
      rw [selectBy_skips (test := (· == .reply)) none]
      refine ⟨selectBy_found (test := (· == .periodic)), fun none => ?_⟩
      rw [selectBy_skips (test := (· == .periodic)) none]
      exact selectBy_last
    · rintro l rfl
      exact ⟨selectBy_found (test := (· == .demand)),
        fun none => (selectBy_skips (test := (· == .demand)) none).trans selectBy_last⟩
  all_goals
    intro rate
    rw [State.charMicros, rate]
    rfl

end

end Sys2Proof.Machine

/-! SUPPORT. The completion of a transmission (R129, R145). -/

namespace Sys2Proof.Machine

section
variable {dt : Nat} {l : Lane} {p : Port} {s t u : State} {e : Queued} {x : Transmission}

theorem exec_transmissionComplete (running : s.inReset = false) :
    exec (.transmissionComplete dt p) s = .next (completeTransmission p (s.elapse dt)) := exec_running _ running

theorem completeTransmission_idle (idle : s.txOf p = none) : completeTransmission p s = s := by
  rw [completeTransmission, idle]

theorem completeTransmission_sends (sends : s.txOf p = some x) :
    completeTransmission p s =
      if x.since + (9 + 2 * x.entry.frame.items.length) * s.charMicros p ≤ s.now then finishTransmission p x s
      else s := by
  rw [completeTransmission, sends]
  show (if decide _ = true then _ else _) = _
  simp only [decide_eq_true_eq]
  rfl

theorem finishTransmission_plain (plain : p = .shaft ∨ x.entry.tag ≠ .demand) :
    finishTransmission p x s = startTransmission p (returnBuffer p x s) := by
  cases p with
  | shaft => rfl
  | lane l => exact congrArg (startTransmission (.lane l)) (if_neg (plain.resolve_left Port.noConfusion))

theorem finishTransmission_demand (demand : x.entry.tag = .demand) :
    finishTransmission (.lane l) x s =
      startTransmission (.lane l) (demandComplete l (returnBuffer (.lane l) x s)) :=
  congrArg (startTransmission (.lane l)) (if_pos demand)

/-- A box that is written as it stands is not changed. -/
theorem onLane_same {f : LaneBox → LaneBox} (same : f (s.laneOf l) = s.laneOf l) : s.onLane l f = s := by
  have boxes : s.lanes.lane.set l (f (s.lanes.lane.get l)) = s.lanes.lane := PerLane.ext_get fun k => by
    rw [PerLane.get_set]
    split
    next here => rw [here]; exact same
    next => rfl
  show ({ s with lanes := { s.lanes with lane := s.lanes.lane.set l (f (s.lanes.lane.get l)) } } : State) = s
  rw [boxes]

/-- Without a pending composition the completion of a DEMAND leaves the lane as it is. -/
theorem demandComplete_nothing (none : (s.laneOf l).compose = false) : demandComplete l s = s := by
  have same : s.onLane l (fun b => { b with compose := false }) = s := onLane_same (by rw [← none])
  rw [demandComplete, same]
  exact if_neg (by simp [none])

theorem demandComplete_composes (pending : (s.laneOf l).compose = true) :
    demandComplete l s = composeDue l (s.onLane l fun b => { b with compose := false }) := if_pos pending

theorem laneOf_startTransmission (p : Port) (s : State) (k : Lane) :
    (startTransmission p s).laneOf k = s.laneOf k := by
  obtain ⟨same, -⟩ | ⟨e, idle, selected, -⟩ := startTransmission_cases p s
  · rw [same]
  · rw [startTransmission_starts idle selected]
    unfold noteStart
    split
    · rfl
    · split
      · rw [laneOf_setLastSent]
        rfl
      · rfl

/-- A DEMAND that has just been placed is the one that a lane selects. -/
theorem selected_placed {q : List Queued} (queue : s.queueOf (.lane l) = q ++ [e]) (demand : e.tag = .demand)
    (without : (q.any fun x => decide (x.tag = .demand)) = false) :
    s.selected (.lane l) = some e ∧ (s.queueOf (.lane l)).erase e = q := by
  have before : (q.find? fun x => decide (x.tag = .demand)) = none := by
    rw [List.find?_eq_none]
    exact fun x here => by simpa using List.any_eq_false.mp without x here
  have first : (s.queueOf (.lane l)).find? (fun x => decide (x.tag = .demand)) = some e := by
    rw [queue, List.find?_append, before]
    simp [demand]
  have apart : e ∉ q := fun here => by simpa [demand] using List.any_eq_false.mp without e here
  refine ⟨?_, ?_⟩
  · show selectBy laneOrder _ = _
    rw [laneOrder, selectBy_found (test := fun t => decide (t = .demand)) (by rw [first]; exact Option.some_ne_none e),
      first]
  · rw [queue, List.erase_append_right _ apart, List.erase_cons_head, List.append_nil]

/-- The lane's buffer has come back and its pending composition is about to be made. -/
def compositionCleared (l : Lane) (x : Transmission) (s : State) : State :=
  (returnBuffer (.lane l) x s).onLane l fun b => { b with compose := false }

/-- A pending composition is placed with a fresh buffer, and starts at once. -/
theorem composed_starts {a : Nat} (pending : (s.laneOf l).compose = true) (up : (s.laneOf l).state = .up)
    (channels : laneChannels l ≠ []) (without : s.waiting (.lane l) .demand = false)
    (mapped : s.mappedAddress l = some a) :
    ∃ e : Queued,
      (startTransmission (.lane l) (demandComplete l (returnBuffer (.lane l) x s))).txOf (.lane l) =
        some ⟨e, s.now⟩ ∧ e.tag = .demand ∧
      e.frame = mkFrame (BitVec.ofNat 8 a) s.ownByte kindDemand
        ((laneChannels l).map fun ch => wordOf (s.composedValue ch)) ∧
      ((startTransmission (.lane l) (demandComplete l (returnBuffer (.lane l) x s))).laneOf l).compose = false ∧
      (startTransmission (.lane l) (demandComplete l (returnBuffer (.lane l) x s))).queueOf (.lane l) =
        s.queueOf (.lane l) ∧
      (startTransmission (.lane l) (demandComplete l (returnBuffer (.lane l) x s))).line =
        s.line.set (.lane l) (frameChars x.entry.frame) := by
  have state : ((compositionCleared l x s).laneOf l).state = .up := by
    rw [compositionCleared, State.laneOf_onLane, if_pos rfl]
    exact up
  have idle : (compositionCleared l x s).txOf (.lane l) = none := by
    show (s.path.tx.set (.lane l) none).get (.lane l) = none
    rw [PerPort.get_set, if_pos rfl]
  have quiet : (compositionCleared l x s).demandInTransmission l = false := by
    rw [State.demandInTransmission, idle]
  have sends : demandComplete l (returnBuffer (.lane l) x s) = sendDemand l a (compositionCleared l x s) := by
    rw [demandComplete_composes (s := returnBuffer (.lane l) x s) pending]
    exact composeDue_sends channels state mapped quiet
  have sent := sendDemand_sent l a (compositionCleared l x s)
  obtain ⟨b, rest, free⟩ : ∃ b rest, (compositionCleared l x s).path.free = b :: rest :=
    List.exists_cons_of_ne_nil (List.append_ne_nil_of_right_ne_nil _ (List.cons_ne_nil _ _))
  obtain ⟨queue, -⟩ := sent.placed without b rest free
  obtain ⟨selected, erased⟩ := selected_placed queue rfl without
  have unsent : (sendDemand l a (compositionCleared l x s)).txOf (.lane l) = none :=
    ((sendDemand_kept l a _).txOf _).trans idle
  have blocks := sent.blocks
  obtain ⟨tx, left, -⟩ := startTransmission_effects unsent selected
  rw [sends]
  refine ⟨⟨b, .demand, (compositionCleared l x s).demandFrame l a (compositionCleared l x s).composedValue⟩,
    tx.trans ?_, rfl, rfl, ?_, left.trans erased, ?_⟩
  · rw [blocks]
    rfl
  · rw [laneOf_startTransmission, sent.box, if_pos rfl, compositionCleared, State.laneOf_onLane, if_pos rfl]
  · rw [startTransmission_line, blocks]
    rfl

/-- Settles O49: no transmission, one that goes on, and a completion with and without a composition. -/
theorem transmissionCompletes : Obligations.TransmissionCompletes := by
  refine fun dt p s running => ⟨fun idle => ?_, ?_⟩
  · rw [exec_transmissionComplete running, completeTransmission_idle (s := s.elapse dt) idle]
  rintro x u time sends rfl rfl
  have completes := completeTransmission_sends (s := s.elapse dt) (p := p) sends
  have restarts : exec (.transmissionStart 0 p) (returnBuffer p x (s.elapse dt)) =
      .next (startTransmission p (returnBuffer p x (s.elapse dt))) := by
    rw [exec_transmissionStart (s := returnBuffer p x (s.elapse dt)) running, State.elapse_zero]
  refine ⟨fun early => ?_, fun due => ⟨fun plain => ?_, ?_⟩⟩
  · rw [exec_transmissionComplete running, completes]
    exact congrArg _ (if_neg (not_le.mpr early))
  · rw [exec_transmissionComplete running, completes]
    refine (congrArg _ (if_pos due)).trans ((congrArg _ (finishTransmission_plain plain)).trans restarts.symm)
  · rintro l rfl demand
    have finishes : exec (.transmissionComplete dt (.lane l)) s =
        .next (startTransmission (.lane l) (demandComplete l (returnBuffer (.lane l) x (s.elapse dt)))) := by
      rw [exec_transmissionComplete running, completes]
      exact (congrArg _ (if_pos due)).trans (congrArg _ (finishTransmission_demand demand))
    refine ⟨fun none => ?_, fun pending up channels without a mapped => ?_⟩
    · rw [finishes, demandComplete_nothing (s := returnBuffer (.lane l) x (s.elapse dt)) none]
      exact restarts.symm
    · obtain ⟨e, tx, demand, frame, compose, queue, line⟩ :=
        composed_starts (s := s.elapse dt) (x := x) pending up channels without mapped
      exact ⟨_, e, finishes, tx, demand, frame, compose, queue, line⟩

end

end Sys2Proof.Machine

/-! SUPPORT. The order link and its loops, the order timer and the report timer (R27, R34, R87, R150, R153,
R154, R160). -/

namespace Sys2Proof.Machine

section
variable {dt : Nat} {g : Gear} {s t u : State}

/-! ## What a move of the order link leaves of the loops (R27, R153) -/

/-- The loops have changed their states alone. -/
def StatesOnly (s t : State) : Prop := ∀ g, t.loopOf g = { s.loopOf g with state := t.loopStates g }

theorem StatesOnly.refl (s : State) : StatesOnly s s := fun _ => rfl

theorem StatesOnly.trans (h : StatesOnly s t) (k : StatesOnly t u) : StatesOnly s u := fun g => by rw [k g, h g]

theorem StatesOnly.loopOf (h : StatesOnly s t) (g : Gear) {x : LoopState} {p : Prop} [Decidable p]
    (states : t.loopStates g = if p then x else s.loopStates g) :
    t.loopOf g = if p then { s.loopOf g with state := x } else s.loopOf g := by
  rw [h g, states]
  split <;> rfl

theorem holdLoop_statesOnly (g : Gear) (s : State) : StatesOnly s (holdLoop g s) := fun h => by
  rw [State.loopStates, holdLoop_loopOf]
  split
  next here => rw [here.1]
  next => rfl

theorem unholdLoop_statesOnly (g : Gear) (s : State) : StatesOnly s (unholdLoop g s) := fun h => by
  rw [State.loopStates, unholdLoop_loopOf]
  split
  next here => rw [here.1]
  next => rfl

theorem StatesOnly.formFeed (h : StatesOnly s t) : StatesOnly s (formFeed t) := h

theorem setLink_statesOnly (new : LinkState) (s : State) : StatesOnly s (setLink new s) := by
  unfold setLink
  split
  · exact .refl s
  · cases new with
    | dormant => exact .refl s
    | lost => exact .refl s
    | warn =>
      have both (m : State) : StatesOnly m (holdLoop .g2 (holdLoop .g1 m)) :=
        (holdLoop_statesOnly .g1 m).trans (holdLoop_statesOnly .g2 _)
      exact .formFeed (both (s.onOrders fun x => { x with link := .warn }))
    | live =>
      have both (m : State) : StatesOnly m (unholdLoop .g2 (unholdLoop .g1 m)) :=
        (unholdLoop_statesOnly .g1 m).trans (unholdLoop_statesOnly .g2 _)
      simp only
      split
      · exact .formFeed (both (s.onOrders fun x => { x with link := .live }))
      · exact .refl s

theorem setLink_base (new : LinkState) (s : State) : (setLink new s).drive.base = s.drive.base := by
  unfold setLink
  split
  · rfl
  · cases new with
    | dormant => rfl
    | lost => rfl
    | warn => exact (holdLoop_base ..).trans (holdLoop_base ..)
    | live =>
      simp only
      split
      · exact (unholdLoop_base ..).trans (unholdLoop_base ..)
      · rfl

/-- Without a loop to hold or to release, a move forms the feed limit alone. -/
theorem setLink_plain {new : LinkState} (moves : s.orders.link ≠ new)
    (plain : new = .lost ∨ new = .live ∧ s.orders.link ≠ .warn) :
    setLink new s = formFeed (s.onOrders fun x => { x with link := new }) := by
  unfold setLink
  rw [if_neg moves]
  obtain rfl | ⟨rfl, calm⟩ := plain
  · rfl
  · simp only [if_neg calm]

theorem feedLimit_of_not_live (h : s.orders.link ≠ .live) : s.feedLimit = 0 := if_neg fun both => h both.2

theorem setLink_feed_zero {new : LinkState} (moves : s.orders.link ≠ new) (halts : new ≠ .live) :
    (setLink new s).slurry.feed = 0 :=
  (setLink_feed moves).trans (feedLimit_of_not_live (by rw [setLink_orders]; exact halts))

/-! ## Every ORDER frame works the order link (R150, R153) -/

theorem orderLinkStep_lost (lost : s.orders.link = .lost) : orderLinkStep s = s := if_pos lost

theorem orderLinkStep_moves (moves : s.orders.link ≠ .lost) : orderLinkStep s =
    (setLink .live s).onOrders fun x => { x with timer := s.startMs .orderPeriod } := if_neg moves

theorem orderLinkStep_live (live : s.orders.link = .live) :
    orderLinkStep s = s.onOrders fun x => { x with timer := s.startMs .orderPeriod } := by
  rw [orderLinkStep_moves (by rw [live]; exact LinkState.noConfusion), setLink, if_pos live]

theorem orderLinkStep_feed (moves : s.orders.link = .dormant ∨ s.orders.link = .warn) :
    (orderLinkStep s).slurry.feed = (orderLinkStep s).feedLimit := by
  have ended : s.orders.link ≠ .lost := by obtain h | h := moves <;> rw [h] <;> exact LinkState.noConfusion
  have other : s.orders.link ≠ .live := by obtain h | h := moves <;> rw [h] <;> exact LinkState.noConfusion
  rw [orderLinkStep_moves ended]
  exact setLink_feed other

/-- What the move into LIVE leaves, but for the drive loops. -/
theorem orderLinkStep_frame (moves : s.orders.link = .dormant ∨ s.orders.link = .warn) :
    orderLinkStep s = { s with
      drive := (orderLinkStep s).drive
      orders := { s.orders with link := .live, timer := s.startMs .orderPeriod }
      slurry := { s.slurry with feed := (orderLinkStep s).feedLimit } } := by
  have ended : s.orders.link ≠ .lost := by obtain h | h := moves <;> rw [h] <;> exact LinkState.noConfusion
  have orders : (orderLinkStep s).orders =
      { s.orders with link := .live, timer := s.startMs .orderPeriod } := by
    rw [orderLinkStep_moves ended, State.onOrders, setLink_orders]
  rw [← orderLinkStep_feed moves, ← orders]
  exact orderLinkStep_eq s

theorem orderLinkStep_dormant_drive (dormant : s.orders.link = .dormant) : (orderLinkStep s).drive = s.drive := by
  rw [orderLinkStep_moves (by rw [dormant]; exact LinkState.noConfusion),
    setLink_plain (by rw [dormant]; exact LinkState.noConfusion)
      (.inr ⟨rfl, by rw [dormant]; exact LinkState.noConfusion⟩)]
  rfl

theorem orderLinkStep_warn_loopOf (warn : s.orders.link = .warn) (g : Gear) : (orderLinkStep s).loopOf g =
    if (s.loopOf g).state = .held ∧ (s.loopOf g.partner).state ≠ .unjam then
      { s.loopOf g with state := .run }
    else s.loopOf g := by
  rw [orderLinkStep_moves (by rw [warn]; exact LinkState.noConfusion)]
  exact (setLink_statesOnly .live s).loopOf g (congrFun (setLink_live_of_warn_loopStates warn) g)

theorem orderLinkStep_base (s : State) : (orderLinkStep s).drive.base = s.drive.base := by
  unfold orderLinkStep
  split
  · rfl
  · exact setLink_base .live s

end

/-- Settles O50. -/
theorem keepOrderLink : Obligations.KeepOrderLink := by
  unfold Obligations.KeepOrderLink
  rintro dt args s _ _ running rfl rfl
  refine ⟨exec_running _ running, fun lost => orderLinkStep_lost lost, fun live => orderLinkStep_live live,
    fun dormant => ?_, fun warn => ⟨orderLinkStep_warn_loopOf (s := s.afterFrame dt) warn, orderLinkStep_base _,
      orderLinkStep_frame (s := s.afterFrame dt) (.inr warn)⟩⟩
  have drive : (s.afterLink dt).drive = s.drive := orderLinkStep_dormant_drive (s := s.afterFrame dt) dormant
  have frame := orderLinkStep_frame (s := s.afterFrame dt) (.inl dormant)
  exact frame.trans (by rw [show (orderLinkStep (s.afterFrame dt)).drive = s.drive from drive]; rfl)

section
variable {dt : Nat} {g : Gear} {s t u : State}

/-! ## The order timer (R153, R154) -/

theorem exec_orderTimer (running : s.inReset = false) : exec (.orderTimerExpiry dt) s =
    .next (expiry s.orders.timer orderTimerExpired (s.elapse dt)) := exec_running _ running

theorem exec_orderTimer_due (running : s.inReset = false) (due : s.orders.timer.due (s.now + dt) = true) :
    exec (.orderTimerExpiry dt) s = .next (orderTimerExpired (s.elapse dt)) :=
  (exec_orderTimer running).trans (congrArg _ (expiry_due due))

theorem orderTimerExpired_live (live : s.orders.link = .live) : orderTimerExpired s =
    (setLink .warn s).onOrders fun x => { x with timer := s.startMs .orderPeriod } := by
  rw [orderTimerExpired, live]

theorem orderTimerExpired_warn (warn : s.orders.link = .warn) : orderTimerExpired s =
    latch .orderLost ((setLink .lost s).onOrders fun x => { x with timer := .idle }) := by
  rw [orderTimerExpired, warn]

theorem orderTimerExpired_idle (idle : s.orders.link = .dormant ∨ s.orders.link = .lost) :
    orderTimerExpired s = s.onOrders fun x => { x with timer := .idle } := by
  obtain h | h := idle <;> rw [orderTimerExpired, h]

/-- The state in which the link stands in LOST and ORDER_LOST is about to be latched. -/
def linkLost (s : State) : State := (setLink .lost s).onOrders fun x => { x with timer := .idle }

theorem linkLost_orders (s : State) : (linkLost s).orders = { s.orders with link := .lost, timer := .idle } := by
  rw [linkLost, State.onOrders, setLink_orders]

theorem linkLost_loopOf (moves : s.orders.link ≠ .lost) (g : Gear) : (linkLost s).loopOf g = s.loopOf g := by
  rw [linkLost, setLink_plain moves (.inl rfl)]
  rfl

theorem linkLost_feed (moves : s.orders.link ≠ .lost) : (linkLost s).slurry.feed = 0 :=
  setLink_feed_zero moves LinkState.noConfusion

theorem linkLost_stopOutcome (moves : s.orders.link ≠ .lost) (g : Gear) :
    (linkLost s).stopOutcome g = s.stopOutcome g := by
  have pickup : (linkLost s).pickupOf g = s.pickupOf g := setLink_pickupOf .lost g s
  unfold State.stopOutcome
  rw [linkLost_loopOf moves, pickup]

/-! ## ORDER_LOST (R34, R87) -/

/-- What steering comes to when its orders are lost: HOLD from AUTO. -/
theorem latch_orderLost_steering (s : State) : (latch .orderLost s).steering =
    if s.steering.state = .auto then
      { s.steering with state := .hold, projX := none, projY := none, trim := 0 }
    else s.steering := by
  rw [latch_eq_enterKind, sendReport_steering]
  change (if _ then _ else _ : State).steering = _
  simp only [stopBoth_steering]
  split
  next auto => rw [if_pos (show s.steering.state = .auto from auto), enterSteeringHold, State.onSteering,
    stopBoth_steering]; rfl
  next other => rw [if_neg (show ¬s.steering.state = .auto from other), stopBoth_steering]; rfl

/-- ORDER_LOST stops both loops. -/
theorem latch_orderLost_stops (s : State) : (latch .orderLost s).drive = (stopBoth (enterKind .orderLost s)).drive ∧
    (latch .orderLost s).slurry = (stopBoth (enterKind .orderLost s)).slurry := by
  rw [latch_eq_enterKind, sendReport_drive, sendReport_slurry]
  change (if _ then _ else _ : State).drive = _ ∧ (if _ then _ else _ : State).slurry = _
  split
  · exact ⟨rfl, rfl⟩
  · exact ⟨rfl, rfl⟩

theorem latch_orderLost_state (s : State) (g : Gear) :
    ((latch .orderLost s).loopOf g).state = s.stopOutcome g := by
  unfold State.loopOf
  rw [(latch_orderLost_stops s).1]
  exact stopBoth_state g _

theorem latch_orderLost_base (s : State) : (latch .orderLost s).drive.base = s.drive.base := by
  rw [(latch_orderLost_stops s).1, stopBoth_base]
  rfl

theorem latch_orderLost_slurryState (s : State) : (latch .orderLost s).slurry.state = s.slurry.state := by
  rw [(latch_orderLost_stops s).2, stopBoth_slurryState]
  rfl

theorem latch_orderLost_feed (zero : s.slurry.feed = 0) : (latch .orderLost s).slurry.feed = 0 := by
  have law : (enterKind .orderLost s).feedLaw := feedLaw_of_zero zero
  rw [(latch_orderLost_stops s).2]
  refine feed_eq_zero (g := .g1) ((LoopMoves.stopBoth _).keeps LoopMove.feedLaw law) fun run => ?_
  have halted := stopOutcome_not_running (enterKind .orderLost s) .g1
  rw [← stopBoth_state, run] at halted
  cases halted

/-! ## The report timer (R159, R160) -/

theorem sendReport_waits {tag : Tag} (waits : s.waiting .shaft tag = true) : sendReport tag s =
    s.onPath fun x => { x with queue := x.queue.set .shaft ((s.queueOf .shaft).map fun e =>
      if e.tag = tag then
        { e with frame := mkFrame 1 s.ownByte kindReport (s.reportItems (decide (tag = .urgent))) }
      else e) } := if_pos waits

theorem sendReport_queues {tag : Tag} (none_ : s.waiting .shaft tag = false) {b : Nat} {rest : List Nat}
    (free : s.path.free = b :: rest) : sendReport tag s =
      s.onPath fun x =>
        { x with free := rest
                 queue := x.queue.set .shaft (s.queueOf .shaft ++
                   [⟨b, tag, mkFrame 1 s.ownByte kindReport (s.reportItems (decide (tag = .urgent)))⟩]) } := by
  rw [sendReport, none_]
  exact enqueue_cons free

theorem exec_reportTimer_due (running : s.inReset = false)
    (due : s.orders.reportTimer.due (s.now + dt) = true) :
    exec (.reportTimerExpiry dt) s = .next (reportTimerExpired (s.elapse dt)) :=
  (exec_running _ running).trans (congrArg _ (expiry_due due))

end

/-- Settles O52. -/
theorem orderAndReportTimersExpire : Obligations.OrderAndReportTimersExpire := by
  unfold Obligations.OrderAndReportTimersExpire
  refine ⟨fun dt s running => ⟨fun early => ?_, fun early => ?_⟩, ?_, ?_⟩
  · exact (exec_orderTimer running).trans (congrArg _ (expiry_early early))
  · exact (exec_running _ running).trans (congrArg _ (expiry_early early))
  · rintro dt s _ running due rfl
    have expired := exec_orderTimer_due running due
    refine ⟨fun live => ?_, fun warn => ?_, fun idle => ?_⟩
    · have moves : (s.elapse dt).orders.link ≠ .warn := by
        rw [show (s.elapse dt).orders.link = .live from live]
        exact LinkState.noConfusion
      refine ⟨_, expired.trans (congrArg _ (orderTimerExpired_live live)), fun g => ?_, setLink_base .warn _, ?_⟩
      · exact (setLink_statesOnly .warn (s.elapse dt)).loopOf g (congrFun (setLink_warn_loopStates moves) g)
      · have feed := setLink_feed_zero moves LinkState.noConfusion
        have frame := setLink_eq .warn (s.elapse dt)
        rw [feed] at frame
        exact congrArg (State.onOrders fun x => { x with timer := (s.elapse dt).startMs .orderPeriod }) frame
    · have moves : (s.elapse dt).orders.link ≠ .lost := by
        rw [show (s.elapse dt).orders.link = .warn from warn]
        exact LinkState.noConfusion
      have orders := linkLost_orders (s.elapse dt)
      refine ⟨latch .orderLost (linkLost (s.elapse dt)),
        expired.trans (congrArg _ (orderTimerExpired_warn warn)), ?_⟩
      refine ⟨by rw [latch_orders, orders], by rw [latch_orders, orders], by rw [latch_orders, orders]; rfl,
        fun k => ?_, fun some_ => ?_, fun first => ?_, fun g => ?_,
        latch_orderLost_feed (linkLost_feed moves), ?_, ?_, ?_, ?_, ?_, ?_, ?_⟩
      · rw [latch_latched]
        simp only [State.latched, orders]
        rfl
      · rw [latch_orders, orders]
        exact if_neg some_
      · refine ⟨(linkLost (s.elapse dt)).tripRecord .orderLost, ?_, rfl⟩
        rw [latch_orders, orders]
        exact if_pos first
      · rw [latch_orderLost_state]
        exact linkLost_stopOutcome moves g
      · rw [latch_orderLost_slurryState, linkLost]
        exact setLink_slurryState ..
      · have steering : (linkLost (s.elapse dt)).steering = s.steering := setLink_steering ..
        rw [latch_orderLost_steering, steering]
      · rw [latch_orderLost_base]
        exact setLink_base ..
      · rw [latch_pickup]
        exact setLink_pickup ..
      · rw [latch_selector]
        exact setLink_selector ..
      · rw [latch_survey]
        exact setLink_survey ..
      · rw [latch_settings]
        exact setLink_settings ..
    · exact expired.trans (congrArg _ (orderTimerExpired_idle idle))
  · rintro dt s _ _ running due rfl rfl
    have expired := exec_reportTimer_due running due
    exact ⟨fun waits => expired.trans (congrArg _ (sendReport_waits (tag := .periodic)
        (s := (s.elapse dt).onOrders fun x => { x with reportTimer := (s.elapse dt).startMs .reportInterval })
        waits)),
      fun none_ b rest free => expired.trans (congrArg _ (sendReport_queues (tag := .periodic)
        (s := (s.elapse dt).onOrders fun x => { x with reportTimer := (s.elapse dt).startMs .reportInterval })
        none_ free))⟩

end Sys2Proof.Machine

/-! SUPPORT. The tests of an ORDER frame, and its REPLY (R150, R152, R170). -/

namespace Sys2Proof.Machine

section
variable {dt code : Nat} {items args : List Word} {s u : State} {i : Instr}

/-! ## What an ORDER frame comes to once the order link has been worked (R150 steps 3 to 5) -/

/-- The reply cap, then the item count, then `rest`. -/
def orderTests (code : Nat) (args : List Word) (rest : State → State) (u : State) : State :=
  if u.replyCap then u
  else if args.length + 1 ≠ orderItems code then replyOrder code .badArg u
  else rest u

/-- The answer to an unknown code. -/
def badCodeAnswer (items : List Word) (u : State) : State :=
  if u.replyCap then u else reply [firstArg items, wordOf Result.badCode.code] u

/-- The work of an ORDER frame with these items, on the state that its first step leaves. -/
inductive OrderWork : List Word → (State → State) → Prop
  | keep (args : List Word) : OrderWork (1 :: args) id
  | badCode (items : List Word) (bad : badOrderCode items = true) : OrderWork items (badCodeAnswer items)
  | tests (code : Word) (args : List Word) (rest : State → State) (first : 2 ≤ code.toNat)
      (last : code.toNat ≤ 13)
      (target : code = 6 → badModeTarget args = true → rest = replyOrder 6 .badArg) :
      OrderWork (code :: args) (orderTests code.toNat args rest)

/-- The orders that `takeOrder` works. -/
theorem orderWork_take {n : Nat} (code : Word) (args : List Word) {act : State → Result × State}
    (same : code.toNat = n) (known : 2 ≤ n ∧ n ≤ 13) (target : code = 6 → badModeTarget args = false)
    (work : ∀ s, workOf i s = takeOrder n args act (emptyArea .shaft s)) :
    ∃ f, OrderWork (code :: args) f ∧ ∀ s, workOf i s = f (orderLinkStep (emptyArea .shaft s)) := by
  obtain rfl := same
  exact ⟨orderTests code.toNat args fun u => replyOrder code.toNat (act u).1 (act u).2,
    OrderWork.tests code args _ known.1 known.2 (fun mode bad => by rw [target mode] at bad; cases bad), work⟩

/-- Every command that is an ORDER frame first works the order link, and then its tests. -/
theorem orderWork_of (order : orderItemsOf i = some items) (wf : i.wf = true) :
    ∃ work, OrderWork items work ∧ ∀ s, workOf i s = work (orderLinkStep (emptyArea .shaft s)) := by
  cases i with
  | keep dt args => cases order; exact ⟨_, .keep args, fun _ => rfl⟩
  | driveStart dt args => cases order; exact orderWork_take (n := 2) 2 args rfl (by decide) nofun fun _ => rfl
  | driveStop dt args =>
    cases order
    exact orderWork_take (n := 3) (act := fun t => (.ok, stopBoth t)) 3 args rfl (by decide) nofun fun _ => rfl
  | speed dt args =>
    cases order
    exact orderWork_take (n := 4) (act := fun t =>
        (.ok, { t with drive := { t.drive with base := clampMag 4000 (signed (firstArg args)) } }))
      4 args rfl (by decide) nofun fun _ => rfl
  | setClass dt args =>
    cases order
    exact orderWork_take (n := 5) (act := fun t => (.ok, t.onSelector fun x =>
        { x with operatorClass := (clamp 0 7 (signed (firstArg args))).toNat }))
      5 args rfl (by decide) nofun fun _ => rfl
  | modeGearbox dt g args =>
    cases order
    cases g with
    | g1 => exact orderWork_take (n := 6) 6 (1 :: args) rfl (by decide) (fun _ => rfl) fun _ => rfl
    | g2 => exact orderWork_take (n := 6) 6 (2 :: args) rfl (by decide) (fun _ => rfl) fun _ => rfl
  | modeSteering dt args =>
    cases order; exact orderWork_take (n := 6) 6 (3 :: args) rfl (by decide) (fun _ => rfl) fun _ => rfl
  | modePump dt args =>
    cases order; exact orderWork_take (n := 6) 6 (4 :: args) rfl (by decide) (fun _ => rfl) fun _ => rfl
  | modeBadTarget dt args =>
    cases order
    exact ⟨_, .tests 6 args (replyOrder 6 .badArg) (by decide) (by decide) fun _ _ => rfl, fun _ => rfl⟩
  | pumpStart dt args => cases order; exact orderWork_take (n := 7) 7 args rfl (by decide) nofun fun _ => rfl
  | pumpStop dt args => cases order; exact orderWork_take (n := 8) 8 args rfl (by decide) nofun fun _ => rfl
  | panelBegin dt args => cases order; exact orderWork_take (n := 9) 9 args rfl (by decide) nofun fun _ => rfl
  | panelEnd dt args =>
    cases order
    exact orderWork_take (n := 10) (act := fun t => (.ok, t.onSurvey closePanel))
      10 args rfl (by decide) nofun fun _ => rfl
  | setSpacing dt args => cases order; exact orderWork_take (n := 11) 11 args rfl (by decide) nofun fun _ => rfl
  | tripReset dt args => cases order; exact orderWork_take (n := 12) 12 args rfl (by decide) nofun fun _ => rfl
  | restart dt args =>
    cases order
    exact ⟨_, .tests 13 args (fun u => if u.restartAllowed = false then replyOrder 13 .busy u
      else allLanes.foldl (fun t l => zeroDemand l t) (replyOrder 13 .ok (restartBlocks u)))
      (by decide) (by decide) nofun, fun _ => rfl⟩
  | orderBadCode dt items =>
    cases order
    exact ⟨_, .badCode _ (Bool.and_eq_true_iff.mp wf).2, fun _ => rfl⟩
  | _ => cases order

theorem exec_orderFrame (order : orderItemsOf i = some items) (wf : i.wf = true) (running : s.inReset = false) :
    ∃ work, OrderWork items work ∧ exec i s = .next (work (s.afterLink i.dt)) := by
  obtain ⟨work, shape, worked⟩ := orderWork_of order wf
  exact ⟨work, shape, (exec_running i running).trans (congrArg _ (worked _))⟩

/-! ## The tests in their order -/

theorem orderTests_capped {rest : State → State} (cap : u.replyCap = true) :
    orderTests code args rest u = u := if_pos cap

theorem orderTests_count {rest : State → State} (cap : u.replyCap = false)
    (count : args.length + 1 ≠ orderItems code) : orderTests code args rest u = replyOrder code .badArg u := by
  rw [orderTests, cap, if_neg Bool.false_ne_true, if_pos count]

theorem orderTests_refused (cap : u.replyCap = false) :
    orderTests code args (replyOrder code .badArg) u = replyOrder code .badArg u := by
  rw [orderTests, cap, if_neg Bool.false_ne_true, ite_self]

theorem badCodeAnswer_answers (cap : u.replyCap = false) :
    badCodeAnswer items u = reply [items.headD 0, 1] u := by
  rw [badCodeAnswer, cap, if_neg Bool.false_ne_true]
  rfl

/-- With four REPLY frames waiting the frame does nothing more. -/
theorem OrderWork.capped {work : State → State} (shape : OrderWork items work) (cap : u.replyCap = true) :
    work u = u := by
  cases shape with
  | keep args => rfl
  | badCode _ _ => exact if_pos cap
  | tests _ _ _ _ _ _ => exact if_pos cap

/-- An unknown code, or none, is answered BAD_CODE. -/
theorem OrderWork.answersBadCode {work : State → State} (shape : OrderWork items work)
    (bad : badOrderCode items = true) (cap : u.replyCap = false) : work u = reply [items.headD 0, 1] u := by
  cases shape with
  | keep args => cases bad
  | badCode _ _ => exact badCodeAnswer_answers cap
  | tests code args rest first last _ =>
    have unknown := of_decide_eq_true bad
    omega

/-- A wrong count of items is answered BAD_ARG. -/
theorem OrderWork.answersBadCount {code : Word} {work : State → State} (shape : OrderWork (code :: args) work)
    (first : 2 ≤ code.toNat) (last : code.toNat ≤ 13) (count : args.length + 1 ≠ orderItems code.toNat)
    (cap : u.replyCap = false) : work u = replyOrder code.toNat .badArg u := by
  cases shape with
  | keep args => exact absurd first (by decide)
  | badCode _ bad =>
    have unknown := of_decide_eq_true bad
    omega
  | tests _ _ _ _ _ _ => exact orderTests_count cap count

/-- A MODE order that names nothing is answered BAD_ARG. -/
theorem OrderWork.answersBadTarget {work : State → State} (shape : OrderWork (6 :: args) work)
    (bad : badModeTarget args = true) (cap : u.replyCap = false) : work u = replyOrder 6 .badArg u := by
  cases shape with
  | badCode _ unknown => cases unknown
  | tests _ _ rest _ _ target =>
    obtain rfl := target rfl bad
    exact orderTests_refused cap

theorem replyCap_afterLink (dt : Nat) (s : State) : (s.afterLink dt).replyCap = s.replyCap :=
  orderLinkStep_replyCap _

end

/-- Settles O51. -/
theorem orderFrameTests : Obligations.OrderFrameTests := by
  unfold Obligations.OrderFrameTests
  refine ⟨?_, ?_, fun code r s b rest free => enqueue_cons free⟩
  · rintro i items s _ order wf running rfl
    obtain ⟨work, shape, executed⟩ := exec_orderFrame order wf running
    rw [executed]
    refine ⟨fun cap => congrArg _ (shape.capped ((replyCap_afterLink ..).trans (decide_eq_true cap))), fun room => ?_⟩
    have cap : (s.afterLink i.dt).replyCap = false :=
      (replyCap_afterLink ..).trans (decide_eq_false (not_le.mpr room))
    refine ⟨?_, ?_⟩
    · rintro rfl
      exact congrArg _ (shape.answersBadCode rfl cap)
    · rintro code args rfl
      refine ⟨fun unknown => congrArg _ (shape.answersBadCode (decide_eq_true (by omega)) cap),
        fun first last count => congrArg _ (shape.answersBadCount first last count cap), ?_⟩
      rintro rfl bad
      refine congrArg _ (shape.answersBadTarget ?_ cap)
      obtain rfl | ⟨target, rest, rfl, named⟩ := bad
      · rfl
      · exact decide_eq_true (by omega)
  · rintro dt items args s _ takes rfl
    have cap : (s.afterLink dt).replyCap = false :=
      (replyCap_afterLink ..).trans (decide_eq_false (not_le.mpr takes.2))
    exact ⟨(exec_running _ takes.1).trans (congrArg _ (badCodeAnswer_answers cap)),
      (exec_running _ takes.1).trans (congrArg _ (orderTests_refused cap))⟩

end Sys2Proof.Machine

/-! SUPPORT. The 24 items of a REPORT, and what their packed words give back (R80, R99, R159, R170). -/

namespace Sys2Proof.Machine

section
variable {s : State}

/-! ## Words of single bits -/

/-- Bits packed into a number, the first of them lowest. -/
def packBits : List Bool → Nat
  | [] => 0
  | b :: bits => Nat.bit b (packBits bits)

theorem packBits_lt (bits : List Bool) : packBits bits < 2 ^ bits.length := by
  induction bits with
  | nil => exact Nat.one_pos
  | cons b bits ih => exact Nat.bit_lt_two_pow_succ_iff.mpr ih

theorem testBit_packBits (bits : List Bool) (n : Nat) : (packBits bits).testBit n = bits.getD n false := by
  induction bits generalizing n with
  | nil => exact Nat.zero_testBit n
  | cons b bits ih =>
    cases n with
    | zero => exact Nat.testBit_bit_zero b _
    | succ n => exact (Nat.testBit_bit_succ n b _).trans (ih n)

theorem flagBit_eq (n : Nat) (b : Bool) : flagBit n b = 2 ^ n * b.toNat := by cases b <;> simp [flagBit]

/-- The flags of item 21, in the order of their bits. -/
def State.flags (s : State) (urgent : Bool) : List Bool :=
  [decide ((s.pickupOf .g1).health = .fault), decide ((s.pickupOf .g2).health = .fault), (s.loopOf .g1).sat,
    (s.loopOf .g2).sat, s.survey.disagree, s.survey.fresh, s.attitudeValid, s.survey.pending.isSome,
    (s.laneOf .drive).fresh, (s.laneOf .steer).fresh, (s.laneOf .slurry).fresh, s.laneClamped .drive,
    s.laneClamped .steer, s.laneClamped .slurry, urgent]

theorem flagWord_eq (s : State) (urgent : Bool) : s.flagWord urgent = packBits (s.flags urgent) := by
  simp only [State.flagWord, State.flags, packBits, Nat.bit_val, flagBit_eq]
  omega

theorem tripWord_eq (s : State) : s.tripWord = packBits (allKinds.map s.latched) := by
  simp only [State.tripWord, allKinds, List.map, List.sum_cons, List.sum_nil, packBits, Nat.bit_val, flagBit_eq,
    TripKind.number]
  omega

theorem testBit_tripWord (s : State) (k : TripKind) : s.tripWord.testBit (k.number - 1) = s.latched k := by
  have place : allKinds[k.number - 1]? = some k := by
    rcases k with _ | g | g | _ | _ | l
    · rfl
    · cases g <;> rfl
    · cases g <;> rfl
    · rfl
    · rfl
    · cases l <;> rfl
  rw [tripWord_eq, testBit_packBits, List.getD_eq_getElem?_getD, List.getElem?_map, place]
  rfl

/-! ## The latched kind of highest priority -/

/-- In priority order the first of the latched kinds has the lowest number. -/
theorem number_le_of_first {k : TripKind} {rest : List TripKind} (law : s.tripOrderLaw)
    (first : s.orders.trips = k :: rest) {x : TripKind} (latched : s.latched x = true) :
    k.number ≤ x.number := by
  have ordered : allKinds.Pairwise fun a b => a.number < b.number := by decide
  have sorted : (k :: rest).Pairwise fun a b => a.number < b.number := by
    rw [← first, law]
    exact ordered.filter _
  have member : x ∈ k :: rest := first ▸ of_decide_eq_true latched
  obtain rfl | later := List.mem_cons.mp member
  · exact Nat.le_refl _
  · exact ((List.pairwise_cons.mp sorted).1 x later).le

theorem highestTrip_eq {k : TripKind} (law : s.tripOrderLaw) (latched : s.latched k = true)
    (lowest : ∀ x, s.latched x = true → k.number ≤ x.number) : s.highestTrip = k.number := by
  unfold State.highestTrip
  cases first : s.orders.trips with
  | nil =>
    have member := of_decide_eq_true latched
    rw [first] at member
    cases member
  | cons x rest =>
    have own : s.latched x = true := decide_eq_true (by rw [first]; exact List.mem_cons_self)
    exact Nat.le_antisymm (number_le_of_first law first latched) (lowest x own)

theorem trips_eq_nil (none_ : ∀ k, s.latched k = false) : s.orders.trips = [] :=
  List.eq_nil_iff_forall_not_mem.mpr fun k => of_decide_eq_false (none_ k)

/-! ## The words of states -/

theorem LoopState.code_lt (x : LoopState) : x.code < 16 := by cases x <;> decide
theorem SlurryState.code_lt (x : SlurryState) : x.code < 16 := by cases x <;> decide
theorem SteerState.code_lt (x : SteerState) : x.code < 4 := by cases x <;> decide
theorem SurveyState.code_lt (x : SurveyState) : x.code < 4 := by cases x <;> decide
theorem LinkState.code_lt (x : LinkState) : x.code < 4 := by cases x <;> decide
theorem LaneState.code_lt (x : LaneState) : x.code < 4 := by cases x <;> decide

theorem statesWord_fields (s : State) : s.statesWord < 65536 ∧ s.statesWord % 16 = (s.loopOf .g1).state.code ∧
    s.statesWord / 16 % 16 = (s.loopOf .g2).state.code ∧ s.statesWord / 256 % 16 = s.slurry.state.code ∧
    s.statesWord / 4096 = s.steering.state.code := by
  have one := (s.loopOf .g1).state.code_lt
  have two := (s.loopOf .g2).state.code_lt
  have slurry := s.slurry.state.code_lt
  have steering := s.steering.state.code_lt
  unfold State.statesWord
  omega

theorem lanesWord_fields (rated : s.selector.classInEffect ≤ 7) : s.lanesWord < 65536 ∧
    s.lanesWord % 4 = s.survey.state.code ∧ s.lanesWord / 4 % 4 = s.orders.link.code ∧
    s.lanesWord / 16 % 4 = (s.laneOf .drive).state.code ∧
    s.lanesWord / 64 % 4 = (s.laneOf .steer).state.code ∧
    s.lanesWord / 256 % 4 = (s.laneOf .attitude).state.code ∧
    s.lanesWord / 1024 % 4 = (s.laneOf .slurry).state.code ∧
    s.lanesWord / 4096 = s.selector.classInEffect := by
  have survey := s.survey.state.code_lt
  have link := s.orders.link.code_lt
  have drive := (s.laneOf .drive).state.code_lt
  have steer := (s.laneOf .steer).state.code_lt
  have attitude := (s.laneOf .attitude).state.code_lt
  have slurry := (s.laneOf .slurry).state.code_lt
  unfold State.lanesWord
  omega

theorem testBit_flagWord (s : State) (urgent : Bool) (n : Nat) :
    (s.flagWord urgent).testBit n = (s.flags urgent).getD n false := by rw [flagWord_eq, testBit_packBits]

theorem itemWord_eq {item : Option Int → Word} (here : ∀ x, item (some x) = wordOf x)
    (absent : item none = 0x8000#16) : item = itemWord := by
  funext x
  cases x with
  | none => exact absent
  | some x => exact here x

end

/-- Settles O53. -/
theorem reportCarriesState : Obligations.ReportCarriesState := by
  unfold Obligations.ReportCarriesState
  refine ⟨?_, fun s => ⟨?_, testBit_tripWord s, fun none_ => ?_, fun law k latched lowest =>
    highestTrip_eq law latched lowest⟩⟩
  · rintro s urgent item _ rated here absent rfl
    obtain rfl := itemWord_eq here absent
    have flag := testBit_flagWord s urgent
    obtain ⟨s1, s2, s3, s4, s5⟩ := statesWord_fields s
    obtain ⟨l1, l2, l3, l4, l5, l6, l7, l8⟩ := lanesWord_fields rated
    have bound : s.flagWord urgent < 2 ^ 15 := by
      rw [flagWord_eq]
      exact packBits_lt _
    refine ⟨?_, s1, s2, s3, s4, s5, l1, l2, l3, l4, l5, l6, l7, l8, bound, flag 0, flag 1, flag 2, flag 3, flag 4,
      flag 5, flag 6, flag 7, flag 8, flag 9, flag 10, ?_, ?_, ?_, flag 14⟩
    · have torsion : s.torsionItem =
          if (s.laneOf .attitude).fresh = true ∧ s.survey.usable = true then some s.survey.fusedR else none :=
        if_congr (Bool.and_eq_true _ _ ▸ Iff.rfl) rfl rfl
      rw [← torsion]
      rfl
    · exact (flag 11).trans (by simp [State.flags, State.laneClamped, laneChannels])
    · exact (flag 12).trans (by simp [State.flags, State.laneClamped, laneChannels, Bool.or_assoc])
    · exact (flag 13).trans (by simp [State.flags, State.laneClamped, laneChannels])
  · rw [tripWord_eq]
    exact (packBits_lt (allKinds.map s.latched)).trans_eq (by rw [List.length_map]; rfl)
  · rw [State.highestTrip, trips_eq_nil none_]

end Sys2Proof.Machine

/-! SUPPORT. The first-trip record and the urgent REPORT of a latch (R155, R156, R161). -/

namespace Sys2Proof.Machine

section
variable {k : TripKind} {s : State}

/-- The state whose REPORT a latch sends: its kind is entered and the blocks have acted. -/
def acted (k : TripKind) (s : State) : State := actOnLatch k (enterKind k s)

theorem latch_eq_acted (k : TripKind) (s : State) : latch k s = sendReport .urgent (acted k s) :=
  latch_eq_enterKind k s

/-- A REPORT tells of the frames nothing. -/
theorem reportItems_sendReport (tag : Tag) (urgent : Bool) (s : State) :
    (sendReport tag s).reportItems urgent = s.reportItems urgent := by
  rw [sendReport_eq]
  rfl

theorem acted_upper (k : TripKind) (s : State) : (acted k s).queueOf .shaft = s.queueOf .shaft :=
  (actOnLatch_kept k (enterKind k s)).upper

theorem acted_waiting (k : TripKind) (tag : Tag) (s : State) :
    (acted k s).waiting .shaft tag = s.waiting .shaft tag := by
  unfold State.waiting
  rw [acted_upper]

theorem acted_ownByte (k : TripKind) (s : State) : (acted k s).ownByte = s.ownByte :=
  actOnLatch_ownByte k (enterKind k s)

theorem acted_free (k : TripKind) (s : State) : (acted k s).path.free ⊆ s.path.free :=
  (BoxesKept.actOnLatch k (enterKind k s)).free

theorem acted_moves (k : TripKind) (s : State) : PathMoves s.path (acted k s).path :=
  (Regulated.actOnLatch k (enterKind k s)).moves

/-- The laws of the frames leave a buffer for an urgent REPORT, also where the latch has sent DEMAND frames. -/
theorem acted_finds_buffer (none_ : s.waiting .shaft .urgent = false) (pool : s.poolLaw) (forwarded : s.forwardedLaw)
    (upper : s.upperQueueLaw) (own : s.ownFrameLaw) : (acted k s).path.free ≠ [] := by
  obtain ⟨pool, forwarded⟩ : (acted k s).path.poolLaw ∧ (acted k s).path.forwardedLaw :=
    PathMoves.keeps (P := fun x => x.poolLaw ∧ x.forwardedLaw)
      (fun move law => ⟨move.poolLaw law.1, move.forwardedLaw law.1 law.2⟩) (acted_moves k s) ⟨pool, forwarded⟩
  have upper := PathMoves.keeps PathMove.upperLaw (acted_moves k s) (s.upperQueueLaw_iff.mp upper)
  have own := PathMoves.keeps PathMove.ownLaw (acted_moves k s) (s.ownFrameLaw_iff.mp own)
  refine FramePath.free_of_missing pool forwarded upper own (.inr (.inr (.inr ?_)))
  refine List.countP_eq_zero.mpr fun e waits urgent => ?_
  rw [← acted_waiting k] at none_
  exact List.any_eq_false.mp none_ e waits urgent

end

/-- Settles O54. -/
theorem latchRecordsAndReports : Obligations.LatchRecordsAndReports := by
  unfold Obligations.LatchRecordsAndReports
  intro k s
  have report : (latch k s).reportItems true = (acted k s).reportItems true := by
    rw [latch_eq_acted, reportItems_sendReport]
  refine ⟨fun x => latch_latched k x s, fun some_ => ?_, fun first => ?_, by rw [latch_orders], by rw [latch_orders],
    latch_survey k s, latch_pickup k s, latch_selector k s, latch_settings k s, fun waits => ?_,
    fun none_ pool forwarded upper own => ?_⟩
  · rw [latch_orders]
    exact if_neg some_
  · rw [latch_orders]
    exact if_pos first
  · rw [report, latch_eq_acted, sendReport_waits ((acted_waiting ..).trans waits), acted_upper, acted_ownByte]
    rw [State.queueOf, State.onPath, PerPort.get_set, if_pos rfl]
    rfl
  · obtain ⟨b, rest, free⟩ := List.exists_cons_of_ne_nil (acted_finds_buffer (k := k) none_ pool forwarded upper own)
    refine ⟨b, acted_free k s (by rw [free]; exact List.mem_cons_self), ?_⟩
    rw [report, latch_eq_acted, sendReport_queues ((acted_waiting ..).trans none_) free, acted_upper, acted_ownByte]
    rw [State.queueOf, State.onPath, PerPort.get_set, if_pos rfl]
    rfl

end Sys2Proof.Machine

/-! SUPPORT. TRIP_RESET: the kind that it names, the standing causes, and what a removal leaves (R35, R113, R154,
R157). -/

namespace Sys2Proof.Machine

section
variable {g : Gear} {k : TripKind} {w : Word} {s t u : State}

/-! ## The kind that TRIP_RESET names -/

theorem TripKind.number_range (k : TripKind) : 1 ≤ k.number ∧ k.number ≤ 11 := by
  rcases k with _ | g | g | _ | _ | l
  · decide
  · cases g <;> decide
  · cases g <;> decide
  · decide
  · decide
  · cases l <;> decide

theorem TripKind.number_injective {x : TripKind} (same : k.number = x.number) : k = x := by
  have place (y : TripKind) : allKinds.find? (fun z => decide (z.number = y.number)) = some y := by
    rcases y with _ | g | g | _ | _ | l
    · rfl
    · cases g <;> rfl
    · cases g <;> rfl
    · rfl
    · rfl
    · cases l <;> rfl
  have found := place k
  rw [same, place x] at found
  exact (Option.some.inj found).symm

theorem resetTargetOf_none (outside : w.toInt < 0 ∨ 11 < w.toInt) : resetTargetOf w = none := by
  have unnamed : allKinds.find? (fun k => decide ((k.number : Int) = signed w)) = none := by
    refine List.find?_eq_none.mpr fun k _ named => ?_
    have range := k.number_range
    have named : (k.number : Int) = w.toInt := of_decide_eq_true named
    omega
  have other : ¬signed w = 0 := fun zero => by
    have zero : w.toInt = 0 := zero
    omega
  rw [resetTargetOf, if_neg other, unnamed]
  rfl

theorem resetTargetOf_highest (zero : w.toInt = 0) : resetTargetOf w = some .highest := if_pos zero

theorem resetTargetOf_kind (named : w.toInt = (k.number : Int)) : resetTargetOf w = some (.kind k) := by
  have range := k.number_range
  have other : ¬signed w = 0 := fun zero => by
    have zero : w.toInt = 0 := zero
    omega
  have found : allKinds.find? (fun x => decide ((x.number : Int) = signed w)) = some k := by
    obtain ⟨x, found⟩ : ∃ x, allKinds.find? (fun x => decide ((x.number : Int) = signed w)) = some x :=
      Option.isSome_iff_exists.mp
        (List.find?_isSome.mpr ⟨k, mem_allKinds k, decide_eq_true named.symm⟩)
    have chosen := List.find?_some found
    have same : (x.number : Int) = w.toInt := of_decide_eq_true chosen
    rw [found, TripKind.number_injective (k := x) (x := k) (by omega)]
  rw [resetTargetOf, if_neg other, found]
  rfl

/-! ## The tests of TRIP_RESET in their order -/

theorem resetTrip_refused (outside : w.toInt < 0 ∨ 11 < w.toInt) : resetTrip w u = (.badArg, u) := by
  rw [resetTrip, resetTargetOf_none outside]

theorem resetTrip_empty (zero : w.toInt = 0) (none_ : ∀ k, u.latched k = false) : resetTrip w u = (.ok, u) := by
  rw [resetTrip, resetTargetOf_highest zero]
  simp only
  rw [trips_eq_nil none_]

theorem resetTrip_kind (named : w.toInt = (k.number : Int)) : resetTrip w u = resetKind k u := by
  rw [resetTrip, resetTargetOf_kind named]

/-- HIGHEST names the latched kind of the lowest number. -/
theorem resetTrip_highest (law : u.tripOrderLaw) (zero : w.toInt = 0) (latched : u.latched k = true)
    (lowest : ∀ x, u.latched x = true → k.number ≤ x.number) : resetTrip w u = resetKind k u := by
  rw [resetTrip, resetTargetOf_highest zero]
  simp only
  cases first : u.orders.trips with
  | nil =>
    have member := of_decide_eq_true latched
    rw [first] at member
    cases member
  | cons x rest =>
    have own : u.latched x = true := decide_eq_true (by rw [first]; exact List.mem_cons_self)
    have same := Nat.le_antisymm (number_le_of_first law first latched) (lowest x own)
    rw [TripKind.number_injective same]

theorem resetKind_unlatched (free : u.latched k = false) : resetKind k u = (.ok, u) := if_pos free

theorem resetKind_stands (latched : u.latched k = true) (stands : u.causeStands k = true) :
    resetKind k u = (.causePresent, u) := by
  rw [resetKind, if_neg (by rw [latched]; exact Bool.noConfusion), if_pos stands]

theorem resetKind_removes (latched : u.latched k = true) (gone : u.causeStands k = false) :
    resetKind k u = (.ok, removeTrip k u) := by
  rw [resetKind, if_neg (by rw [latched]; exact Bool.noConfusion), if_neg (by rw [gone]; exact Bool.noConfusion)]

/-! ## Standing causes -/

theorem causeStands_overpressure {p : Int} (fresh : (u.laneOf .drive).fresh = true)
    (pressure : u.pressure g = some p) :
    u.causeStands (.overpressure g) = decide (u.classField .pTrip ≤ p) := by
  unfold State.causeStands
  simp only
  rw [fresh, pressure]

theorem causeStands_none
    (low : ∀ g p, k = .overpressure g → (u.laneOf .drive).fresh = true → u.pressure g = some p →
      p < u.classField .pTrip)
    (up : ∀ l, k = .laneTrip l → (u.laneOf l).state = .up) : u.causeStands k = false := by
  cases k with
  | overpressure g =>
    cases fresh : (u.laneOf .drive).fresh with
    | false =>
      unfold State.causeStands
      simp only
      rw [fresh]
    | true =>
      cases pressure : u.pressure g with
      | none =>
        unfold State.causeStands
        simp only
        rw [fresh, pressure]
      | some p =>
        rw [causeStands_overpressure fresh pressure]
        exact decide_eq_false (not_le.mpr (low g p rfl fresh pressure))
  | laneTrip l => exact decide_eq_false (not_not.mpr (up l rfl))
  | orderLost | jam | primeFail | suction => rfl

/-! ## What a removal leaves -/

/-- What the releases leave as it is. -/
structure Spared (s t : State) : Prop where
  orders : t.orders = s.orders
  base : t.drive.base = s.drive.base
  pickup : t.pickup = s.pickup
  selector : t.selector = s.selector
  survey : t.survey = s.survey
  steering : t.steering = s.steering
  settings : t.settings = s.settings

theorem Spared.refl (s : State) : Spared s s := ⟨rfl, rfl, rfl, rfl, rfl, rfl, rfl⟩

theorem Spared.trans (h : Spared s t) (k : Spared t u) : Spared s u :=
  ⟨k.orders.trans h.orders, k.base.trans h.base, k.pickup.trans h.pickup, k.selector.trans h.selector,
    k.survey.trans h.survey, k.steering.trans h.steering, k.settings.trans h.settings⟩

theorem releaseLoop_spared (g : Gear) (s : State) : Spared s (releaseLoop g s) := by
  unfold releaseLoop
  split
  · constructor <;> simp
  · exact .refl s

theorem releaseSlurry_spared (s : State) : Spared s (releaseSlurry s) := by
  unfold releaseSlurry
  split
  · constructor <;> simp
  · exact .refl s

/-- R35: a loop in TRIPPED is released once none of its own trips is latched; the other loop stays. -/
theorem releaseLoop_loopStates (g : Gear) (s : State) : (releaseLoop g s).loopStates = fun h =>
    if h = g ∧ s.loopStates h = .tripped ∧ s.loopTripped h = false then .stopped else s.loopStates h := by
  funext h
  unfold releaseLoop
  split
  next free =>
    rw [enterLoop_loopStates]
    by_cases here : h = g
    · subst here
      exact (if_pos rfl).trans (if_pos ⟨rfl, free⟩).symm
    · exact (if_neg here).trans (if_neg fun all => here all.1).symm
  next held =>
    refine (if_neg fun all => held ?_).symm
    obtain ⟨rfl, free⟩ := all
    exact free

theorem releaseLoop_slurryState (g : Gear) (s : State) : (releaseLoop g s).slurry.state = s.slurry.state := by
  unfold releaseLoop
  split
  next free => rw [enterLoop_slurryState, if_neg fun both => both.2 rfl]
  next => rfl

theorem releaseSlurry_loopOf (g : Gear) (s : State) : (releaseSlurry s).loopOf g = s.loopOf g := by
  unfold releaseSlurry
  split
  · exact zeroSlurry_loopOf ..
  · rfl

theorem releaseSlurry_state (s : State) : (releaseSlurry s).slurry.state =
    if s.slurry.state = .tripped ∧ s.slurryTripped = false then .stopped else s.slurry.state := by
  unfold releaseSlurry
  split
  · rw [zeroSlurry_slurry]
  · rfl

theorem loopTripped_congr (same : t.orders = s.orders) (g : Gear) : t.loopTripped g = s.loopTripped g := by
  unfold State.loopTripped State.latched
  rw [same]

theorem slurryTripped_congr (same : t.orders = s.orders) : t.slurryTripped = s.slurryTripped := by
  unfold State.slurryTripped State.latched
  rw [same]

/-- R35, R113: every loop in TRIPPED is released that has none of its own trips left. -/
def releaseAll (s : State) : State := releaseSlurry (releaseLoop .g2 (releaseLoop .g1 s))

theorem releaseAll_spared (s : State) : Spared s (releaseAll s) :=
  (releaseLoop_spared .g1 s).trans ((releaseLoop_spared .g2 _).trans (releaseSlurry_spared _))

theorem releaseAll_loop (s : State) (g : Gear) : ((releaseAll s).loopOf g).state =
    if (s.loopOf g).state = .tripped ∧ s.loopTripped g = false then .stopped else (s.loopOf g).state := by
  have tripped := loopTripped_congr (releaseLoop_spared .g1 s).orders
  rw [releaseAll, releaseSlurry_loopOf]
  refine (congrFun (releaseLoop_loopStates .g2 (releaseLoop .g1 s)) g).trans ?_
  simp only [releaseLoop_loopStates, tripped]
  cases g with
  | g1 => simp [State.loopStates]
  | g2 => simp [State.loopStates]

theorem releaseAll_slurry (s : State) : (releaseAll s).slurry.state =
    if s.slurry.state = .tripped ∧ s.slurryTripped = false then .stopped else s.slurry.state := by
  have loops := (releaseLoop_spared .g1 s).trans (releaseLoop_spared .g2 _)
  rw [releaseAll, releaseSlurry_state, slurryTripped_congr loops.orders]
  simp only [releaseLoop_slurryState]

/-- The link and the latch set when the loops are about to be released: a removal of ORDER_LOST has taken the
link from LOST to LIVE. -/
def relinked (k : TripKind) (s : State) : State :=
  if k = .orderLost then
    (setLink .live (leaveKind k s)).onOrders fun x => { x with timer := s.startMs .orderPeriod }
  else leaveKind k s

theorem removeTrip_eq (k : TripKind) (s : State) : removeTrip k s = releaseAll (relinked k s) := rfl

theorem relinked_other (other : k ≠ .orderLost) : relinked k s = leaveKind k s := if_neg other

theorem relinked_lost : relinked .orderLost s =
    (setLink .live (leaveKind .orderLost s)).onOrders fun x => { x with timer := s.startMs .orderPeriod } := if_pos rfl

theorem relinked_orders_lost : (relinked .orderLost s).orders =
    { (leaveKind .orderLost s).orders with link := .live, timer := s.startMs .orderPeriod } := by
  rw [relinked_lost, State.onOrders, setLink_orders]

/-- The latch set, the record and the report timer are those of the removal. -/
theorem relinked_orders (k : TripKind) (s : State) : (relinked k s).orders.trips = removeKind k s.orders.trips ∧
    (relinked k s).orders.record = (if removeKind k s.orders.trips = [] then none else s.orders.record) ∧
    (relinked k s).orders.reportTimer = s.orders.reportTimer := by
  by_cases lost : k = .orderLost
  · subst lost
    rw [relinked_orders_lost]
    exact ⟨rfl, rfl, rfl⟩
  · rw [relinked_other lost]
    exact ⟨rfl, rfl, rfl⟩

/-- The move from LOST to LIVE releases no loop. -/
theorem relinked_loopStates (lost : k = .orderLost → s.orders.link = .lost) (g : Gear) :
    ((relinked k s).loopOf g).state = (s.loopOf g).state := by
  by_cases own : k = .orderLost
  · have calm : (leaveKind k s).orders.link ≠ .warn := by
      rw [show (leaveKind k s).orders.link = .lost from lost own]
      exact LinkState.noConfusion
    subst own
    rw [relinked_lost]
    exact congrFun (setLink_live_loopStates calm) g
  · rw [relinked_other own]
    rfl

/-- What a relinked part keeps besides. -/
theorem relinked_spared (k : TripKind) (s : State) : (relinked k s).drive.base = s.drive.base ∧
    (relinked k s).slurry.state = s.slurry.state ∧
    (relinked k s).pickup = s.pickup ∧ (relinked k s).selector = s.selector ∧ (relinked k s).survey = s.survey ∧
    (relinked k s).steering = s.steering ∧ (relinked k s).settings = s.settings := by
  by_cases lost : k = .orderLost
  · subst lost
    rw [relinked_lost]
    exact ⟨setLink_base .live (leaveKind .orderLost s), setLink_slurryState .live (leaveKind .orderLost s),
      setLink_pickup .live (leaveKind .orderLost s), setLink_selector .live (leaveKind .orderLost s),
      setLink_survey .live (leaveKind .orderLost s), setLink_steering .live (leaveKind .orderLost s),
      setLink_settings .live (leaveKind .orderLost s)⟩
  · rw [relinked_other lost]
    exact ⟨rfl, rfl, rfl, rfl, rfl, rfl, rfl⟩

theorem orderLinkStep_trips (s : State) : (orderLinkStep s).orders.trips = s.orders.trips := by
  unfold orderLinkStep
  split
  · rfl
  · rw [State.onOrders, setLink_orders]

theorem afterLink_latched (dt : Nat) (k : TripKind) (s : State) : (s.afterLink dt).latched k = s.latched k := by
  unfold State.latched
  rw [State.afterLink, orderLinkStep_trips]
  rfl

theorem afterLink_tripOrderLaw (dt : Nat) (law : s.tripOrderLaw) : (s.afterLink dt).tripOrderLaw := by
  unfold State.tripOrderLaw
  rw [State.afterLink, orderLinkStep_trips]
  exact law

/-- With ORDER_LOST latched the link stands in LOST, also after the step of R150. -/
theorem afterLink_lost {dt : Nat} (law : s.orderLostLaw) (latched : (s.afterLink dt).latched .orderLost = true) :
    (s.afterLink dt).orders.link = .lost := by
  rw [afterLink_latched] at latched
  have lost : s.orders.link = .lost := law.mp latched
  rw [State.afterLink, orderLinkStep_lost (s := emptyArea .shaft (s.elapse dt)) lost]
  exact lost

end

/-- Settles O55. -/
theorem tripResetOrder : Obligations.TripResetOrder := by
  unfold Obligations.TripResetOrder
  rintro dt w s _ orders lostLaw orderLaw rfl
  have taken : exec (.tripReset dt [w]) s =
      .next (replyOrder 12 (resetTrip w (s.afterLink dt)).1 (resetTrip w (s.afterLink dt)).2) :=
    arrival_taken orders rfl
  have answered {r : Result} {v : State} (h : resetTrip w (s.afterLink dt) = (r, v)) :
      exec (.tripReset dt [w]) s = .next (replyOrder 12 r v) := by rw [taken, h]
  refine ⟨fun outside => answered (resetTrip_refused outside), fun zero none_ => answered (resetTrip_empty zero none_),
    fun k named => ?_⟩
  have target : resetTrip w (s.afterLink dt) = resetKind k (s.afterLink dt) := by
    obtain named | ⟨zero, latched, lowest⟩ := named
    · exact resetTrip_kind named
    · exact resetTrip_highest (afterLink_tripOrderLaw dt orderLaw) zero latched lowest
  refine ⟨fun free => answered (target.trans (resetKind_unlatched free)), fun latched => ⟨fun stands => ?_,
    fun low up => ?_⟩⟩
  · refine answered (target.trans (resetKind_stands latched ?_))
    obtain ⟨g, p, rfl, fresh, pressure, high⟩ | ⟨l, rfl, down⟩ := stands
    · rw [causeStands_overpressure fresh pressure]
      exact decide_eq_true high
    · exact decide_eq_true down
  · have removed := answered (target.trans (resetKind_removes latched (causeStands_none low up)))
    rw [removeTrip_eq] at removed
    obtain ⟨trips, record, report⟩ := relinked_orders k (s.afterLink dt)
    obtain ⟨base, slurry, pickup, selector, survey, steering, settings⟩ := relinked_spared k (s.afterLink dt)
    have spared := releaseAll_spared (relinked k (s.afterLink dt))
    have lost : k = .orderLost → (s.afterLink dt).orders.link = .lost := by
      rintro rfl
      exact afterLink_lost lostLaw latched
    have latch (x : TripKind) : (releaseAll (relinked k (s.afterLink dt))).latched x =
        (relinked k (s.afterLink dt)).latched x := by
      unfold State.latched
      rw [spared.orders]
    refine ⟨_, removed, fun x => ?_, ?_, ?_, fun other => ?_, fun own => ?_, fun g => ?_, ?_,
      spared.base.trans base, spared.pickup.trans pickup, spared.selector.trans selector,
      spared.survey.trans survey, spared.steering.trans steering, spared.settings.trans settings⟩
    · rw [latch, State.latched, trips, decide_eq_true_iff, mem_removeKind, State.latched, decide_eq_true_iff]
    · rw [spared.orders, trips, record]
    · rw [spared.orders, report]
    · rw [spared.orders, relinked_other other]
      exact ⟨rfl, rfl⟩
    · subst own
      rw [spared.orders, relinked_orders_lost]
      exact ⟨rfl, rfl⟩
    · rw [releaseAll_loop, relinked_loopStates lost, latch, latch, latch, State.loopTripped]
      simp only [Bool.or_eq_false_iff, and_assoc]
    · rw [releaseAll_slurry, slurry, latch, latch, latch, State.slurryTripped]
      simp only [Bool.or_eq_false_iff, and_assoc]

end Sys2Proof.Machine

/-! SUPPORT. The tests of a TABLE frame with their answers, and a READ (R163, R164, R170). -/

namespace Sys2Proof.Machine

section
variable {write : Bool} {args : List Word} {dt : Nat} {s u : State} {t : Table} {r : Result}

/-! ## The tests in their order (R163) -/

/-- The number of items of a TABLE frame after item 0: the three that head it, and the words of a WRITE. -/
def tableLength (write : Bool) (args : List Word) : Nat := if write then 3 + (args.getD 2 0).toNat else 3

/-- The first test passes: three heading items, 1 to 8 words, and a WRITE brings them all. -/
structure Counted (write : Bool) (args : List Word) : Prop where
  heads : 3 ≤ args.length
  some_words : 1 ≤ (args.getD 2 0).toNat
  few : (args.getD 2 0).toNat ≤ 8
  full : args.length = tableLength write args

theorem tableTests_badArg (bad : args.length < 3 ∨ (args.getD 2 0).toNat = 0 ∨ 8 < (args.getD 2 0).toNat ∨
    args.length ≠ tableLength write args) : tableTests write args = .error .badArg :=
  if_pos (bad.imp_right (Or.imp_left Nat.lt_one_iff.mpr))

/-- The tests after the first. -/
theorem tableTests_counted (counted : Counted write args) : tableTests write args =
    match tableOf (args.getD 0 0).toNat with
    | none => .error .badTable
    | some t =>
      if t.size < (args.getD 1 0).toNat + (args.getD 2 0).toNat then .error .badIndex
      else if write = true ∧ t.readOnly = true then .error .readOnly
      else .ok t := by
  obtain ⟨heads, some_words, few, full⟩ := counted
  exact if_neg (by
    rintro (short | none_ | many | other)
    · omega
    · omega
    · omega
    · exact other full)

theorem tableOf_none {id : Nat} (unknown : 7 < id) : tableOf id = none := by
  unfold tableOf
  split
  case h_9 => rfl
  all_goals omega

theorem tableTests_badTable (counted : Counted write args) (unknown : 7 < (args.getD 0 0).toNat) :
    tableTests write args = .error .badTable := by
  rw [tableTests_counted counted, tableOf_none unknown]

theorem tableTests_badIndex (counted : Counted write args) (named : tableOf (args.getD 0 0).toNat = some t)
    (beyond : t.size < (args.getD 1 0).toNat + (args.getD 2 0).toNat) : tableTests write args = .error .badIndex := by
  rw [tableTests_counted counted, named]
  exact if_pos beyond

theorem tableTests_within (counted : Counted write args) (named : tableOf (args.getD 0 0).toNat = some t)
    (within : (args.getD 1 0).toNat + (args.getD 2 0).toNat ≤ t.size) : tableTests write args =
      if write = true ∧ t.readOnly = true then .error .readOnly else .ok t := by
  rw [tableTests_counted counted, named]
  exact if_neg (not_lt.mpr within)

/-! ## The answers -/

/-- The work of a READ or a WRITE. -/
def takeTable (write : Bool) (args : List Word) : State → State := if write then takeWrite args else takeRead args

/-- The item 0 that the answer echoes. -/
def tableCode (write : Bool) : Word := if write then writeCode else readCode

theorem exec_table (running : s.inReset = false) :
    exec (if write then .tableWrite dt args else .tableRead dt args) s = .next (takeTable write args (s.afterFrame dt)) := by
  cases write with
  | true => exact exec_running _ running
  | false => exact exec_running _ running

theorem takeTable_capped (cap : u.replyCap = true) : takeTable write args u = u := by
  cases write with
  | true => exact if_pos cap
  | false => exact if_pos cap

/-- A frame that fails a test is answered with the result of that test. -/
theorem takeTable_fails (room : u.replyCap = false) (fails : tableTests write args = .error r) :
    takeTable write args u = replyTable (tableCode write) r args 0 [] u := by
  cases write with
  | true => exact (if_neg (by rw [room]; exact Bool.noConfusion)).trans (by rw [fails]; rfl)
  | false => exact (if_neg (by rw [room]; exact Bool.noConfusion)).trans (by rw [fails]; rfl)

theorem takeRead_passes (room : u.replyCap = false) (passes : tableTests false args = .ok t) :
    takeRead args u = replyTable readCode .ok args (args.getD 2 0).toNat
      (u.readWords t (args.getD 1 0).toNat (args.getD 2 0).toNat) u :=
  (if_neg (by rw [room]; exact Bool.noConfusion)).trans (by rw [passes])

theorem readWords_get {start count k : Nat} (within : k < count) :
    (u.readWords t start count)[k]? = some (u.readWord t (start + k)) := by
  rw [State.readWords, List.getElem?_map, List.getElem?_range within]
  rfl

theorem replyCap_afterFrame_full (full : 4 ≤ s.repliesWaiting) : (s.afterFrame dt).replyCap = true :=
  decide_eq_true full

end

/-- Settles O56. -/
theorem tableFrameTests : Obligations.TableFrameTests := by
  unfold Obligations.TableFrameTests
  refine ⟨?_, ?_, fun c r id start count more words n s b rest free => enqueue_cons free⟩
  · rintro dt items s _ running rfl
    have worked := exec_running (.tableBadCode dt items) running
    refine ⟨fun full => worked.trans (congrArg _ (if_pos (replyCap_afterFrame_full full))), fun room => ?_⟩
    have room := State.replyCap_afterFrame (dt := dt) room
    exact worked.trans (congrArg _ (if_neg fun full => Bool.noConfusion (room.symm.trans full)))
  · rintro dt write args s _ _ _ _ _ _ running rfl rfl rfl rfl rfl rfl
    rw [exec_table running]
    refine ⟨fun full => congrArg _ (takeTable_capped (replyCap_afterFrame_full full)), fun room => ?_⟩
    have room := State.replyCap_afterFrame (dt := dt) room
    refine ⟨fun bad => congrArg _ (takeTable_fails room (tableTests_badArg bad)),
      fun heads some_words few full => ?_⟩
    have counted : Counted write args := ⟨heads, some_words, few, full⟩
    refine ⟨fun unknown => congrArg _ (takeTable_fails room (tableTests_badTable counted unknown)),
      fun t named => ⟨fun beyond => congrArg _ (takeTable_fails room (tableTests_badIndex counted named beyond)),
        fun within => ⟨?_, ?_⟩⟩⟩
    · rintro rfl rating
      refine congrArg _ (takeTable_fails room ((tableTests_within counted named within).trans (if_pos ⟨rfl, ?_⟩)))
      obtain rfl | rfl := rating <;> rfl
    · rintro rfl
      have passes : tableTests false args = .ok t :=
        (tableTests_within counted named within).trans (if_neg fun both => Bool.noConfusion both.1)
      exact ⟨_, (exec_table (write := false) running).trans (congrArg _ (takeRead_passes room passes)),
        by rw [State.readWords, List.length_map, List.length_range], fun k small => readWords_get small⟩

end Sys2Proof.Machine

/-! SUPPORT. The checks of a word of each writable table, and what a written word changes (R51, R55, R60, R115,
R128, R137, R166). -/

namespace Sys2Proof.Machine

section
variable {s : State} {w : Word}

/-! ## The class table (R51) -/

theorem checkWord_classes {row field : Nat} (column : field < 21) :
    s.checkWord .classes (row * 21 + field) w =
      if row = s.selector.classInEffect ∧ s.anyCutting = true then some .inUse
      else if classRange field w = false then some .badValue
      else if pressureOrder s.selector.classTable row field w = true then some .badOrder
      else none := by
  have row_ : (row * 21 + field) / 21 = row := by omega
  have field_ : (row * 21 + field) % 21 = field := by omega
  simp only [State.checkWord, State.checkClass, row_, field_]

/-- R51 step 3: only P_lim, P_max and P_trip stand in an order. -/
theorem pressureOrder_iff (table : List Word) (row field : Nat) (w : Word) :
    pressureOrder table row field w = true ↔
      (field = 6 ∧ classWord table row 7 ≤ (w.toNat : Int)) ∨
        (field = 7 ∧ ((w.toNat : Int) ≤ classWord table row 6 ∨ classWord table row 9 < (w.toNat : Int))) ∨
        (field = 9 ∧ (w.toNat : Int) < classWord table row 7) := by
  by_cases limit : field = 6
  · subst limit
    have here : pressureOrder table row 6 w = true ↔ classWord table row 7 ≤ (w.toNat : Int) := decide_eq_true_iff
    simp [here]
  by_cases most : field = 7
  · subst most
    have here : pressureOrder table row 7 w = true ↔
        ((w.toNat : Int) ≤ classWord table row 6 ∨ classWord table row 9 < (w.toNat : Int)) := decide_eq_true_iff
    simp [here]
  by_cases trip : field = 9
  · subst trip
    have here : pressureOrder table row 9 w = true ↔ (w.toNat : Int) < classWord table row 7 := decide_eq_true_iff
    simp [here]
  · simp [pressureOrder, ClassField.number, limit, most, trip]

/-! ## The band table (R55) -/

/-- R55: of two bands the earlier lies below the later. -/
def Band.below (b c : Band) : Prop := b.lower < c.lower ∧ b.upper ≤ c.lower

/-- That each band lies below the next says it of every two. -/
theorem bandsOk_iff (bands : List Band) :
    bandsOk bands = true ↔ (∀ b ∈ bands, b.lower < b.upper) ∧ bands.Pairwise Band.below := by
  induction bands with
  | nil => exact iff_of_true rfl ⟨nofun, .nil⟩
  | cons b bands ih =>
    cases bands with
    | nil => simp [bandsOk]
    | cons c rest =>
      rw [bandsOk, Bool.and_eq_true_iff, ih]
      simp only [Bool.and_eq_true_iff, decide_eq_true_iff, List.forall_mem_cons, List.pairwise_cons, Band.below]
      constructor
      · rintro ⟨⟨⟨rises, lower⟩, apart⟩, ⟨next, later⟩, after, ordered⟩
        refine ⟨⟨rises, next, later⟩, ⟨⟨lower, apart⟩, fun d member => ?_⟩, after, ordered⟩
        have beyond := after d member
        omega
      · rintro ⟨⟨rises, next, later⟩, ⟨⟨lower, apart⟩, -⟩, after, ordered⟩
        exact ⟨⟨⟨rises, lower⟩, apart⟩, ⟨next, later⟩, after, ordered⟩

/-- The valid entries, by their entry numbers. -/
theorem bandsOk_validBands (table : List Word) : bandsOk (validBands table) = true ↔
    (∀ i, i < 16 ∧ bandWord table i 2 ≤ 7 → bandWord table i 0 < bandWord table i 1) ∧
    ∀ i k, i < k → (i < 16 ∧ bandWord table i 2 ≤ 7) → (k < 16 ∧ bandWord table k 2 ≤ 7) →
      bandWord table i 0 < bandWord table k 0 ∧ bandWord table i 1 ≤ bandWord table k 0 := by
  have member (i : Nat) : i ∈ (List.range 16).filter (bandValid table) ↔ i < 16 ∧ bandWord table i 2 ≤ 7 := by
    rw [List.mem_filter, List.mem_range, bandValid, decide_eq_true_iff]
  rw [bandsOk_iff, validBands, List.forall_mem_map, List.pairwise_map, List.pairwise_filter]
  refine and_congr (forall_congr' fun i => imp_congr (member i) Iff.rfl) ?_
  rw [List.pairwise_iff_getElem]
  simp only [List.length_range, List.getElem_range, Band.below, bandValid, decide_eq_true_iff]
  constructor
  · intro ordered i k before first second
    exact ordered i k first.1 second.1 before first.2 second.2
  · intro ordered i k inside last before first second
    exact ordered i k before ⟨inside, first⟩ ⟨last, second⟩

theorem checkWord_bands {e j : Nat} (place : j < 3) : s.checkWord .bands (e * 3 + j) w =
    if bandRange j w = false then some .badValue
    else if bandsOk (validBands (s.selector.bandTable.set (e * 3 + j) w)) = true then none
    else some .badOrder := by
  have word : (e * 3 + j) % 3 = j := by omega
  simp only [State.checkWord, checkBand, word]

theorem bandRange_iff (j : Nat) (w : Word) : bandRange j w = true ↔
    (j ≠ 2 → w.toNat ≤ 3000) ∧ (j = 2 → w.toNat ≤ 7 ∨ w.toNat = 65535) := by
  unfold bandRange
  by_cases class_ : j = 2
  · simp [class_]
  · simp [class_]

theorem checkWord_bands_badValue {e j : Nat} (place : j < 3) (outside : bandRange j w = false) :
    s.checkWord .bands (e * 3 + j) w = some .badValue := (checkWord_bands place).trans (if_pos outside)

/-! ## The curve table (R60) -/

theorem checkWord_curves_x {c point : Nat} (inside : point < 9) : s.checkWord .curves (c * 18 + point * 2) w =
    if (1 ≤ point ∧ (w.toNat : Int) ≤ curveX s.selector.curveTable (c + 1) (point - 1)) ∨
        (point ≤ 7 ∧ curveX s.selector.curveTable (c + 1) (point + 1) ≤ (w.toNat : Int)) then
      some .badOrder
    else none := by
  have curve : (c * 18 + point * 2) / 18 = c := by omega
  have place : (c * 18 + point * 2) % 18 / 2 = point := by omega
  have even : ¬(c * 18 + point * 2) % 2 = 1 := by omega
  simp only [State.checkWord, checkCurve, curve, place, if_neg even, unsigned]

theorem checkWord_curves_y (c point : Nat) : s.checkWord .curves (c * 18 + point * 2 + 1) w =
    if 1000 < w.toNat then some .badValue else none := by
  have odd : (c * 18 + point * 2 + 1) % 2 = 1 := by omega
  simp only [State.checkWord, checkCurve, if_pos odd, unsigned]
  exact if_congr (by omega) rfl rfl

/-! ## The envelope table (R128) -/

theorem entryLow_channelNumber (ch : Channel) : entryLow (channelNumber ch) = channelLow ch := by
  rcases ch with g | p | _
  · cases g <;> rfl
  · cases p <;> rfl
  · rfl

/-- A word outside the channel's range, said as its two ends. -/
theorem outsideRange_iff (low x : Int) : ¬(low ≤ x ∧ x ≤ 1000) ↔ x < low ∨ 1000 < x := by omega

theorem checkWord_envelope_min (ch : Channel) : s.checkWord .envelope (channelNumber ch * 3) w =
    if w.toInt < channelLow ch ∨ 1000 < w.toInt then some .badValue
    else if s.envelopeMax ch < w.toInt then some .badOrder else none := by
  have entry : channelNumber ch * 3 / 3 = channelNumber ch := by omega
  have place : channelNumber ch * 3 % 3 = 0 := by omega
  simp only [State.checkWord, checkEnvelope, entry, place, entryLow_channelNumber]
  exact if_congr (outsideRange_iff ..) rfl rfl

theorem checkWord_envelope_max (ch : Channel) : s.checkWord .envelope (channelNumber ch * 3 + 1) w =
    if w.toInt < channelLow ch ∨ 1000 < w.toInt then some .badValue
    else if w.toInt < s.envelopeMin ch then some .badOrder else none := by
  have entry : (channelNumber ch * 3 + 1) / 3 = channelNumber ch := by omega
  have place : (channelNumber ch * 3 + 1) % 3 = 1 := by omega
  simp only [State.checkWord, checkEnvelope, entry, place, entryLow_channelNumber]
  exact if_congr (outsideRange_iff ..) rfl rfl

theorem checkWord_envelope_slew (ch : Channel) : s.checkWord .envelope (channelNumber ch * 3 + 2) w =
    if 2000 < w.toNat then some .badValue else none := by
  have place : (channelNumber ch * 3 + 2) % 3 = 2 := by omega
  simp only [State.checkWord, checkEnvelope, place, unsigned]
  exact if_congr (by omega) rfl rfl

/-! ## The route table (R137) -/

theorem laneOfNumber_eq_some {n : Nat} {l : Lane} : laneOfNumber n = some l ↔ n = laneNumber l := by
  constructor
  · intro named
    unfold laneOfNumber at named
    split at named
    all_goals cases named
    all_goals rfl
  · rintro rfl
    cases l <;> rfl

theorem wordInUse_iff (n : Nat) : s.wordInUse n = true ↔ ∃ l, s.laneInUse l = true ∧ n = laneNumber l := by
  unfold State.wordInUse
  cases named : laneOfNumber n with
  | none =>
    refine iff_of_false nofun ?_
    rintro ⟨l, -, same⟩
    rw [laneOfNumber_eq_some.mpr same] at named
    cases named
  | some l =>
    have here := laneOfNumber_eq_some.mp named
    refine ⟨fun use => ⟨l, use, here⟩, ?_⟩
    rintro ⟨k, use, same⟩
    rw [laneOfNumber_eq_some.mpr same] at named
    cases named
    exact use

theorem mappedElsewhere_iff (table : List Word) (a : Nat) (w : Word) : mappedElsewhere table a w = true ↔
    ∃ other < 64, other ≠ a ∧ routeWord table other 0 = w.toNat := by
  simp [mappedElsewhere]

/-- The tests of a lane word, in their order. -/
theorem checkWord_route_lane (a : Nat) : s.checkWord .route (a * 3) w =
    if 4 < w.toNat then some .badValue
    else if w ≠ 0 ∧ (a ≤ 1 ∨ a = s.ownAddress) then some .badValue
    else if w ≠ 0 ∧ mappedElsewhere s.path.route a w = true then some .badOrder
    else if routeWord s.path.route a 0 ≠ w.toNat ∧
        (s.wordInUse (routeWord s.path.route a 0) || s.wordInUse w.toNat) = true then some .inUse
    else none := by
  have address : a * 3 / 3 = a := by omega
  have place : a * 3 % 3 = 0 := by omega
  simp only [State.checkWord, State.checkRoute, address, place, routeRange]
  exact if_congr (by simp) rfl (if_neg (by simp))

theorem checkWord_route_rest {a j : Nat} (place : j = 1 ∨ j = 2) : s.checkWord .route (a * 3 + j) w =
    if routeRange j w = false then some .badValue else none := by
  have word : (a * 3 + j) % 3 = j := by omega
  have other : j ≠ 0 := by omega
  simp only [State.checkWord, State.checkRoute, word, if_pos other]

/-- A lane word that names no address out of use and no lane that another entry maps. -/
theorem checkWord_route_free {a : Nat}
    (free : w = 0 ∨ (w.toNat ≤ 4 ∧ 2 ≤ a ∧ a ≠ s.ownAddress ∧
      ∀ other < 64, other ≠ a → routeWord s.path.route other 0 ≠ w.toNat)) :
    s.checkWord .route (a * 3) w =
      if routeWord s.path.route a 0 ≠ w.toNat ∧
          (s.wordInUse (routeWord s.path.route a 0) || s.wordInUse w.toNat) = true then some .inUse
      else none := by
  rw [checkWord_route_lane]
  obtain rfl | ⟨few, outer, other, single⟩ := free
  · rw [if_neg (by decide), if_neg fun both => both.1 rfl, if_neg fun both => both.1 rfl]
  · rw [if_neg (by omega), if_neg (by omega), if_neg]
    rintro ⟨-, mapped⟩
    obtain ⟨b, inside, apart, same⟩ := (mappedElsewhere_iff ..).mp mapped
    exact single b inside apart same

/-! ## The settings table (R166) -/

theorem checkWord_settings (i : Nat) : s.checkWord .settings i w =
    if settingRange i (settingNumber i w) = false then some .badValue
    else if s.settingOrder i (settingNumber i w) = true then some .badOrder
    else none := rfl

theorem settingOrder_iff (i : Nat) : s.settingOrder i (settingNumber i w) = true ↔
    (i = 15 ∧ s.setting .primeMax < (w.toNat : Int)) ∨ (i = 17 ∧ (w.toNat : Int) < s.setting .primeStart) ∨
      (i = 32 ∧ s.setting .densityHigh ≤ (w.toNat : Int)) ∨
      (i = 33 ∧ (w.toNat : Int) ≤ s.setting .densityLow) := by
  unfold State.settingOrder
  simp only [Setting.index]
  by_cases start : i = 15
  · subst start
    simp [settingNumber, settingSigned, unsigned]
  by_cases most : i = 17
  · subst most
    simp [settingNumber, settingSigned, unsigned]
  by_cases low : i = 32
  · subst low
    simp [settingNumber, settingSigned, unsigned]
  by_cases high : i = 33
  · subst high
    simp [settingNumber, settingSigned, unsigned]
  · simp [start, most, low, high]

end

/-- Settles O58. -/
theorem tableWordChecks : Obligations.TableWordChecks := by
  unfold Obligations.TableWordChecks
  refine ⟨?_, ?_, ?_, ?_, ?_, ?_, ?_, ?_⟩
  · intro s row field w column inside
    rw [checkWord_classes column]
    refine ⟨fun effect cuts => if_pos ⟨effect, cuts⟩, fun free => ?_⟩
    have unused : ¬(row = s.selector.classInEffect ∧ s.anyCutting = true) := by
      rintro ⟨effect, cuts⟩
      obtain other | idle := free
      · exact other effect
      · rw [cuts] at idle
        cases idle
    rw [if_neg unused]
    refine ⟨fun outside => if_pos outside, fun within => ?_⟩
    rw [if_neg (by rw [within]; exact Bool.noConfusion)]
    exact if_congr (pressureOrder_iff ..) rfl rfl
  · intro s e w inside
    refine ⟨fun high => ?_, fun high low => ?_, ?_⟩
    · have outside (j : Nat) (other : j ≠ 2) : bandRange j w = false :=
        Bool.eq_false_iff.mpr fun within => by
          have most := ((bandRange_iff j w).mp within).1 other
          omega
      exact ⟨checkWord_bands_badValue (j := 0) (by decide) (outside 0 (by decide)),
        checkWord_bands_badValue (by decide) (outside 1 (by decide))⟩
    · refine checkWord_bands_badValue (by decide) (Bool.eq_false_iff.mpr fun within => ?_)
      have most := ((bandRange_iff 2 w).mp within).2 rfl
      omega
    · rintro j _ _ place limit named rfl rfl
      have within := (bandRange_iff j w).mpr ⟨limit, named⟩
      rw [checkWord_bands place, if_neg (by rw [within]; exact Bool.noConfusion)]
      refine ⟨fun rise apart => if_pos ((bandsOk_validBands _).mpr ⟨rise, apart⟩), fun bad => if_neg fun ok => ?_⟩
      obtain ⟨rise, apart⟩ := (bandsOk_validBands _).mp ok
      obtain ⟨i, valid, falls⟩ | ⟨i, k, before, first, second, overlap⟩ := bad
      · have rises := rise i valid
        omega
      · have clear := apart i k before first second
        omega
  · exact fun s c point w curve inside => ⟨checkWord_curves_x inside, checkWord_curves_y c point⟩
  · exact fun s ch w => ⟨checkWord_envelope_min ch, checkWord_envelope_max ch, checkWord_envelope_slew ch⟩
  · intro s a w inside
    refine ⟨(checkWord_route_rest (.inl rfl)).trans (if_congr (by simp [routeRange]) rfl rfl),
      (checkWord_route_rest (.inr rfl)).trans (if_congr (by simp [routeRange]) rfl rfl), ?_, ?_, fun free => ?_⟩
    · rw [checkWord_route_lane]
      rintro (many | reserved)
      · exact if_pos many
      · rw [if_pos reserved, ite_self]
    · intro named few outer other mapped
      have some_ : w ≠ 0 := fun zero => by
        rw [zero] at named
        exact absurd named (by decide)
      rw [checkWord_route_lane, if_neg (by omega), if_neg (by omega),
        if_pos ⟨some_, (mappedElsewhere_iff ..).mpr mapped⟩]
    · rw [checkWord_route_free free]
      refine ⟨fun same => if_neg fun both => both.1 same, fun changed => ⟨fun used => if_pos ⟨changed, ?_⟩,
        fun unused => if_neg ?_⟩⟩
      · rintro ⟨-, use⟩
        obtain old | new := Bool.or_eq_true_iff.mp use
        · obtain ⟨l, use, same⟩ := (wordInUse_iff _).mp old
          rw [unused l (.inl same)] at use
          cases use
        · obtain ⟨l, use, same⟩ := (wordInUse_iff _).mp new
          rw [unused l (.inr same)] at use
          cases use
      · obtain ⟨l, use, old | new⟩ := used
        · exact Bool.or_eq_true_iff.mpr (.inl ((wordInUse_iff _).mpr ⟨l, use, old⟩))
        · exact Bool.or_eq_true_iff.mpr (.inr ((wordInUse_iff _).mpr ⟨l, use, new⟩))
  · intro s
    refine ⟨decide_eq_true_iff.trans ⟨?_, ?_⟩, decide_eq_true_iff, decide_eq_true_iff, decide_eq_true_iff⟩
    · rintro (one | two)
      · exact ⟨.g1, one⟩
      · exact ⟨.g2, two⟩
    · rintro ⟨g, works⟩
      cases g with
      | g1 => exact .inl works
      | g2 => exact .inr works
  · intro s i w inside
    rw [checkWord_settings]
    refine ⟨fun outside => if_pos outside, fun within => ?_⟩
    rw [if_neg (by rw [within]; exact Bool.noConfusion)]
    exact if_congr (settingOrder_iff i) rfl rfl
  · intro s i w
    refine ⟨rfl, rfl, rfl, rfl, fun other => if_neg other, ?_, rfl⟩
    rintro rfl
    rfl

end Sys2Proof.Machine

/-! SUPPORT. The end of power-on reset, and what puts the part into it (R171, R172). -/

namespace Sys2Proof.Machine

section
variable {dt : Nat} {p : Port} {s : State} {x : Transmission}

/-! ## Aborted transmissions -/

theorem abortedLine_idle (idle : s.txOf p = none) : s.abortedLine.get p = s.line.get p := by
  rw [State.abortedLine, PerPort.get_of]
  simp only [idle]

theorem abortedLine_sends (sends : s.txOf p = some x) : s.abortedLine.get p =
    (frameChars x.entry.frame).take ((s.now - x.since) / s.charMicros p) := by
  rw [State.abortedLine, PerPort.get_of]
  simp only [sends]
  rfl

theorem txPin_idle (idle : s.txOf p = none) (k : Nat) : s.txPin p k = true := by
  unfold State.txPin
  rw [idle]
  cases s.inReset <;> rfl

theorem txPin_inReset (reset : s.inReset = true) (p : Port) (k : Nat) : s.txPin p k = true := by
  unfold State.txPin
  rw [reset]

/-! ## The end of power-on reset -/

theorem powerOn_pickupOf (straps : Straps) (s : State) (g : Gear) :
    (powerOn straps s).pickupOf g = .powerOn (s.pickupOf g).a.raw (s.pickupOf g).b.raw := by cases g <;> rfl

theorem powerOn_loopOf (straps : Straps) (s : State) (g : Gear) :
    (powerOn straps s).loopOf g = .powerOn (.running 20000 s.now) := by cases g <;> rfl

theorem powerOn_txOf (straps : Straps) (s : State) (p : Port) : (powerOn straps s).txOf p = none := by
  rcases p with _ | l
  · rfl
  · cases l <;> rfl

theorem powerOn_inputs (straps : Straps) (s : State) (p : Port) :
    (powerOn straps s).inputs.get p = ⟨(s.inputs.get p).incoming, .idle, []⟩ := PerPort.get_of ..

/-! ## The part in power-on reset -/

theorem enterReset_txOf (s : State) (p : Port) : (enterReset s).txOf p = none := by
  rcases p with _ | l
  · rfl
  · cases l <;> rfl

theorem enterReset_queueOf (s : State) (p : Port) : (enterReset s).queueOf p = [] := by
  rcases p with _ | l
  · rfl
  · cases l <;> rfl

theorem enterReset_area (s : State) (p : Port) : (enterReset s).path.area.get p = .empty := by
  rcases p with _ | l
  · rfl
  · cases l <;> rfl

/-- While the part is in power-on reset the levels that come are lost. -/
theorem enterReset_inputs (d : Nat) (s : State) (p : Port) : ((enterReset s).elapse d).inputs.get p =
    ⟨(s.inputs.get p).incoming.drop (d * 16), .idle, []⟩ := by
  have cleared : (enterReset s).inputs.get p = (s.inputs.get p).cleared := PerPort.get_of ..
  exact (State.passInputs_inReset rfl d p).trans (by rw [cleared]; rfl)

/-- No timer runs, no frame waits or is sent, and none has come: nothing is due. -/
theorem enterReset_dueEvents (d : Nat) (s : State) : ((enterReset s).elapse d).dueEvents = [] := by
  have arrivals (p : Port) : ((enterReset s).elapse d).arrivalOn p = none := by
    rw [State.arrivalOn, enterReset_inputs]
    rfl
  have ports (p : Port) : ((enterReset s).elapse d).duePort p = [] := by
    have idle : ((enterReset s).elapse d).txOf p = none := enterReset_txOf s p
    unfold State.duePort
    rw [idle]
    rcases p with _ | l
    · rfl
    · cases l <;> rfl
  have timers : ((enterReset s).elapse d).duePickups = [] ∧ ((enterReset s).elapse d).dueLanes = [] ∧
      ((enterReset s).elapse d).dueLoops = [] := ⟨rfl, rfl, rfl⟩
  obtain ⟨pickups, lanes, loops⟩ := timers
  have sends : allPorts.flatMap ((enterReset s).elapse d).duePort = [] := List.flatMap_eq_nil_iff.mpr fun p _ => ports p
  have comes : allPorts.filterMap ((enterReset s).elapse d).arrivalOn = [] :=
    List.filterMap_eq_nil_iff.mpr fun p _ => arrivals p
  rw [State.dueEvents, pickups, lanes, loops, sends, comes]
  rfl

theorem exec_rstnLow (running : s.inReset = false) (cause : LowCause) :
    exec (.rstnLow dt cause) s = .next (resetLow cause (s.elapse dt)) := exec_running _ running

theorem resetLow_long {cause : LowCause} (long : cause = .supply ∨ ∃ n, cause = .rstn n ∧ 10 ≤ n) :
    resetLow cause s = enterReset s := by
  obtain rfl | ⟨n, rfl, long⟩ := long
  · rfl
  · exact if_pos long

theorem resetLow_short {n : Nat} (short : n < 10) : resetLow (.rstn n) s =
    if Config.shortPulseTaken s.draws then enterReset { s with draws := s.draws + 1 }
    else { s with draws := s.draws + 1 } := if_neg (not_le.mpr short)

end

/-- Settles O60. -/
theorem powerOnAndRstn : Obligations.PowerOnAndRstn := by
  unfold Obligations.PowerOnAndRstn
  refine ⟨fun dt straps s => ?_, fun dt cause s running => ⟨fun long => ?_, ?_⟩, fun s p k reset =>
    txPin_inReset reset p k⟩
  · refine ⟨powerOn straps (s.elapse dt), rfl, rfl, rfl, rfl, rfl,
      fun g => ⟨powerOn_pickupOf straps (s.elapse dt) g, powerOn_loopOf straps (s.elapse dt) g⟩,
      rfl, rfl, rfl, rfl, rfl, rfl, rfl, rfl, rfl, fun p => ⟨txPin_idle (powerOn_txOf ..), powerOn_inputs .., ?_⟩⟩
    exact fun idle => abortedLine_idle (s := s.elapse dt) idle
  · refine ⟨enterReset (s.elapse dt), (exec_rstnLow running cause).trans (congrArg _ (resetLow_long long)), rfl, rfl,
      fun d => enterReset_dueEvents d _, fun p => ⟨enterReset_txOf .., enterReset_queueOf .., enterReset_area ..,
        txPin_inReset rfl p, fun d => enterReset_inputs d _ p, fun idle => ?_, fun x sends => ?_⟩, rfl⟩
    · exact abortedLine_idle (s := s.elapse dt) idle
    · exact abortedLine_sends (s := s.elapse dt) sends
  · rintro n rfl short
    refine ⟨_, (exec_rstnLow running _).trans (congrArg _ (resetLow_short short)), fun taken => ?_, fun missed => ?_⟩
    · rw [show Config.shortPulseTaken (s.elapse dt).draws = true from taken]
      rfl
    · rw [show Config.shortPulseTaken (s.elapse dt).draws = false from missed]
      rfl

end Sys2Proof.Machine

/-! SUPPORT. The zero DEMAND frames of a RESTART, lane by lane (R133). -/

namespace Sys2Proof.Machine

section
variable {l : Lane} {ls ks : List Lane} {a : Nat} {s t u : State}

/-! ## The zero DEMAND of one lane -/

theorem demand_foldl_onDemand (f : Channel → Demand → Demand) {chs : List Channel} (distinct : chs.Nodup) (s : State)
    (ch : Channel) : (chs.foldl (fun t c => t.onDemand c (f c)) s).demand ch =
      if ch ∈ chs then f ch (s.demand ch) else s.demand ch := by
  induction chs generalizing s with
  | nil => rfl
  | cons c chs ih =>
    obtain ⟨apart, distinct⟩ := List.nodup_cons.mp distinct
    rw [List.foldl_cons, ih distinct, State.demand_onDemand]
    by_cases here : ch = c
    · subst here
      rw [if_neg apart, if_pos rfl, if_pos List.mem_cons_self]
    · rw [if_neg here]
      exact if_congr (by simp [here]) rfl rfl

/-- The channels of a lane as its zero DEMAND leaves them. -/
def zeroSent (l : Lane) (s : State) : State :=
  (laneChannels l).foldl (fun t ch => t.onDemand ch fun d => { d with lastSent := s.zeroValue ch }) (markClamped l s)

theorem zeroSent_demand (l : Lane) (s : State) (ch : Channel) : (zeroSent l s).demand ch =
    if ch ∈ laneChannels l then
      { s.demand ch with lastSent := s.zeroValue ch, clamped := s.outsideEnvelope ch }
    else s.demand ch := by
  refine (demand_foldl_onDemand (fun ch d => { d with lastSent := s.zeroValue ch }) (laneChannels_nodup l) _ ch).trans ?_
  rw [markClamped_demand]
  by_cases own : ch ∈ laneChannels l
  · rw [if_pos own, if_pos own, if_pos own]
  · rw [if_neg own, if_neg own, if_neg own]

theorem zeroSent_laneOf (l k : Lane) (s : State) : (zeroSent l s).laneOf k = s.laneOf k :=
  (laneOf_foldl_onDemand (fun ch d => { d with lastSent := s.zeroValue ch }) ..).trans (laneOf_markClamped ..)

theorem zeroSent_eq (l : Lane) (s : State) : zeroSent l s = { s with lanes := (zeroSent l s).lanes } := by
  obtain ⟨x, sent⟩ := foldl_lastSent_eq (laneChannels l) s.zeroValue (markClamped l s)
  rw [zeroSent, sent, markClamped_eq]

theorem zeroSent_envelope (l : Lane) (s : State) : (zeroSent l s).lanes.envelope = s.lanes.envelope :=
  ((Regulated.markClamped l s).trans (Regulated.foldl_lastSent (laneChannels l) s.zeroValue _)).envelope

theorem zeroDemand_skips (skip : (s.laneOf l).state ≠ .up ∨ laneChannels l = [] ∨ s.mappedAddress l = none) :
    zeroDemand l s = s := by
  unfold zeroDemand
  split
  · rfl
  next sends =>
    obtain ⟨channels, up⟩ := not_or.mp sends
    obtain down | bare | unmapped := skip
    · exact absurd down up
    · exact absurd bare channels
    · rw [unmapped]

theorem zeroDemand_sends (up : (s.laneOf l).state = .up) (channels : laneChannels l ≠ [])
    (mapped : s.mappedAddress l = some a) :
    zeroDemand l s = enqueue (.lane l) .demand (s.demandFrame l a s.zeroValue) (zeroSent l s) := by
  unfold zeroDemand
  rw [if_neg (not_or.mpr ⟨channels, not_not.mpr up⟩), mapped]
  rfl

/-! ## What zero DEMAND frames leave -/

/-- Zero DEMAND frames of these lanes change demand records and queues of these lanes alone, and each takes one
buffer at the most. -/
structure Zeroed (ls : List Lane) (s t : State) : Prop where
  frame : t = { s with lanes := t.lanes, path := t.path }
  boxes : ∀ k, t.laneOf k = s.laneOf k
  envelope : t.lanes.envelope = s.lanes.envelope
  path : t.path = { s.path with free := t.path.free, queue := t.path.queue }
  others : ∀ p, (∀ k ∈ ls, p ≠ .lane k) → t.queueOf p = s.queueOf p
  demands : ∀ ch, channelLane ch ∉ ls → t.demand ch = s.demand ch
  set : ∀ ch, t.demand ch = { s.demand ch with
    lastSent := (t.demand ch).lastSent, clamped := (t.demand ch).clamped }
  free : s.path.free.length ≤ t.path.free.length + ls.length

theorem Zeroed.refl (ls : List Lane) (s : State) : Zeroed ls s s :=
  ⟨rfl, fun _ => rfl, rfl, rfl, fun _ _ => rfl, fun _ _ => rfl, fun _ => rfl, Nat.le_add_right ..⟩

theorem Zeroed.trans (h : Zeroed ls s t) (k : Zeroed ks t u) : Zeroed (ls ++ ks) s u where
  frame := k.frame.trans (by rw [h.frame])
  boxes x := (k.boxes x).trans (h.boxes x)
  envelope := k.envelope.trans h.envelope
  path := k.path.trans (by rw [h.path])
  others p apart := (k.others p fun x member => apart x (List.mem_append_right _ member)).trans
    (h.others p fun x member => apart x (List.mem_append_left _ member))
  demands ch apart := (k.demands ch fun member => apart (List.mem_append_right _ member)).trans
    (h.demands ch fun member => apart (List.mem_append_left _ member))
  set ch := (k.set ch).trans (by rw [h.set ch])
  free := by
    have first := h.free
    have second := k.free
    rw [List.length_append]
    omega

theorem enqueue_free_length (p : Port) (tag : Tag) (f : Frame) (s : State) :
    s.path.free.length ≤ (enqueue p tag f s).path.free.length + 1 := by
  cases free : s.path.free with
  | nil => exact Nat.zero_le _
  | cons b rest =>
    rw [enqueue_cons free]
    exact Nat.le_refl _

theorem enqueue_path (p : Port) (tag : Tag) (f : Frame) (s : State) : (enqueue p tag f s).path =
    { s.path with free := (enqueue p tag f s).path.free, queue := (enqueue p tag f s).path.queue } := by
  unfold enqueue
  split <;> rfl

theorem enqueue_demand (p : Port) (tag : Tag) (f : Frame) (s : State) (ch : Channel) :
    (enqueue p tag f s).demand ch = s.demand ch := by
  unfold State.demand
  rw [enqueue_lanes]

theorem zeroDemand_zeroed (l : Lane) (s : State) : Zeroed [l] s (zeroDemand l s) := by
  by_cases sends : (s.laneOf l).state = .up ∧ laneChannels l ≠ [] ∧ ∃ a, s.mappedAddress l = some a
  · obtain ⟨up, channels, a, mapped⟩ := sends
    rw [zeroDemand_sends up channels mapped]
    have still : (zeroSent l s).path = s.path := by rw [zeroSent_eq]
    refine ⟨?_, fun k => ?_, ?_, ?_, fun p apart => ?_, fun ch apart => ?_, fun ch => ?_, ?_⟩
    · rw [enqueue_eq, zeroSent_eq]
    · rw [State.laneOf, enqueue_lanes]
      exact zeroSent_laneOf l k s
    · rw [enqueue_lanes]
      exact zeroSent_envelope l s
    · rw [enqueue_path, still]
    · rw [enqueue_queueOf_other (apart l List.mem_cons_self), State.queueOf, still]
      rfl
    · rw [enqueue_demand, zeroSent_demand, if_neg]
      exact fun member => apart (by rw [channelLane_of_mem ch member]; exact List.mem_cons_self)
    · rw [enqueue_demand, zeroSent_demand]
      split <;> rfl
    · rw [← still]
      exact enqueue_free_length ..
  · rw [zeroDemand_skips]
    · exact .refl [l] s
    · by_contra all
      obtain ⟨up, rest⟩ := not_or.mp all
      obtain ⟨channels, mapped⟩ := not_or.mp rest
      exact sends ⟨not_not.mp up, channels, Option.ne_none_iff_exists'.mp mapped⟩

/-- The zero DEMAND frames of lanes, one after the other. -/
def zeroDemands (ls : List Lane) (s : State) : State := ls.foldl (fun t l => zeroDemand l t) s

theorem zeroDemands_zeroed (ls : List Lane) (s : State) : Zeroed ls s (zeroDemands ls s) := by
  induction ls generalizing s with
  | nil => exact .refl [] s
  | cons l ls ih => exact (zeroDemand_zeroed l s).trans (ih (zeroDemand l s))

/-! ## One lane among them -/

theorem Zeroed.mappedAddress (h : Zeroed ls s t) (l : Lane) : t.mappedAddress l = s.mappedAddress l := by
  unfold State.mappedAddress
  rw [h.path]

theorem Zeroed.zeroValue (h : Zeroed ls s t) (ch : Channel) : t.zeroValue ch = s.zeroValue ch := by
  unfold State.zeroValue State.envelopeMin State.envelopeMax
  rw [h.envelope]

theorem Zeroed.demandFrame (h : Zeroed ls s t) (l : Lane) (a : Nat) :
    t.demandFrame l a t.zeroValue = s.demandFrame l a s.zeroValue := by
  have own : t.ownByte = s.ownByte := by rw [h.frame]; rfl
  unfold State.demandFrame
  rw [own, funext h.zeroValue]

/-- The zero DEMAND of one lane among those of other lanes is made as if it were alone. -/
theorem zeroDemands_split {before after : List Lane} (first : l ∉ before) (last : l ∉ after) (s : State) :
    ∃ x, Zeroed before s x ∧ x.queueOf (.lane l) = s.queueOf (.lane l) ∧
      (∀ ch ∈ laneChannels l, x.demand ch = s.demand ch) ∧
      (zeroDemands (before ++ l :: after) s).queueOf (.lane l) = (zeroDemand l x).queueOf (.lane l) ∧
      ∀ ch ∈ laneChannels l, (zeroDemands (before ++ l :: after) s).demand ch = (zeroDemand l x).demand ch := by
  have earlier := zeroDemands_zeroed before s
  have later := zeroDemands_zeroed after (zeroDemand l (zeroDemands before s))
  have parts : zeroDemands (before ++ l :: after) s = zeroDemands after (zeroDemand l (zeroDemands before s)) :=
    List.foldl_append
  have port {ks : List Lane} (apart : l ∉ ks) : ∀ k ∈ ks, Port.lane l ≠ .lane k := fun k member same =>
    apart (by cases same; exact member)
  refine ⟨zeroDemands before s, earlier, earlier.others _ (port first), fun ch member => ?_, ?_, fun ch member => ?_⟩
  · exact earlier.demands ch (by rwa [channelLane_of_mem ch member])
  · rw [parts]
    exact later.others _ (port last)
  · rw [parts]
    exact later.demands ch (by rwa [channelLane_of_mem ch member])

theorem zeroDemands_lane_skips {before after : List Lane} (first : l ∉ before) (last : l ∉ after)
    (skip : (s.laneOf l).state ≠ .up ∨ laneChannels l = [] ∨ s.mappedAddress l = none) :
    (zeroDemands (before ++ l :: after) s).queueOf (.lane l) = s.queueOf (.lane l) ∧
      ∀ ch ∈ laneChannels l, (zeroDemands (before ++ l :: after) s).demand ch = s.demand ch := by
  obtain ⟨x, zeroed, queue, demand, queued, sent⟩ := zeroDemands_split first last s
  rw [← zeroed.boxes, ← zeroed.mappedAddress] at skip
  rw [zeroDemand_skips skip] at queued sent
  exact ⟨queued.trans queue, fun ch member => (sent ch member).trans (demand ch member)⟩

theorem zeroDemands_lane_sends {before after : List Lane} (first : l ∉ before) (last : l ∉ after)
    (room : before.length < s.path.free.length) (up : (s.laneOf l).state = .up) (channels : laneChannels l ≠ [])
    (mapped : s.mappedAddress l = some a) :
    (∃ b, (zeroDemands (before ++ l :: after) s).queueOf (.lane l) =
      s.queueOf (.lane l) ++ [⟨b, .demand, s.demandFrame l a s.zeroValue⟩]) ∧
      ∀ ch ∈ laneChannels l, (zeroDemands (before ++ l :: after) s).demand ch =
        { s.demand ch with lastSent := s.zeroValue ch, clamped := s.outsideEnvelope ch } := by
  obtain ⟨x, zeroed, queue, demand, queued, sent⟩ := zeroDemands_split first last s
  rw [← zeroed.boxes] at up
  rw [← zeroed.mappedAddress] at mapped
  rw [zeroDemand_sends up channels mapped] at queued sent
  have still : (zeroSent l x).path = x.path := by rw [zeroSent_eq]
  obtain ⟨b, rest, free⟩ : ∃ b rest, (zeroSent l x).path.free = b :: rest := by
    refine List.exists_cons_of_ne_nil fun none_ => ?_
    have left := zeroed.free
    rw [← still, none_, List.length_nil] at left
    omega
  refine ⟨⟨b, ?_⟩, fun ch member => ?_⟩
  · rw [queued, enqueue_cons free, ← queue, zeroed.demandFrame, State.queueOf, State.onPath, PerPort.get_set,
      if_pos rfl, still]
    rfl
  · have outside : x.outsideEnvelope ch = s.outsideEnvelope ch := by
      unfold State.outsideEnvelope State.envelopeMin State.envelopeMax
      rw [demand ch member, zeroed.envelope]
    rw [sent ch member, enqueue_demand, zeroSent_demand, if_pos member, demand ch member, zeroed.zeroValue, outside]

end

end Sys2Proof.Machine

/-! SUPPORT. RESTART: its refusal, and the RESTART values of every block (R8, R20, R49, R82, R100, R118, R133, R149,
R162). -/

namespace Sys2Proof.Machine

section
variable {dt : Nat} {l : Lane} {s t u : State}

/-! ## Refused or taken (R162) -/

theorem exec_restart (orders : s.takesOrders) : exec (.restart dt []) s =
    .next (if (s.afterLink dt).restartAllowed = false then replyOrder 13 .busy (s.afterLink dt)
      else zeroDemands allLanes (replyOrder 13 .ok (restartBlocks (s.afterLink dt)))) := by
  have room : (s.afterLink dt).replyCap = false :=
    (replyCap_afterLink ..).trans (decide_eq_false (not_le.mpr orders.2))
  refine (exec_running (.restart dt []) orders.1).trans (congrArg _ ?_)
  refine (if_neg fun cap => Bool.noConfusion (room.symm.trans cap)).trans ?_
  exact if_neg (by decide)

theorem restartAllowed_iff (s : State) : s.restartAllowed = true ↔
    (∀ g, (s.loopOf g).state = .stopped ∨ (s.loopOf g).state = .tripped) ∧
      (s.slurry.state = .stopped ∨ s.slurry.state = .tripped) := by
  refine decide_eq_true_iff.trans ⟨?_, ?_⟩
  · rintro ⟨one, two, slurry⟩
    refine ⟨fun g => ?_, slurry⟩
    cases g
    · exact one
    · exact two
  · rintro ⟨loops, slurry⟩
    exact ⟨loops .g1, loops .g2, slurry⟩

/-! ## The blocks at a RESTART -/

theorem restartBlocks_laneOf (l : Lane) (s : State) : (restartBlocks s).laneOf l = restartLane s l (s.laneOf l) := by
  cases l <;> rfl

theorem restartBlocks_demand (ch : Channel) (s : State) : (restartBlocks s).demand ch = restartDemand (s.demand ch) := by
  rcases ch with g | p | _
  · cases g <;> rfl
  · cases p <;> rfl
  · rfl

theorem restartBlocks_loopOf (g : Gear) (s : State) :
    (restartBlocks s).loopOf g = .powerOn (.running ((s.setting .drivePeriod).toNat * 1000) s.now) := by
  cases g <;> rfl

theorem restartBlocks_pickupOf (g : Gear) (s : State) :
    (restartBlocks s).pickupOf g = .powerOn (s.pickupOf g).a.raw (s.pickupOf g).b.raw := by
  cases g <;> rfl

theorem restartSurvey_eq (v : Survey) : restartSurvey v =
    { v with state := if v.state = .surveying then .paused else v.state, fresh := false, timer := .idle } := by
  unfold restartSurvey
  cases v.state <;> rfl

theorem restartBlocks_queueOf (p : Port) (s : State) : (restartBlocks s).queueOf p = [] := by
  rcases p with _ | l
  · rfl
  · cases l <;> rfl

theorem restartBlocks_txOf (p : Port) (s : State) : (restartBlocks s).txOf p = none := by
  rcases p with _ | l
  · rfl
  · cases l <;> rfl

/-- Every buffer is free. -/
theorem restartBlocks_free (pool : s.poolLaw) : (restartBlocks s).path.free.length = 40 :=
  (PathMove.poolLaw (.drop s.path) pool).length

theorem afterLink_poolLaw (dt : Nat) (pool : s.poolLaw) : (s.afterLink dt).poolLaw :=
  PathMoves.keeps PathMove.poolLaw
    ((Regulated.emptyArea .shaft (s.elapse dt)).trans (Regulated.orderLinkStep _)).moves pool

/-! ## The REPLY of a RESTART -/

/-- The part between the RESTART values and the zero DEMAND frames: its REPLY waits alone. -/
def restarted (s : State) : State := replyOrder 13 .ok (restartBlocks s)

theorem restarted_laneOf (l : Lane) (s : State) : (restarted s).laneOf l = restartLane s l (s.laneOf l) := by
  rw [restarted, replyOrder, reply, State.laneOf, enqueue_lanes]
  exact restartBlocks_laneOf l s

theorem restarted_demand (ch : Channel) (s : State) : (restarted s).demand ch = restartDemand (s.demand ch) :=
  (enqueue_demand ..).trans (restartBlocks_demand ch s)

theorem restarted_path (s : State) : (restarted s).path =
    { restartPath s.path with free := (restarted s).path.free, queue := (restarted s).path.queue } :=
  enqueue_path ..

theorem restarted_eq (s : State) : restarted s = { restartBlocks s with path := (restarted s).path } := enqueue_eq ..

theorem restarted_envelope (s : State) : (restarted s).lanes.envelope = s.lanes.envelope := by
  rw [restarted_eq]
  rfl

theorem restarted_lane (l : Lane) (s : State) : (restarted s).queueOf (.lane l) = [] :=
  (enqueue_queueOf_other (by simp)).trans (restartBlocks_queueOf ..)

theorem restarted_shaft (pool : s.poolLaw) : ((restarted s).queueOf .shaft).map (fun e => (e.tag, e.frame)) =
    [(.reply, mkFrame 1 s.ownByte kindReply [13, 0])] := by
  have many := restartBlocks_free pool
  obtain ⟨b, rest, free⟩ : ∃ b rest, (restartBlocks s).path.free = b :: rest :=
    List.exists_cons_of_ne_nil fun none_ => by
      rw [none_] at many
      cases many
  rw [restarted, replyOrder, reply, enqueue_cons free, State.queueOf, State.onPath, PerPort.get_set, if_pos rfl,
    show (restartBlocks s).path.queue.get .shaft = [] from restartBlocks_queueOf .shaft s]
  rfl

theorem restarted_room (pool : s.poolLaw) : 39 ≤ (restarted s).path.free.length := by
  have many := restartBlocks_free pool
  have taken : (restartBlocks s).path.free.length ≤ (restarted s).path.free.length + 1 := enqueue_free_length ..
  omega

theorem restarted_mappedAddress (l : Lane) (s : State) : (restarted s).mappedAddress l = s.mappedAddress l := by
  unfold State.mappedAddress
  rw [restarted_path]
  rfl

theorem restarted_zeroValue (ch : Channel) (s : State) :
    (restarted s).zeroValue ch = clamp (s.envelopeMin ch) (s.envelopeMax ch) 0 := by
  unfold State.zeroValue State.envelopeMin State.envelopeMax
  rw [restarted_envelope]

theorem restarted_demandFrame (l : Lane) (a : Nat) (s : State) :
    (restarted s).demandFrame l a (restarted s).zeroValue =
      mkFrame (BitVec.ofNat 8 a) s.ownByte kindDemand
        ((laneChannels l).map fun ch => wordOf (clamp (s.envelopeMin ch) (s.envelopeMax ch) 0)) := by
  have own : (restarted s).ownByte = s.ownByte := by rw [restarted_eq]; rfl
  unfold State.demandFrame
  rw [own, funext (restarted_zeroValue · s)]

theorem restarted_outsideEnvelope (ch : Channel) (s : State) :
    (restarted s).outsideEnvelope ch = decide (0 < s.envelopeMin ch ∨ s.envelopeMax ch < 0) := by
  unfold State.outsideEnvelope State.envelopeMin State.envelopeMax
  rw [restarted_envelope, restarted_demand]
  rfl

/-! ## The lanes of a restarted part -/

/-- The lanes before and after each lane in the order of the lane words. -/
theorem allLanes_split (l : Lane) : ∃ before after, allLanes = before ++ l :: after ∧ l ∉ before ∧ l ∉ after ∧
    before.length < 39 := by
  cases l with
  | drive => exact ⟨[], [.steer, .attitude, .slurry], rfl, by decide, by decide, by decide⟩
  | steer => exact ⟨[.drive], [.attitude, .slurry], rfl, by decide, by decide, by decide⟩
  | attitude => exact ⟨[.drive, .steer], [.slurry], rfl, by decide, by decide, by decide⟩
  | slurry => exact ⟨[.drive, .steer, .attitude], [], rfl, by decide, by decide, by decide⟩

/-- The part after a RESTART. -/
def restartDone (s : State) : State := zeroDemands allLanes (restarted s)

theorem restartDone_zeroed (s : State) : Zeroed allLanes (restarted s) (restartDone s) :=
  zeroDemands_zeroed allLanes (restarted s)

theorem restartDone_eq (s : State) : restartDone s =
    { restartBlocks s with lanes := (restartDone s).lanes, path := (restartDone s).path } := by
  have frame := (restartDone_zeroed s).frame
  rw [restarted_eq] at frame
  exact frame

theorem restartDone_pickupOf (g : Gear) (s : State) :
    (restartDone s).pickupOf g = .powerOn (s.pickupOf g).a.raw (s.pickupOf g).b.raw := by
  have same : (restartDone s).pickup = (restartBlocks s).pickup := by rw [restartDone_eq]
  rw [State.pickupOf, same]
  exact restartBlocks_pickupOf g s

theorem restartDone_loopOf (g : Gear) (s : State) :
    (restartDone s).loopOf g = .powerOn (.running ((s.setting .drivePeriod).toNat * 1000) s.now) := by
  have same : (restartDone s).drive = (restartBlocks s).drive := by rw [restartDone_eq]
  rw [State.loopOf, same]
  exact restartBlocks_loopOf g s

theorem restartDone_survey (s : State) : (restartDone s).survey = restartSurvey s.survey :=
  congrArg State.survey (restartDone_eq s)

theorem restartDone_line (s : State) : (restartDone s).line = s.abortedLine := congrArg State.line (restartDone_eq s)

/-- The tables, the straps and the lines of the part stand. -/
theorem restartDone_stands (s : State) : (restartDone s).selector = s.selector ∧ (restartDone s).settings = s.settings ∧
    (restartDone s).straps = s.straps ∧ (restartDone s).inputs = s.inputs := by
  rw [restartDone_eq]
  exact ⟨rfl, rfl, rfl, rfl⟩

theorem restartDone_path (s : State) : (restartDone s).path =
    { restartPath s.path with free := (restartDone s).path.free, queue := (restartDone s).path.queue } := by
  have path := (restartDone_zeroed s).path
  rw [restarted_path] at path
  exact path

theorem restartDone_pathFields (s : State) : (restartDone s).path.route = s.path.route ∧
    (restartDone s).path.arbiter = 0 ∧ (restartDone s).path.decimation = List.replicate 64 0 ∧
    (restartDone s).path.area = s.path.area := by
  rw [restartDone_path]
  exact ⟨rfl, rfl, rfl, rfl⟩

theorem restartDone_txOf (p : Port) (s : State) : (restartDone s).txOf p = none := by
  rw [State.txOf, restartDone_path]
  exact restartBlocks_txOf p s

theorem restartDone_laneOf (l : Lane) (s : State) : (restartDone s).laneOf l = restartLane s l (s.laneOf l) :=
  ((restartDone_zeroed s).boxes l).trans (restarted_laneOf l s)

theorem restartDone_shaft (pool : s.poolLaw) : ((restartDone s).queueOf .shaft).map (fun e => (e.tag, e.frame)) =
    [(.reply, mkFrame 1 s.ownByte kindReply [13, 0])] := by
  rw [(restartDone_zeroed s).others .shaft fun _ _ => nofun]
  exact restarted_shaft pool

theorem restartDone_sends {a : Nat} (pool : s.poolLaw) (up : (s.laneOf l).state = .up) (channels : laneChannels l ≠ [])
    (mapped : s.mappedAddress l = some a) :
    ((restartDone s).queueOf (.lane l)).map (fun e => (e.tag, e.frame)) =
      [(.demand, mkFrame (BitVec.ofNat 8 a) s.ownByte kindDemand
        ((laneChannels l).map fun ch => wordOf (clamp (s.envelopeMin ch) (s.envelopeMax ch) 0)))] ∧
    ∀ ch ∈ laneChannels l,
      ((restartDone s).demand ch).lastSent = clamp (s.envelopeMin ch) (s.envelopeMax ch) 0 ∧
      ((restartDone s).demand ch).clamped = decide (0 < s.envelopeMin ch ∨ s.envelopeMax ch < 0) := by
  obtain ⟨before, after, all, first, last, short⟩ := allLanes_split l
  have sent := zeroDemands_lane_sends (s := restarted s) first last (short.trans_le (restarted_room pool))
    (by rw [restarted_laneOf]; exact up) channels ((restarted_mappedAddress l s).trans mapped)
  rw [← all] at sent
  obtain ⟨⟨b, queue⟩, demands⟩ := sent
  refine ⟨?_, fun ch member => ?_⟩
  · rw [restartDone, queue, restarted_lane, restarted_demandFrame]
    rfl
  · rw [restartDone, demands ch member, restarted_outsideEnvelope, restarted_zeroValue]
    exact ⟨rfl, rfl⟩

theorem restartDone_skips (skip : (s.laneOf l).state ≠ .up ∨ laneChannels l = [] ∨ s.mappedAddress l = none) :
    (restartDone s).queueOf (.lane l) = [] ∧
      ∀ ch ∈ laneChannels l, ((restartDone s).demand ch).lastSent = (s.demand ch).lastSent ∧
        ((restartDone s).demand ch).clamped = false := by
  obtain ⟨before, after, all, first, last, -⟩ := allLanes_split l
  have kept := zeroDemands_lane_skips (s := restarted s) first last
    (by rw [restarted_laneOf, restarted_mappedAddress]; exact skip)
  rw [← all] at kept
  obtain ⟨queue, demands⟩ := kept
  refine ⟨queue.trans (restarted_lane l s), fun ch member => ?_⟩
  rw [restartDone, demands ch member, restarted_demand]
  exact ⟨rfl, rfl⟩

theorem restartDone_set (ch : Channel) (s : State) : ((restartDone s).demand ch).requested = 0 ∧
    ((restartDone s).demand ch).owner = .loop ∧ ((restartDone s).demand ch).deadman = .idle := by
  rw [(restartDone_zeroed s).set ch, restarted_demand]
  exact ⟨rfl, rfl, rfl⟩

end

/-- Settles O59. -/
theorem restartOrder : Obligations.RestartOrder := by
  unfold Obligations.RestartOrder
  rintro dt s u orders pool rfl
  refine ⟨fun works => ?_, fun loops slurry => ?_⟩
  · have refused : (s.afterLink dt).restartAllowed = false := Bool.eq_false_iff.mpr fun allowed => by
      obtain ⟨loops, slurry⟩ := (restartAllowed_iff _).mp allowed
      obtain ⟨g, stopped, tripped⟩ | ⟨stopped, tripped⟩ := works
      · exact (loops g).elim stopped tripped
      · exact slurry.elim stopped tripped
    rw [exec_restart orders, if_pos refused]
  · have allowed := (restartAllowed_iff (s.afterLink dt)).mpr ⟨loops, slurry⟩
    have pool := afterLink_poolLaw dt pool
    have executed : exec (.restart dt []) s = .next (restartDone (s.afterLink dt)) :=
      (exec_restart orders).trans (congrArg _ (if_neg fun refused => Bool.noConfusion (allowed.symm.trans refused)))
    generalize s.afterLink dt = u at pool executed
    have blocks := restartDone_eq u
    obtain ⟨selector, settings, straps, inputs⟩ := restartDone_stands u
    obtain ⟨route, arbiter, decimation, area⟩ := restartDone_pathFields u
    refine ⟨restartDone u, executed, congrArg State.orders blocks, congrArg (fun t => t.drive.base) blocks,
      fun g => restartDone_loopOf g u, fun g => restartDone_pickupOf g u, congrArg State.steering blocks,
      congrArg State.slurry blocks, (restartDone_survey u).trans (restartSurvey_eq u.survey),
      selector, settings, straps, route, (restartDone_zeroed u).envelope.trans (restarted_envelope u),
      arbiter, decimation, area, inputs,
      fun p => ⟨restartDone_txOf p u, txPin_idle (restartDone_txOf p u), ?_⟩, restartDone_shaft pool, fun l => ?_,
      fun l => ⟨fun a up channels mapped => restartDone_sends pool up channels mapped, restartDone_skips,
        fun ch _ => restartDone_set ch u⟩⟩
    · rw [restartDone_line]
      exact ⟨abortedLine_idle, fun x => abortedLine_sends⟩
    · rw [restartDone_laneOf]
      exact ⟨rfl, rfl, rfl, rfl, rfl, rfl, rfl, rfl⟩

end Sys2Proof.Machine

/-! SUPPORT. Frames as characters: what a receive area stores, and the frame that it holds (R134, R168). -/

namespace Sys2Proof.Machine

section
variable {rx : Reception} {f : Frame} {area : ReceiveArea}

/-! ## Words and characters, two by two -/

theorem wordBytes_of_bytes (hi lo : Byte) : wordBytes (hi ++ lo) = [hi, lo] := by
  have high : (hi ++ lo).extractLsb' 8 8 = hi := BitVec.extractLsb'_append_eq_left
  have low : (hi ++ lo).extractLsb' 0 8 = lo := BitVec.extractLsb'_append_eq_right
  rw [wordBytes, high, low]

/-- An even number of characters are those of their words. -/
theorem flatMap_bytesWords (n : Nat) {bytes : List Byte} (even : bytes.length = 2 * n) :
    (bytesWords bytes).flatMap wordBytes = bytes ∧ (bytesWords bytes).length = n := by
  induction n generalizing bytes with
  | zero =>
    obtain rfl := List.eq_nil_of_length_eq_zero even
    exact ⟨rfl, rfl⟩
  | succ n ih =>
    match bytes, even with
    | hi :: lo :: rest, even =>
      obtain ⟨same, length⟩ := ih (bytes := rest) (by simp only [List.length_cons] at even; omega)
      refine ⟨?_, congrArg (· + 1) length⟩
      rw [bytesWords, List.flatMap_cons, same, wordBytes_of_bytes]
      rfl
    | [_], even => simp at even; omega
    | [], even => simp at even

/-! ## The frame that a receive area holds (R134) -/

/-- What makes a frame good besides its characters: its check is that of its contents, and its header and length
are in range. -/
structure IsGood (f : Frame) : Prop where
  check : f.check = (mkFrame f.dest f.src f.kind f.items).check
  dest : f.dest.toNat ≤ 63
  src : f.src.toNat ≤ 63
  first : 1 ≤ f.kind.toNat
  last : f.kind.toNat ≤ 8
  items : f.items.length ≤ 24

theorem mkFrame_check (dest src kind : Byte) (items : List Word) :
    (mkFrame dest src kind items).check = crc (headerAndItems dest src kind items) := by simp only [mkFrame]

/-- The LEN character gives the number of items back. -/
theorem lenChar_toNat {n : Nat} (few : n ≤ 24) : (BitVec.ofNat 8 n).toNat = n := by
  rw [BitVec.toNat_ofNat]
  omega

/-- The frame of an area whose characters have a header, a payload and a check that are in range. -/
theorem goodFrame_whole {dest src kind len : Byte} {payload rest : List Byte} {check : Word} {count : Nat}
    (paid : payload.length = 2 * len.toNat) (counted : count = 6 + 2 * len.toNat)
    (word : bytesWords rest = [check]) (checked : check = crc ([dest, src, kind, len] ++ payload))
    (destLow : dest.toNat ≤ 63) (srcLow : src.toNat ≤ 63) (known : kindKnown kind = true) (few : len.toNat ≤ 24) :
    goodFrame ⟨dest :: src :: kind :: len :: (payload ++ rest), count, false⟩ =
      some ⟨dest, src, kind, bytesWords payload, check⟩ := by
  have taken : (payload ++ rest).take (2 * len.toNat) = payload := by rw [← paid, List.take_left]
  have left : (payload ++ rest).drop (2 * len.toNat) = rest := by rw [← paid, List.drop_left]
  unfold goodFrame
  simp only [taken, left]
  rw [← checked, if_pos ⟨trivial, counted, word, destLow, srcLow, known, few⟩]

theorem goodFrame_frameChars (good : IsGood f) :
    goodFrame ⟨frameChars f, (frameChars f).length, false⟩ = some f := by
  obtain ⟨dest, src, kind, items, check⟩ := f
  obtain ⟨checked, destLow, srcLow, first, last, few⟩ := good
  rw [mkFrame_check] at checked
  simp only [headerAndItems] at checked destLow srcLow first last few
  have len := lenChar_toNat few
  have word : bytesWords (wordBytes check) = [check] := by
    have single := bytesWords_flatMap [check]
    rwa [List.flatMap_singleton] at single
  have chars : frameChars ⟨dest, src, kind, items, check⟩ =
      dest :: src :: kind :: BitVec.ofNat 8 items.length :: (items.flatMap wordBytes ++ wordBytes check) := by
    simp only [frameChars, headerAndItems, List.cons_append, List.nil_append]
  rw [frameChars_length, chars, goodFrame_whole (check := check) ((flatMap_wordBytes_length items).trans (by rw [len]))
    (by rw [len]) word checked destLow srcLow (decide_eq_true ⟨first, last⟩) (len.trans_le few), bytesWords_flatMap]

/-- What a held frame says of the characters that are stored. -/
theorem goodFrame_some (held : goodFrame area = some f) : ∃ dest src kind len body,
    area.stored = dest :: src :: kind :: len :: body ∧
    (area.stopLow = false ∧ area.received = 6 + 2 * len.toNat ∧
      bytesWords (body.drop (2 * len.toNat)) = [crc ([dest, src, kind, len] ++ body.take (2 * len.toNat))] ∧
      dest.toNat ≤ 63 ∧ src.toNat ≤ 63 ∧ kindKnown kind = true ∧ len.toNat ≤ 24) ∧
    f = ⟨dest, src, kind, bytesWords (body.take (2 * len.toNat)),
      crc ([dest, src, kind, len] ++ body.take (2 * len.toNat))⟩ := by
  obtain ⟨stored, count, low⟩ := area
  match stored, held with
  | dest :: src :: kind :: len :: body, held =>
    refine ⟨dest, src, kind, len, body, rfl, ?_⟩
    rw [goodFrame] at held
    simp only [Option.ite_none_right_eq_some, Option.some.injEq] at held
    exact ⟨held.1, held.2.symm⟩
  | [], held => cases held
  | [_], held => cases held
  | [_, _], held => cases held
  | [_, _, _], held => cases held

/-- R134: an area holds a frame exactly when no stop bit was low, the characters are those of the frame, and the
frame is good. -/
theorem goodFrame_received : goodFrame (received rx) = some f ↔
    rx.stopLow = false ∧ rx.chars = frameChars f ∧ IsGood f := by
  rw [received_eq]
  constructor
  · intro held
    obtain ⟨dest, src, kind, len, body, stored, ⟨low, count, check, destLow, srcLow, known, few⟩, rfl⟩ :=
      goodFrame_some held
    have count : rx.chars.length = 6 + 2 * len.toNat := count
    have chars : rx.chars = dest :: src :: kind :: len :: body :=
      (List.take_of_length_le (by rw [receiveLimit]; omega)).symm.trans stored
    have total : body.length = 2 * len.toNat + 2 := by
      rw [chars] at count
      simp only [List.length_cons] at count
      omega
    obtain ⟨payload, items⟩ := flatMap_bytesWords len.toNat (bytes := body.take (2 * len.toNat))
      (by rw [List.length_take]; omega)
    obtain ⟨word, -⟩ := flatMap_bytesWords 1 (bytes := body.drop (2 * len.toNat)) (by rw [List.length_drop]; omega)
    have lenChar : BitVec.ofNat 8 len.toNat = len := by rw [BitVec.ofNat_toNat, BitVec.setWidth_eq]
    have known := of_decide_eq_true known
    refine ⟨low, ?_, ⟨?_, destLow, srcLow, known.1, known.2, items.trans_le few⟩⟩
    · rw [chars, frameChars, headerAndItems, items, payload, lenChar, List.append_assoc]
      rw [check, List.flatMap_singleton] at word
      rw [word, List.take_append_drop]
      rfl
    · rw [mkFrame_check, headerAndItems, items, payload, lenChar]
  · rintro ⟨low, chars, good⟩
    have whole : (frameChars f).take receiveLimit = frameChars f :=
      List.take_of_length_le (by
        have few := good.items
        rw [frameChars_length, receiveLimit]
        omega)
    rw [low, chars, whole]
    exact goodFrame_frameChars good

end

end Sys2Proof.Machine

/-! SUPPORT. A receiver on a line, bit time by bit time: the start bit, the data bits, the stop bit, and the idle
line that ends a frame (R134, R172). -/

namespace Sys2Proof.Machine

section
variable {bit n since : Nat} {level : Bool} {bits : List Bool} {r : Receiver} {x : LineInput}

/-! ## One tick -/

theorem tick_char {c : CharProgress} (comes : r.char = some c) :
    r.tick bit level = (r.charTick bit level c.ticks c.bits, none) := by
  unfold Receiver.tick
  rw [comes]

/-- A tick of a character at which nothing is sampled. -/
theorem charTick_waits (held : level = false ∨ bit / 2 ≤ since)
    (apart : since ≠ (bits.length + 1) * bit + bit / 2) :
    r.charTick bit level since bits = { r with char := some ⟨since + 1, bits⟩ } := by
  have taken : ¬(since < bit / 2 ∧ level = true) := by
    rintro ⟨early, high⟩
    obtain low | late := held
    · rw [low] at high
      cases high
    · omega
  rw [Receiver.charTick, if_neg taken, if_pos apart]

/-- A data bit is sampled at its middle. -/
theorem charTick_samples (few : bits.length < 8) :
    r.charTick bit level ((bits.length + 1) * bit + bit / 2) bits =
      { r with char := some ⟨(bits.length + 1) * bit + bit / 2 + 1, bits ++ [level]⟩ } := by
  have taken : ¬((bits.length + 1) * bit + bit / 2 < bit / 2 ∧ level = true) := by omega
  rw [Receiver.charTick, if_neg taken, if_neg (not_not.mpr rfl), if_pos few]

/-- The stop bit is sampled at its middle, and the character is there. -/
theorem charTick_stops (full : bits.length = 8) :
    r.charTick bit level (9 * bit + bit / 2) bits =
      { char := none, low := !level, left := afterMiddle bit + idleTicks bit
        got := ⟨r.got.chars ++ [bitsByte bits], r.got.stopLow || !level⟩ } := by
  have taken : ¬(9 * bit + bit / 2 < bit / 2 ∧ level = true) := by omega
  have middle : ¬(9 * bit + bit / 2 ≠ (bits.length + 1) * bit + bit / 2) := by rw [full]; exact not_not.mpr rfl
  rw [Receiver.charTick, if_neg taken, if_neg middle, if_neg (by omega)]

theorem tick_idle_counts (free : r.char = none) (got : r.got.chars ≠ []) (long : 1 < r.left) :
    r.tick bit true = ({ r with low := false, left := r.left - 1 }, none) := by
  unfold Receiver.tick Receiver.idleTick
  rw [free]
  simp only
  rw [if_neg got, if_pos long]

theorem tick_idle_ends (free : r.char = none) (got : r.got.chars ≠ []) (last : r.left ≤ 1) :
    r.tick bit true = (.idle, some r.got) := by
  unfold Receiver.tick Receiver.idleTick
  rw [free]
  simp only
  rw [if_neg got, if_neg (not_lt.mpr last)]

theorem tick_starts (free : r.char = none) (high : r.low = false) :
    r.tick bit false = ({ r with char := some ⟨1, []⟩ }, none) := by
  unfold Receiver.tick
  rw [free, high]

theorem tick_stays_low (free : r.char = none) (low : r.low = true) :
    r.tick bit false = ({ r with left := idleTicks bit }, none) := by
  unfold Receiver.tick
  rw [free, low]

/-! ## A level that lasts -/

theorem hear_cons_none {levels : List Bool} {next : Receiver} (tick : x.receiver.tick bit level = (next, none)) :
    x.hear bit (level :: levels) = { x with receiver := next }.hear bit levels := by
  rw [LineInput.hear]
  simp only [tick, Option.toList_none, List.append_nil]

/-- Until the next middle a character only gets older. -/
theorem hear_waits (n : Nat) (comes : x.receiver.char = some ⟨since, bits⟩) (held : level = false ∨ bit / 2 ≤ since)
    (apart : ∀ j < n, since + j ≠ (bits.length + 1) * bit + bit / 2) :
    x.hear bit (List.replicate n level) =
      { x with receiver := { x.receiver with char := some ⟨since + n, bits⟩ } } := by
  induction n generalizing x since with
  | zero =>
    obtain ⟨incoming, ⟨char, low, got, left⟩, arrived⟩ := x
    obtain rfl : char = some ⟨since, bits⟩ := comes
    rfl
  | succ n ih =>
    have waits : x.receiver.tick bit level = ({ x.receiver with char := some ⟨since + 1, bits⟩ }, none) :=
      (tick_char comes).trans (congrArg (·, none) (charTick_waits held (apart 0 n.succ_pos)))
    rw [List.replicate_succ, hear_cons_none waits,
      ih (since := since + 1) rfl (held.imp_right fun late => late.trans since.le_succ) fun j small => ?_]
    · rw [Nat.add_assoc, Nat.add_comm 1 n]
    · have clear := apart (j + 1) (by omega)
      omega

/-- The middle of a bit time, between what is before it and what is after it. -/
theorem replicate_bit (positive : 0 < bit) (level : Bool) : List.replicate bit level =
    List.replicate (bit / 2) level ++ level :: List.replicate (afterMiddle bit) level := by
  rw [← List.replicate_succ, List.replicate_append_replicate]
  congr 1
  unfold afterMiddle
  omega

/-- A low line of at most a bit time, on a receiver that waits for a character. -/
theorem hear_start (free : x.receiver.char = none) (high : x.receiver.low = false) (some_ : 0 < n) (most : n ≤ bit) :
    x.hear bit (List.replicate n false) = { x with receiver := { x.receiver with char := some ⟨n, []⟩ } } := by
  obtain ⟨m, rfl⟩ : ∃ m, n = m + 1 := ⟨n - 1, by omega⟩
  rw [List.replicate_succ, hear_cons_none (tick_starts free high), hear_waits m rfl (.inl rfl) fun j small => ?_]
  · rw [Nat.add_comm 1 m]
  · rw [List.length_nil, Nat.zero_add, Nat.one_mul]
    omega

/-- A data bit. -/
theorem hear_dataBit (positive : 0 < bit) (comes : x.receiver.char = some ⟨(bits.length + 1) * bit, bits⟩)
    (few : bits.length < 8) : x.hear bit (List.replicate bit level) =
      { x with receiver := { x.receiver with
        char := some ⟨((bits ++ [level]).length + 1) * bit, bits ++ [level]⟩ } } := by
  have late : bit / 2 ≤ (bits.length + 1) * bit :=
    (Nat.div_le_self bit 2).trans (Nat.le_mul_of_pos_left bit bits.length.succ_pos)
  have next : (bits.length + 1 + 1) * bit = (bits.length + 1) * bit + bit := Nat.succ_mul ..
  rw [replicate_bit positive, LineInput.hear_append, hear_waits (bit / 2) comes (.inr late) fun j small => by omega]
  rw [hear_cons_none ((tick_char rfl).trans (congrArg (·, none) (charTick_samples few)))]
  rw [hear_waits (afterMiddle bit) rfl (.inr (by omega)) fun j small => ?_]
  · simp only [List.length_append, List.length_singleton]
    congr 4
    unfold afterMiddle
    omega
  · rw [List.length_append, List.length_singleton]
    unfold afterMiddle at small
    omega

/-- The data bits of a character. -/
theorem hear_data (positive : 0 < bit) (data : List Bool)
    (comes : x.receiver.char = some ⟨(bits.length + 1) * bit, bits⟩) (few : bits.length + data.length ≤ 8) :
    x.hear bit (ticksOf bit data) = { x with receiver := { x.receiver with
      char := some ⟨((bits ++ data).length + 1) * bit, bits ++ data⟩ } } := by
  induction data generalizing x bits with
  | nil =>
    obtain ⟨incoming, ⟨char, low, got, left⟩, arrived⟩ := x
    obtain rfl : char = _ := comes
    rw [List.append_nil]
    rfl
  | cons level data ih =>
    have few : bits.length + (data.length + 1) ≤ 8 := few
    have first : ticksOf bit (level :: data) = List.replicate bit level ++ ticksOf bit data := List.flatMap_cons
    rw [first, LineInput.hear_append, hear_dataBit positive comes (by omega),
      ih (bits := bits ++ [level]) rfl (by rw [List.length_append, List.length_singleton]; omega)]
    simp only [List.append_assoc, List.singleton_append]

/-- Of an idle line a receiver that holds characters counts the ticks. -/
theorem hear_counts (n : Nat) (got : r.got.chars ≠ []) (short : n < r.left) (incoming : List Bool)
    (arrived : List Reception) :
    LineInput.hear bit (List.replicate n true) ⟨incoming, { r with char := none, low := false }, arrived⟩ =
      ⟨incoming, { r with char := none, low := false, left := r.left - n }, arrived⟩ := by
  induction n generalizing r with
  | zero => rfl
  | succ n ih =>
    rw [List.replicate_succ,
      hear_cons_none (tick_idle_counts (r := { r with char := none, low := false }) rfl got (by show 1 < r.left; omega))]
    refine (ih (r := { r with left := r.left - 1 }) got ?_).trans ?_
    · show n < r.left - 1
      omega
    · rw [Nat.sub_sub, Nat.add_comm 1 n]

/-- A line that stays low after a stop bit that was low. -/
theorem hear_stays_low (n : Nat) (incoming : List Bool) (arrived : List Reception) :
    LineInput.hear bit (List.replicate (n + 1) false) ⟨incoming, { r with char := none, low := true }, arrived⟩ =
      ⟨incoming, { r with char := none, low := true, left := idleTicks bit }, arrived⟩ := by
  induction n generalizing r with
  | zero => exact hear_cons_none (tick_stays_low rfl rfl)
  | succ n ih =>
    rw [List.replicate_succ, hear_cons_none (tick_stays_low rfl rfl)]
    exact ih (r := { r with left := idleTicks bit })

/-- The stop bit. -/
theorem hear_stopBit (positive : 0 < bit) (stop : Bool) (comes : x.receiver.char = some ⟨9 * bit, bits⟩)
    (full : bits.length = 8) : x.hear bit (List.replicate bit stop) =
      { x with receiver := ⟨none, !stop, ⟨x.receiver.got.chars ++ [bitsByte bits], x.receiver.got.stopLow || !stop⟩,
        30 * bit⟩ } := by
  have late : bit / 2 ≤ 9 * bit := by omega
  have waits := hear_waits (level := stop) (bit / 2) comes (.inr late) fun j small => by
    rw [full]
    omega
  rw [replicate_bit positive, LineInput.hear_append, waits,
    hear_cons_none ((tick_char rfl).trans (congrArg (·, none) (charTick_stops full)))]
  cases stop with
  | true =>
    refine (hear_counts (r := ⟨none, false, _, afterMiddle bit + idleTicks bit⟩) (afterMiddle bit)
      (List.append_ne_nil_of_right_ne_nil _ (List.cons_ne_nil _ _)) ?_ ..).trans ?_
    · show afterMiddle bit < afterMiddle bit + 30 * bit
      omega
    · simp only [Nat.add_sub_cancel_left, idleTicks]
      rfl
  | false =>
    cases rest : afterMiddle bit with
    | zero =>
      rw [Nat.zero_add]
      rfl
    | succ m => exact hear_stays_low (r := ⟨none, true, _, _⟩) m ..

/-! ## Characters -/

/-- The data bits of a character, least significant first. -/
def dataBits (c : Byte) : List Bool :=
  [c.getLsbD 0, c.getLsbD 1, c.getLsbD 2, c.getLsbD 3, c.getLsbD 4, c.getLsbD 5, c.getLsbD 6, c.getLsbD 7]

theorem bitsByte_dataBits (c : Byte) : bitsByte (dataBits c) = c := by
  revert c
  decide

/-- A character on the line: a start bit, its data bits and a stop bit. -/
theorem ticksOf_charBits (bit : Nat) (c : Byte) (stop : Bool) : ticksOf bit ((charBits c).set 9 stop) =
    List.replicate bit false ++ (ticksOf bit (dataBits c) ++ List.replicate bit stop) := by
  simp [charBits, ticksOf, dataBits]

/-- A character with a stop bit of this level, on a receiver that waits for one (R172). -/
theorem hear_char (positive : 0 < bit) (c : Byte) (stop : Bool) (free : x.receiver.char = none)
    (high : x.receiver.low = false) : x.hear bit (ticksOf bit ((charBits c).set 9 stop)) =
      { x with receiver :=
        ⟨none, !stop, ⟨x.receiver.got.chars ++ [c], x.receiver.got.stopLow || !stop⟩, 30 * bit⟩ } := by
  rw [ticksOf_charBits, LineInput.hear_append, hear_start free high positive (Nat.le_refl bit), LineInput.hear_append,
    hear_data (bits := []) positive (dataBits c) (by rw [List.length_nil, Nat.zero_add, Nat.one_mul])
      (Nat.le_refl 8), hear_stopBit positive stop rfl rfl, List.nil_append, bitsByte_dataBits]

/-- Characters, one after the other. -/
theorem hear_chars (positive : 0 < bit) (c : Byte) (cs : List Byte) (free : x.receiver.char = none)
    (high : x.receiver.low = false) : x.hear bit (ticksOf bit ((c :: cs).flatMap charBits)) =
      { x with receiver :=
        ⟨none, false, ⟨x.receiver.got.chars ++ c :: cs, x.receiver.got.stopLow⟩, 30 * bit⟩ } := by
  have first (c : Byte) (x : LineInput) (free : x.receiver.char = none) (high : x.receiver.low = false) :
      x.hear bit (ticksOf bit (charBits c)) = { x with receiver :=
        ⟨none, false, ⟨x.receiver.got.chars ++ [c], x.receiver.got.stopLow⟩, 30 * bit⟩ } := by
    refine (hear_char positive c true free high).trans ?_
    rw [Bool.not_true, Bool.or_false]
  have parts (c : Byte) (cs : List Byte) : ticksOf bit ((c :: cs).flatMap charBits) =
      ticksOf bit (charBits c) ++ ticksOf bit (cs.flatMap charBits) := by
    rw [List.flatMap_cons, ticksOf, List.flatMap_append]
    rfl
  induction cs generalizing c x with
  | nil =>
    rw [parts, LineInput.hear_append, first c x free high]
    rfl
  | cons d ds ih =>
    rw [parts, LineInput.hear_append, first c x free high, ih d rfl rfl, List.append_assoc, List.singleton_append]

/-- The idle line after the last character ends the frame (R134). -/
theorem hear_end (positive : 0 < bit) {got : Reception} (some_ : got.chars ≠ []) (incoming : List Bool)
    (arrived : List Reception) :
    LineInput.hear bit (List.replicate (30 * bit) true) ⟨incoming, ⟨none, false, got, 30 * bit⟩, arrived⟩ =
      ⟨incoming, .idle, arrived ++ [got]⟩ := by
  obtain ⟨m, long⟩ : ∃ m, 30 * bit = m + 1 := ⟨30 * bit - 1, by omega⟩
  have counts := hear_counts (bit := bit) (r := ⟨none, false, got, m + 1⟩) m some_ m.lt_succ_self incoming arrived
  rw [long, List.replicate_succ', LineInput.hear_append]
  refine (congrArg (LineInput.hear bit [true]) counts).trans ?_
  have ends : Receiver.tick bit true ⟨none, false, got, m + 1 - m⟩ = (.idle, some got) :=
    tick_idle_ends rfl some_ (by show m + 1 - m ≤ 1; omega)
  rw [LineInput.hear]
  simp only [ends]
  rfl

/-! ## Frames -/

theorem frameChars_ne_nil (f : Frame) : frameChars f ≠ [] := List.ne_nil_of_length_pos (by
  rw [frameChars_length]
  omega)

/-- A frame on a line, up to its last stop bit. -/
theorem hear_frame (positive : 0 < bit) (f : Frame) (idle : Nat) (rests : x.receiver = .idle) :
    x.hear bit (List.replicate idle true ++ ticksOf bit (frameBits f)) =
      { x with receiver := ⟨none, false, ⟨frameChars f, false⟩, 30 * bit⟩ } := by
  obtain ⟨c, cs, chars⟩ := List.exists_cons_of_ne_nil (frameChars_ne_nil f)
  rw [LineInput.hear_append, LineInput.hear_idle bit idle rests, frameBits, chars,
    hear_chars positive c cs (by rw [rests]; rfl) (by rw [rests]; rfl), rests]
  rfl

/-- A short low pulse is no character: the receiver waits again. -/
theorem hear_pulse (some_ : 0 < n) (short : n < bit / 2) (free : x.receiver.char = none)
    (high : x.receiver.low = false) : x.hear bit (List.replicate n false ++ [true]) =
      { x with receiver := { x.receiver with char := none, low := false, left := 30 * bit } } := by
  have dropped : Receiver.charTick bit true n [] { x.receiver with char := some ⟨n, []⟩ } =
      { x.receiver with char := none, low := false, left := 30 * bit } := if_pos ⟨short, rfl⟩
  rw [LineInput.hear_append, hear_start free high some_ (by omega),
    hear_cons_none ((tick_char rfl).trans (congrArg (·, none) dropped))]
  rfl

/-- What has come on a line stays. -/
theorem arrived_prefix_hear (bit : Nat) (levels : List Bool) (x : LineInput) :
    x.arrived <+: (x.hear bit levels).arrived := by
  induction levels generalizing x with
  | nil => exact List.prefix_refl _
  | cons level levels ih =>
    rw [LineInput.hear]
    exact (List.prefix_append x.arrived (x.receiver.tick bit level).2.toList).trans
      (ih { x with receiver := (x.receiver.tick bit level).1
                   arrived := x.arrived ++ (x.receiver.tick bit level).2.toList })

end

end Sys2Proof.Machine

/-! SUPPORT. A frame on the line into a port, as time passes (R134, R145, R172). -/

namespace Sys2Proof.Machine

section
variable {bit ticks : Nat} {f : Frame} {s : State} {p : Port}

theorem ticksOf_length (bit : Nat) (levels : List Bool) : (ticksOf bit levels).length = levels.length * bit := by
  induction levels with
  | nil => exact (Nat.zero_mul bit).symm
  | cons level levels ih =>
    have first : ticksOf bit (level :: levels) = List.replicate bit level ++ ticksOf bit levels := List.flatMap_cons
    rw [first, List.length_append, List.length_replicate, ih, List.length_cons, Nat.succ_mul, Nat.add_comm]

theorem frameBits_length (f : Frame) : (frameBits f).length = (6 + 2 * f.items.length) * 10 := by
  rw [← frameChars_length, frameBits]
  induction frameChars f with
  | nil => rfl
  | cons c cs ih =>
    rw [List.flatMap_cons, List.length_append, ih, List.length_cons, Nat.succ_mul, Nat.add_comm]
    rfl

theorem bitTicks_pos (s : State) (p : Port) : 0 < s.bitTicks p := by
  unfold State.bitTicks microTicks State.charMicros
  split
  · split <;> decide
  · decide

/-- What comes of known levels, and of the idle line after them. -/
theorem pass_eq (incoming : List Bool) (r : Receiver) (arrived : List Reception) :
    LineInput.pass bit ticks ⟨incoming, r, arrived⟩ =
      LineInput.hear bit
        (List.replicate (min (ticks - incoming.length)
          ((LineInput.hear bit (incoming.take ticks) ⟨incoming.drop ticks, r, arrived⟩).receiver.restTicks bit)) true)
        (LineInput.hear bit (incoming.take ticks) ⟨incoming.drop ticks, r, arrived⟩) := rfl

/-- Three idle character times after its last character a frame has come. -/
theorem pass_frame_done (positive : 0 < bit) (f : Frame)
    (late : (6 + 2 * f.items.length) * 10 * bit + 30 * bit ≤ ticks) :
    LineInput.pass bit ticks ⟨ticksOf bit (frameBits f), .idle, []⟩ = ⟨[], .idle, [⟨frameChars f, false⟩]⟩ := by
  have length : (ticksOf bit (frameBits f)).length = (6 + 2 * f.items.length) * 10 * bit := by
    rw [ticksOf_length, frameBits_length]
  have whole : (ticksOf bit (frameBits f)).take ticks = ticksOf bit (frameBits f) :=
    List.take_of_length_le (by omega)
  have none_left : (ticksOf bit (frameBits f)).drop ticks = [] := List.drop_eq_nil_of_le (by omega)
  have heard : LineInput.hear bit (ticksOf bit (frameBits f)) ⟨[], .idle, []⟩ =
      ⟨[], ⟨none, false, ⟨frameChars f, false⟩, 30 * bit⟩, []⟩ :=
    hear_frame positive f 0 rfl
  have busy : Receiver.restTicks bit ⟨none, false, ⟨frameChars f, false⟩, 30 * bit⟩ = 41 * bit :=
    if_neg fun idle => frameChars_ne_nil f (congrArg (fun r => r.got.chars) idle)
  obtain ⟨more, rest⟩ : ∃ more, min (ticks - (ticksOf bit (frameBits f)).length) (41 * bit) = 30 * bit + more :=
    Nat.exists_eq_add_of_le (by omega)
  have ended := hear_end positive (got := ⟨frameChars f, false⟩) (frameChars_ne_nil f) [] []
  rw [pass_eq, whole, none_left, heard, busy, rest, ← List.replicate_append_replicate,
    LineInput.hear_append, ended, LineInput.hear_idle bit more rfl]
  rfl

/-- Until then nothing has come. -/
theorem pass_frame_comes (positive : 0 < bit) (f : Frame)
    (early : ticks < (6 + 2 * f.items.length) * 10 * bit + 30 * bit) :
    (LineInput.pass bit ticks ⟨ticksOf bit (frameBits f), .idle, []⟩).arrived = [] := by
  have length : (ticksOf bit (frameBits f)).length = (6 + 2 * f.items.length) * 10 * bit := by
    rw [ticksOf_length, frameBits_length]
  have heard (incoming : List Bool) : LineInput.hear bit (ticksOf bit (frameBits f)) ⟨incoming, .idle, []⟩ =
      ⟨incoming, ⟨none, false, ⟨frameChars f, false⟩, 30 * bit⟩, []⟩ :=
    hear_frame positive f 0 rfl
  rw [pass_eq]
  by_cases sent : (6 + 2 * f.items.length) * 10 * bit ≤ ticks
  · have whole : (ticksOf bit (frameBits f)).take ticks = ticksOf bit (frameBits f) :=
      List.take_of_length_le (by omega)
    rw [whole, heard]
    exact congrArg LineInput.arrived (hear_counts (r := ⟨none, false, ⟨frameChars f, false⟩, 30 * bit⟩) _
      (frameChars_ne_nil f) ((Nat.min_le_left ..).trans_lt (by show _ < 30 * bit; omega)) ..)
  · have past : ticks - (ticksOf bit (frameBits f)).length = 0 := by omega
    have total := congrArg LineInput.arrived (heard ((ticksOf bit (frameBits f)).drop ticks))
    rw [← List.take_append_drop ticks (ticksOf bit (frameBits f)), LineInput.hear_append,
      List.take_append_drop] at total
    have part := arrived_prefix_hear bit ((ticksOf bit (frameBits f)).drop ticks)
      (LineInput.hear bit ((ticksOf bit (frameBits f)).take ticks) ⟨(ticksOf bit (frameBits f)).drop ticks, .idle, []⟩)
    rw [total] at part
    rw [past, Nat.zero_min]
    exact List.prefix_nil.mp part

end

/-- Settles O4. -/
theorem goodFrameIffCharacters : Obligations.GoodFrameIffCharacters := by
  unfold Obligations.GoodFrameIffCharacters
  refine ⟨fun rx f => ?_, received_eq, fun area rx small => ⟨?_, ?_⟩, fun c => rfl, ?_, ?_, ?_, ?_⟩
  · refine goodFrame_received.trans (and_congr_right fun _ => and_congr_right fun _ => ⟨?_, ?_⟩)
    · rintro ⟨check, dest, src, first, last, items⟩
      exact ⟨check, dest, src, first, last, items⟩
    · rintro ⟨check, dest, src, first, last, items⟩
      exact ⟨check, dest, src, first, last, items⟩
  · exact ReceiveArea.foldl_take_stored rx.chars area small
  · exact ReceiveArea.foldl_take_received rx.chars area
  · intro f bit idle x positive rests
    refine ⟨?_, fun n short => ?_⟩
    · rw [LineInput.hear_append, hear_frame positive f idle rests]
      refine (hear_end positive (frameChars_ne_nil f) x.incoming x.arrived).trans ?_
      rw [← rests]
    · rw [LineInput.hear_append, hear_frame positive f idle rests]
      exact (congrArg LineInput.arrived (hear_counts (r := ⟨none, false, ⟨frameChars f, false⟩, 30 * bit⟩) n
        (frameChars_ne_nil f) short x.incoming x.arrived)).trans rfl
  · exact fun bit n x some_ short free high => ⟨_, hear_pulse some_ short free high, rfl, rfl, rfl⟩
  · exact fun bit c stop x positive free high => ⟨_, hear_char positive c stop free high, rfl, rfl, rfl⟩
  · intro s p f dt running comes
    have line : (s.elapse dt).inputs.get p =
        LineInput.pass (s.bitTicks p) (dt * 16) ⟨ticksOf (s.bitTicks p) (frameBits f), .idle, []⟩ := by
      rw [← comes]
      exact State.passInputs_live running dt p
    have rate := bitTicks_charMicros s p
    have total : ((6 + 2 * f.items.length) * 10 * s.bitTicks p + 30 * s.bitTicks p) =
        (9 + 2 * f.items.length) * s.charMicros p * 16 := by
      rw [Nat.mul_assoc _ (s.charMicros p), ← rate]
      ring
    rw [line]
    refine ⟨fun late => pass_frame_done (bitTicks_pos s p) f ?_, fun early => pass_frame_comes (bitTicks_pos s p) f ?_⟩
    · rw [total]
      exact Nat.mul_le_mul_right 16 late
    · rw [total]
      exact Nat.mul_lt_mul_of_pos_right early (by decide)

end Sys2Proof.Machine

/-! SUPPORT. The commands of the shaft link, read back from their frames (R134, R140, R150, R163, R168, R169). -/

namespace Sys2Proof.Machine

section
variable {own : Nat} {route : List Word} {dt : Nat} {i : Instr} {items : List Word} {f : Frame} {kind : Byte}

/-! ## What a good frame is read as -/

theorem goodFrame_ofChars (good : IsGood f) : goodFrame (received ⟨frameChars f, false⟩) = some f :=
  goodFrame_received.mpr ⟨rfl, rfl, good⟩

theorem shaftCommand_order (good : IsGood f) (here : f.dest.toNat = own) (order : f.kind = kindOrder) :
    shaftCommand own route dt ⟨frameChars f, false⟩ = orderCommand dt f.items := by
  unfold shaftCommand
  rw [goodFrame_ofChars good]
  simp only
  rw [if_pos here, if_pos order]

theorem shaftCommand_table (good : IsGood f) (here : f.dest.toNat = own) (table : f.kind = kindTable) :
    shaftCommand own route dt ⟨frameChars f, false⟩ = tableCommand dt f.items := by
  unfold shaftCommand
  rw [goodFrame_ofChars good]
  simp only
  rw [if_pos here, table, if_neg (by decide), if_pos rfl]

theorem shaftCommand_depth (good : IsGood f) (here : f.dest.toNat = own) (depth : f.kind = kindDepth) :
    shaftCommand own route dt ⟨frameChars f, false⟩ = .depth dt f.items := by
  unfold shaftCommand
  rw [goodFrame_ofChars good]
  simp only
  rw [if_pos here, depth, if_neg (by decide), if_neg (by decide), if_pos rfl]

/-- The address is that of a lane's node. -/
theorem not_unmapped (outer : 2 ≤ f.dest.toNat) (mapped : laneOfNumber (routeWord route f.dest.toNat 0) ≠ none) :
    ¬(f.dest.toNat ≤ 1 ∨ laneOfNumber (routeWord route f.dest.toNat 0) = none) :=
  not_or.mpr ⟨by omega, mapped⟩

theorem shaftCommand_demand (good : IsGood f) (other : f.dest.toNat ≠ own) (outer : 2 ≤ f.dest.toNat)
    (mapped : laneOfNumber (routeWord route f.dest.toNat 0) ≠ none) (demand : f.kind = kindDemand) :
    shaftCommand own route dt ⟨frameChars f, false⟩ = .operatorDemand dt f.dest f.items := by
  unfold shaftCommand
  rw [goodFrame_ofChars good]
  simp only
  rw [if_neg other, if_neg (not_unmapped outer mapped), if_pos demand]

theorem shaftCommand_node (good : IsGood f) (other : f.dest.toNat ≠ own) (outer : 2 ≤ f.dest.toNat)
    (mapped : laneOfNumber (routeWord route f.dest.toNat 0) ≠ none) (passes : routeWord route f.dest.toNat 2 = 1)
    (node : f.kind = kindNode) : shaftCommand own route dt ⟨frameChars f, false⟩ = .nodeDown dt f := by
  unfold shaftCommand
  rw [goodFrame_ofChars good]
  simp only
  rw [if_neg other, if_neg (not_unmapped outer mapped), node, if_neg (by decide), if_pos rfl, if_pos passes]

/-! ## The frames of the cab controller -/

theorem isGood_mkFrame {dest : Byte} (low : dest.toNat ≤ 63) (known : 1 ≤ kind.toNat ∧ kind.toNat ≤ 8)
    (few : items.length ≤ 24) : IsGood (mkFrame dest 1 kind items) :=
  ⟨by simp only [mkFrame], low, by simp only [mkFrame]; decide, known.1, known.2, few⟩

theorem ownAddress_toNat (most : own ≤ 9) : (BitVec.ofNat 8 own).toNat = own := by
  rw [BitVec.toNat_ofNat]
  omega

theorem isGood_own (most : own ≤ 9) (known : 1 ≤ kind.toNat ∧ kind.toNat ≤ 8) (few : items.length ≤ 24) :
    IsGood (mkFrame (BitVec.ofNat 8 own) 1 kind items) :=
  isGood_mkFrame ((ownAddress_toNat most).trans_le (by omega)) known few

/-! ## ORDER and TABLE commands, by their items -/

theorem orderCommand_badCode (bad : badOrderCode items = true) : orderCommand dt items = .orderBadCode dt items := by
  cases items with
  | nil => rfl
  | cons code args =>
    have unknown : code.toNat < 1 ∨ 13 < code.toNat := of_decide_eq_true bad
    unfold orderCommand
    simp only
    split
    case h_14 => rfl
    all_goals omega

theorem orderCommand_badTarget (bad : badModeTarget items = true) :
    orderCommand dt (6 :: items) = .modeBadTarget dt items := by
  cases items with
  | nil => rfl
  | cons target rest =>
    have unknown : target.toNat < 1 ∨ 4 < target.toNat := of_decide_eq_true bad
    show (match target.toNat with
      | 1 => _ | 2 => _ | 3 => _ | 4 => _ | _ => _) = _
    split
    case h_5 => rfl
    all_goals omega

/-- An ORDER frame is read as its command, and it carries at most 24 items. -/
theorem orderCommand_of (order : orderItemsOf i = some items) (wf : i.wf = true) :
    orderCommand i.dt items = i ∧ items.length ≤ 24 := by
  cases i with
  | keep | driveStart | driveStop | speed | setClass | pumpStart | pumpStop | panelBegin | panelEnd | setSpacing
  | tripReset | restart =>
    cases order
    exact ⟨rfl, of_decide_eq_true wf⟩
  | modeGearbox dt g args =>
    cases order
    cases g with
    | g1 => exact ⟨rfl, of_decide_eq_true wf⟩
    | g2 => exact ⟨rfl, of_decide_eq_true wf⟩
  | modeSteering | modePump =>
    cases order
    exact ⟨rfl, of_decide_eq_true wf⟩
  | modeBadTarget dt args =>
    cases order
    obtain ⟨few, bad⟩ := Bool.and_eq_true_iff.mp wf
    exact ⟨orderCommand_badTarget bad, of_decide_eq_true few⟩
  | orderBadCode dt items =>
    cases order
    obtain ⟨few, bad⟩ := Bool.and_eq_true_iff.mp wf
    exact ⟨orderCommand_badCode bad, of_decide_eq_true few⟩
  | _ => cases order

theorem tableCommand_badCode (bad : badTableCode items = true) : tableCommand dt items = .tableBadCode dt items := by
  cases items with
  | nil => rfl
  | cons code args =>
    obtain ⟨read, write⟩ : code.toNat ≠ 16 ∧ code.toNat ≠ 17 := of_decide_eq_true bad
    unfold tableCommand
    simp only
    rw [if_neg fun same => read (by rw [same]; rfl), if_neg fun same => write (by rw [same]; rfl)]

/-- A TABLE frame is read as its command, and it carries at most 24 items. -/
theorem tableCommand_of (table : tableItemsOf i = some items) (wf : i.wf = true) :
    tableCommand i.dt items = i ∧ items.length ≤ 24 := by
  cases i with
  | tableRead | tableWrite =>
    cases table
    exact ⟨rfl, of_decide_eq_true wf⟩
  | tableBadCode dt items =>
    cases table
    obtain ⟨few, bad⟩ := Bool.and_eq_true_iff.mp wf
    exact ⟨tableCommand_badCode bad, of_decide_eq_true few⟩
  | _ => cases table

end

/-- Settles O5. -/
theorem shaftFrameRoundTrip : Obligations.ShaftFrameRoundTrip := by
  unfold Obligations.ShaftFrameRoundTrip
  intro own route i f least most wf reaches written
  have here : (BitVec.ofNat 8 own).toNat = own := ownAddress_toNat most
  unfold commandFrame at written
  cases order : orderItemsOf i with
  | some items =>
    obtain ⟨back, few⟩ := orderCommand_of order wf
    rw [order] at written
    cases written
    exact (shaftCommand_order (isGood_own most (by decide) few) here rfl).trans back
  | none =>
    cases table : tableItemsOf i with
    | some items =>
      obtain ⟨back, few⟩ := tableCommand_of table wf
      rw [order, table] at written
      cases written
      exact (shaftCommand_table (isGood_own most (by decide) few) here rfl).trans back
    | none =>
      cases i with
      | depth dt items =>
        cases written
        exact shaftCommand_depth (isGood_own most (by decide) (of_decide_eq_true wf)) here rfl
      | operatorDemand dt dest items =>
        obtain ⟨low, few⟩ : dest.toNat ≤ 63 ∧ items.length ≤ maxItems := of_decide_eq_true wf
        obtain ⟨outer, other, mapped⟩ := reaches
        cases written
        exact shaftCommand_demand (isGood_mkFrame low (by decide) few) other outer mapped rfl
      | nodeDown dt frame =>
        obtain ⟨destLow, srcLow, node, few, check⟩ := of_decide_eq_true wf
        obtain ⟨outer, other, mapped, passes⟩ := reaches
        cases written
        have known : 1 ≤ f.kind.toNat ∧ f.kind.toNat ≤ 8 := by rw [node]; decide
        exact shaftCommand_node ⟨check, destLow, srcLow, known.1, known.2, few⟩ other outer mapped passes node
      | _ =>
        rw [order, table] at written
        cases written

end Sys2Proof.Machine
